-- ==== Sys2Proof/Word.lean ====
section
/-! DEFINITION. The words, the small index types and the fixed-length tables of the model. -/

namespace Sys2Proof

/-- Eight bits, as a port or the head link carries them (00 "Numbers and units"). -/
abbrev Byte := BitVec 8

/-- The cycle counter, a set's tag and a boundary's number: 32 bits, wrapping to 0 (00 "Cycles and tags"). -/
abbrev Cycle := BitVec 32

/-- A sequence counter: 48 bits, wrapping to 0 (R2). -/
abbrev Count48 := BitVec 48

/-- A 32-bit counter, wrapping to 0 (R1's wrap counter, R73's head counters). -/
abbrev Count32 := BitVec 32

/-- Ports A to D as 0 to 3 (R197). -/
abbrev PortId := Fin 4
/-- Context slots 0 to 3 (00 "Names"). -/
abbrev SlotId := Fin 4
/-- Sequences S0 to S7. -/
abbrev SeqId := Fin 8
/-- Numbering heads H0 to H23. -/
abbrev HeadId := Fin 24
/-- Field lines F0 to F23. -/
abbrev LineId := Fin 24
/-- Lane k of 1 to 4 is index k - 1. -/
abbrev LaneId := Fin 4
/-- Allocation list entries E0 to E15. -/
abbrev EntryId := Fin 16
/-- Imprint formats 0 to 7. -/
abbrev FormatId := Fin 8
/-- Mark channel k of 1 to 6 is index k - 1. -/
abbrev ChannelId := Fin 6

/-- The table whose item i is `f i`. -/
def tabulate {α : Type} {n : Nat} (f : Fin n → α) : Vector α n :=
  ⟨⟨(List.finRange n).map f⟩, by simp⟩

/-- The table with item i replaced by `f` of it. -/
def updateAt {α : Type} {n : Nat} (v : Vector α n) (i : Fin n) (f : α → α) : Vector α n :=
  v.set i (f v[i])

/-- Every item changed by `f`. -/
def mapTable {α β : Type} {n : Nat} (f : α → β) (v : Vector α n) : Vector β n :=
  tabulate fun i => f v[i]

/-- The first index that a test holds at, in ascending order. -/
def firstIndex {n : Nat} (p : Fin n → Bool) : Option (Fin n) :=
  (List.finRange n).find? p

@[simp] theorem tabulate_getElem {α : Type} {n : Nat} (f : Fin n → α) (i : Nat) (h : i < n) :
    (tabulate f)[i] = f ⟨i, h⟩ := by
  simp [tabulate]

theorem updateAt_getElem {α : Type} {n : Nat} (v : Vector α n) (i : Fin n) (f : α → α)
    (j : Nat) (h : j < n) : (updateAt v i f)[j] = if (i : Nat) = j then f v[j] else v[j] := by
  by_cases e : (i : Nat) = j
  · subst e; simp [updateAt]
  · simp [updateAt, e, Vector.getElem_set]

@[simp] theorem updateAt_getElem_same {α : Type} {n : Nat} (v : Vector α n) (i : Fin n) (f : α → α) :
    (updateAt v i f)[(i : Nat)] = f v[(i : Nat)] := by
  simp [updateAt_getElem]

theorem updateAt_getElem_other {α : Type} {n : Nat} (v : Vector α n) (i : Fin n) (f : α → α)
    (j : Nat) (h : j < n) (e : (i : Nat) ≠ j) : (updateAt v i f)[j] = v[j] := by
  simp [updateAt_getElem, e]

@[simp] theorem mapTable_getElem {α β : Type} {n : Nat} (f : α → β) (v : Vector α n)
    (i : Nat) (h : i < n) : (mapTable f v)[i] = f v[i] := by
  simp [mapTable]

end Sys2Proof
end

