-- ==== Sys2Proof/Config.lean ====
section
/-! DEFINITION. The free values: what the manual leaves open. None has a body, so no proof can see one. -/

namespace Sys2Proof

/-- What the head link can do by itself: the arbiter may choose an order, or the frame on the link ends (R86, R87). -/
inductive LinkStep where
  | chooses | ends
  deriving DecidableEq, Repr

end Sys2Proof

namespace Sys2Proof.Config

/-- The order in which the blocks take a boundary, as a code of a permutation (R32, R98, R110, R116; log 4).
Its argument is the model's counter of choices. -/
opaque blockOrder : Nat → Nat

/-- The order of the heads within one boundary, and of what the head link does among them, as a code of a permutation
(R83, R86; log 5, 36). -/
opaque headOrder : Nat → Nat

/-- Whether a boundary takes its retirement before its allocation (R58; log 6). -/
opaque retirementFirst : Nat → Bool

/-- The order of the steps of one hand-over, as a code of a permutation (R83, R86; log 5, 36). -/
opaque handOverOrder : Nat → Nat

/-- What the head link does while the heads take a boundary (R86, R87; log 36). -/
opaque linkAmongHeads : Nat → List LinkStep

/-- What the head link does within the hand-over of a boundary (R86, R87; log 36). -/
opaque linkInHandOver : Nat → List LinkStep

/-- The ports whose waiting request is taken between the retirement and the allocation of a boundary, in
order (R136, R137; log 36). -/
opaque requestsWithin : Nat → List PortId

/-- Whether something outside the part is connected to a field line (R177; log 10). -/
opaque lineConnected : LineId → Bool

/-- The level a pin takes when the part releases it, or when its pull-up is taken off (R177; log 10). -/
opaque releasedLevel : Nat → LineId → Bool

/-- The wire code of a REPORT_READ outcome (R114 and R197 fix none; log 16): 0 to 3 stand for
NOT_REQUIRED, MATCHED, MISREAD and REPEATED. -/
opaque readOutcomeCode : Fin 4 → Byte

/-- The wire code of a WITHDRAW_REPRINT outcome, REMOVED as true (R135 and R197 fix none; log 16). -/
opaque withdrawOutcomeCode : Bool → Byte

/-- The wire code of a probe's end and result: 0 COMPLETE, 1 EXHAUSTED, 2 CANCELLED (R23, R29; log 16). -/
opaque probeEndCode : Fin 3 → Byte

/-- The wire code of a skip-ahead's end: 0 DONE, 1 EXHAUSTED, 2 CANCELLED (R28, R29; log 16). -/
opaque skipEndCode : Fin 3 → Byte

end Sys2Proof.Config
end

