-- ==== Sys2Proof/Syntax.lean ====
section
/-! DEFINITION. The commands of the K46: one constructor for each row of spec/opcode_table.json. -/

namespace Sys2Proof

/-- The result a COMPLETION carries (R200). -/
inductive PrintResult where
  | printed | failed
  deriving DecidableEq, Repr

/-- What a STATE message reports (R75). -/
inductive HeadReport where
  | ready | fault
  deriving DecidableEq, Repr

/-- A frame as its receiver ended it (R188). -/
inductive RxFrame where
  | garbled
  | sound (body : List Byte)
  deriving DecidableEq, Repr

/-- One item of DEFINE_FORMAT as it stands on the wire (R78, R197). -/
inductive RawItem where
  | literal (text : List Byte)
  | number (reference fill : Nat)
  | check (reference : Nat)
  | lane
  | ply
  | job
  deriving DecidableEq, Repr

/-- The placement of PLACE_HEAD when it is not UNPLACED (R74). -/
structure RawPlacement where
  ply : Nat
  lane : Nat
  lag : Nat
  deriving DecidableEq, Repr

/-- The assignment of ASSIGN_HEAD when it is not NONE (R77). -/
structure RawAssignment where
  entry : Nat
  format : Nat
  deriving DecidableEq, Repr

/-- One constructor for each row of the table. A request carries its port and its parameters in the order
its rule names them, as numbers that may lie outside their ranges (R190, R197). -/
inductive Instr where
  /-- DEVICE_RESET (R31): `levels` are the levels on F0 to F23 when the reset ends (R176, R178). -/
  | deviceReset (levels : BitVec 24)
  /-- ENCODER_TRANSITION (R33): the new levels of ENC_A and ENC_B. -/
  | encoderTransition (a b : Bool)
  /-- INDEX_EDGE (R41): a rising edge of the line that holds INDEX. -/
  | indexEdge
  /-- MARK_EDGE (R43): a rising edge of the line that holds MARK of the channel. -/
  | markEdge (channel : ChannelId)
  /-- ORDER_DEADLINE (R83): the expiry step of one head at the present boundary. -/
  | orderDeadline (head : HeadId)
  /-- ORDER_SEND (R86): the arbiter chooses. -/
  | orderSend
  /-- ORDER_FRAME_END (R87). -/
  | orderFrameEnd
  /-- COMPLETION (R89). -/
  | completion (head : HeadId) (tag : Cycle) (result : PrintResult)
  /-- STATE_MESSAGE (R75). -/
  | stateMessage (head : HeadId) (report : HeadReport)
  /-- HEAD_FRAME_DISCARD (R88). -/
  | headFrameDiscard
  /-- HEAD_LINK_GAP_TIMEOUT (R200). -/
  | headLinkGapTimeout
  /-- PROBE_DRAW (R22). -/
  | probeDraw
  /-- SKIP_DRAW (R26). -/
  | skipDraw
  /-- SKIP_RESUME (R27). -/
  | skipResume
  /-- PORT_FRAME_RECEIVED (R189): a frame ends on a port. -/
  | portFrameReceived (port : PortId) (frame : RxFrame)
  /-- FRAME_GAP_TIMEOUT (R188). -/
  | frameGapTimeout (port : PortId)
  /-- BAD_STOP_BIT (R188). -/
  | badStopBit (port : PortId)
  /-- PORT_RESET (R192). -/
  | portReset (port : PortId)
  /-- GARBLED_FRAME (R190): a port takes a garbled frame. -/
  | garbledFrame (port : PortId)
  /-- UNKNOWN_REQUEST_CODE (R190): a port takes a frame whose body is no request. -/
  | unknownRequestCode (port : PortId) (body : List Byte)
  /-- FRAME_SEND_START (R191). -/
  | frameSendStart (port : PortId)
  /-- FRAME_SEND_END (R189). -/
  | frameSendEnd (port : PortId)
  /-- DEFINE_SEQUENCE (R5). -/
  | defineSequence (port : PortId) (slot sequence digits first last : Nat) (step : Int) (policy scheme : Nat)
  /-- LOAD_VALUE (R6). -/
  | loadValue (port : PortId) (slot sequence : Nat) (value : Int)
  /-- ADD_EXCLUSION (R9). -/
  | addExclusion (port : PortId) (slot sequence low high : Nat)
  /-- REMOVE_EXCLUSION (R10). -/
  | removeExclusion (port : PortId) (slot sequence low : Nat)
  /-- PROBE_SEQUENCE (R22). -/
  | probeSequence (port : PortId) (slot sequence count : Nat)
  /-- SKIP_AHEAD (R25). -/
  | skipAhead (port : PortId) (slot sequence count : Nat)
  /-- CANCEL_BACKGROUND (R29). -/
  | cancelBackground (port : PortId)
  /-- SET_WEB (R46). -/
  | setWeb (port : PortId) (repeatLength tolerance : Nat)
  /-- SET_LAGS (R50). -/
  | setLags (port : PortId) (merge inspect gate : Nat)
  /-- OPEN_RUN (R52). -/
  | openRun (port : PortId)
  /-- CLOSE_RUN (R52). -/
  | closeRun (port : PortId)
  /-- DEFINE_ENTRY (R54): `source` is the sequence or the base. -/
  | defineEntry (port : PortId) (slot entry lane mode source reprintFirst : Nat)
  /-- TRIM_LIST (R55). -/
  | trimList (port : PortId) (slot length : Nat)
  /-- PLACE_HEAD (R74): none is UNPLACED. -/
  | placeHead (port : PortId) (head : Nat) (placement : Option RawPlacement)
  /-- ASSIGN_HEAD (R77): none is NONE. -/
  | assignHead (port : PortId) (slot head : Nat) (assignment : Option RawAssignment)
  /-- DEFINE_FORMAT (R78). -/
  | defineFormat (port : PortId) (slot format : Nat) (items : List RawItem)
  /-- DEFINE_MARKS (R93). -/
  | defineMarks (port : PortId) (slot channel enabled : Nat) (positions : List Nat) (tolerance : Nat)
  /-- SET_MARK_WINDOW (R94). -/
  | setMarkWindow (port : PortId) (slot maskEnd closeAt : Nat)
  /-- SET_REG_STOP (R95). -/
  | setRegStop (port : PortId) (count : Nat)
  /-- SET_INSPECTION (R112): an entry, or 255 for NONE. -/
  | setInspection (port : PortId) (slot lane entry : Nat)
  /-- REPORT_READ (R114): the digits' character codes, and the check character's code or 0 for NONE. -/
  | reportRead (port : PortId) (lane : Nat) (digits : List Byte) (check : Nat)
  /-- REPORT_DEFECT (R115). -/
  | reportDefect (port : PortId) (lane defect : Nat)
  /-- REJECT_SETS (R117). -/
  | rejectSets (port : PortId) (firstTag count laneMask : Nat)
  /-- SET_GATE (R119). -/
  | setGate (port : PortId) (closeAt : Nat)
  /-- WITHDRAW_REPRINT (R135). -/
  | withdrawReprint (port : PortId) (slot sequence value : Nat)
  /-- RELEASE_JOURNAL (R153). -/
  | releaseJournal (port : PortId) (through : Nat)
  /-- OPEN_CONTEXT (R161). -/
  | openContext (port : PortId) (slot job lanes policy limit : Nat)
  /-- DISCARD (R162). -/
  | discard (port : PortId) (slot : Nat)
  /-- CLOSE_BUILD (R163). -/
  | closeBuild (port : PortId) (slot : Nat)
  /-- REOPEN (R165). -/
  | reopen (port : PortId) (slot : Nat)
  /-- ACTIVATE (R166): none is NEXT. -/
  | activate (port : PortId) (slot : Nat) (effective : Option Nat)
  /-- CANCEL_ACTIVATION (R168). -/
  | cancelActivation (port : PortId)
  /-- SUSPEND (R170). -/
  | suspend (port : PortId) (slot : Nat)
  /-- FLUSH (R173). -/
  | flush (port : PortId) (slot : Nat)
  /-- END_JOB (R174). -/
  | endJob (port : PortId) (slot : Nat)
  /-- ASSIGN_LINE (R179): the function and the pull-up by their codes (R197). -/
  | assignLine (port : PortId) (line function pullUp : Nat)
  /-- WRITE_LINES (R180): one bit for each line, F0 in bit 0. -/
  | writeLines (port : PortId) (mask levels : Nat)
  /-- SET_STOP (R183). -/
  | setStop (port : PortId)
  /-- CLEAR_STOP (R184). -/
  | clearStop (port : PortId) (cause : Nat)
  /-- SET_ROLE (R194). -/
  | setRole (port : PortId) (named role : Nat)
  /-- SET_NOTICES (R196). -/
  | setNotices (port : PortId) (categories : Nat)
  /-- READ_STATUS (R197). -/
  | readStatus (port : PortId)
  /-- READ_SET (R72, R199). -/
  | readSet (port : PortId) (tag : Nat) (page : Option Nat)
  /-- READ_SEQUENCE (R7, R199). -/
  | readSequence (port : PortId) (slot sequence : Nat) (page : Option Nat)
  /-- READ_QUEUE (R137, R199). -/
  | readQueue (port : PortId) (slot sequence : Nat) (page : Option Nat)
  /-- READ_CONTEXT (R175): the format number stands only when the part is FORMAT (R197). -/
  | readContext (port : PortId) (slot part : Nat) (format : Option Nat)
  /-- READ_HEAD (R91). -/
  | readHead (port : PortId) (head : Nat)
  /-- READ_REGISTRATION (R106, R199). -/
  | readRegistration (port : PortId) (page : Option Nat)
  /-- READ_LINES (R181). -/
  | readLines (port : PortId)
  /-- READ_BACKGROUND (R30). -/
  | readBackground (port : PortId)
  /-- READ_JOURNAL (R151). -/
  | readJournal (port : PortId) (fromIndex count : Nat)
  /-- EDGE_AGE_TICK (R35). -/
  | edgeAgeTick
  /-- PORT_BYTE_RECEIVED (R188). -/
  | portByteReceived (port : PortId) (byte : Byte)
  /-- HEAD_LINK_BYTE_RECEIVED (R200). -/
  | headLinkByteReceived (byte : Byte)
  /-- HEAD_LINK_BAD_STOP_BIT (R200). -/
  | headLinkBadStopBit
  /-- FIELD_LINE_LEVEL_CHANGE (R176): the new level on a line's pin. -/
  | fieldLineLevelChange (line : LineId) (level : Bool)
  deriving DecidableEq, Repr

end Sys2Proof
end

