-- ==== Sys2Proof/WellFormed.lean ====
section
/-! DEFINITION. Which commands are well formed: a request's parameters fit the widths of R197, and a frame
has a body of 1 to 128 bytes (R187). Ranges of meaning are not checked here: the part itself refuses those. -/

namespace Sys2Proof

/-- A number that fits `n` bytes. -/
def fitsBytes (n v : Nat) : Bool := v < 256 ^ n

/-- A signed number that fits `n` bytes in two's complement (R197). -/
def fitsSigned (n : Nat) (v : Int) : Bool := -(256 ^ n / 2 : Int) ≤ v && v < (256 ^ n / 2 : Int)

/-- A list or text whose length fits its count byte (R197). -/
def fitsCount {α : Type} (l : List α) : Bool := l.length < 256

/-- The items of DEFINE_FORMAT fit their bytes (R197). -/
def RawItem.wf : RawItem → Bool
  | .literal t => fitsCount t
  | .number r f => fitsBytes 1 r && fitsBytes 1 f
  | .check r => fitsBytes 1 r
  | .lane | .ply | .job => true

/-- The bytes an item of DEFINE_FORMAT takes (R197). -/
def RawItem.size : RawItem → Nat
  | .literal t => t.length + 2
  | .number _ _ => 3
  | .check _ => 2
  | .lane | .ply | .job => 1

/-- A list of parameters that leaves the whole body within the 128 bytes of a frame, with so many other bytes (R187). -/
def fitsBody (others listed : Nat) : Bool := others + listed ≤ 128

/-- A page byte, when present, fits one byte (R199). -/
def pageFits (p : Option Nat) : Bool := p.all (fitsBytes 1)

/-- A frame body has 1 to 128 bytes (R187). -/
def RxFrame.wf : RxFrame → Bool
  | .garbled => true
  | .sound b => 1 ≤ b.length && b.length ≤ 128

namespace Instr

/-- The command could be sent: every parameter fits its place on the wire. -/
def wf : Instr → Bool
  | .deviceReset _ | .encoderTransition _ _ | .indexEdge | .markEdge _ | .orderDeadline _ | .orderSend
  | .orderFrameEnd | .completion _ _ _ | .stateMessage _ _ | .headFrameDiscard | .headLinkGapTimeout
  | .probeDraw | .skipDraw | .skipResume | .frameGapTimeout _ | .badStopBit _ | .portReset _
  | .garbledFrame _ | .frameSendStart _ | .frameSendEnd _ | .edgeAgeTick | .portByteReceived _ _
  | .headLinkByteReceived _ | .headLinkBadStopBit | .fieldLineLevelChange _ _ => true
  | .portFrameReceived _ f => f.wf
  | .unknownRequestCode _ b => 1 ≤ b.length && b.length ≤ 128
  | .defineSequence _ sl sq d f l st po sc =>
    fitsBytes 1 sl && fitsBytes 1 sq && fitsBytes 1 d && fitsBytes 5 f && fitsBytes 5 l && fitsSigned 2 st
      && fitsBytes 1 po && fitsBytes 1 sc
  | .loadValue _ sl sq v => fitsBytes 1 sl && fitsBytes 1 sq && fitsSigned 5 v
  | .addExclusion _ sl sq a b => fitsBytes 1 sl && fitsBytes 1 sq && fitsBytes 5 a && fitsBytes 5 b
  | .removeExclusion _ sl sq a => fitsBytes 1 sl && fitsBytes 1 sq && fitsBytes 5 a
  | .probeSequence _ sl sq n | .skipAhead _ sl sq n => fitsBytes 1 sl && fitsBytes 1 sq && fitsBytes 2 n
  | .cancelBackground _ | .openRun _ | .closeRun _ | .cancelActivation _ | .setStop _ | .readStatus _
  | .readLines _ | .readBackground _ => true
  | .setWeb _ r t => fitsBytes 2 r && fitsBytes 2 t
  | .setLags _ m q g => fitsBytes 1 m && fitsBytes 1 q && fitsBytes 1 g
  | .defineEntry _ sl e la mo so rf =>
    fitsBytes 1 sl && fitsBytes 1 e && fitsBytes 1 la && fitsBytes 1 mo && fitsBytes 1 so && fitsBytes 1 rf
  | .trimList _ sl n => fitsBytes 1 sl && fitsBytes 1 n
  | .placeHead _ h p =>
    fitsBytes 1 h && p.all fun q => fitsBytes 1 q.ply && fitsBytes 1 q.lane && fitsBytes 1 q.lag
  | .assignHead _ sl h a =>
    fitsBytes 1 sl && fitsBytes 1 h && a.all fun q => fitsBytes 1 q.entry && fitsBytes 1 q.format
  | .defineFormat _ sl f is => fitsBytes 1 sl && fitsBytes 1 f && fitsCount is && is.all RawItem.wf
      && fitsBody 4 (is.map RawItem.size).sum
  | .defineMarks _ sl c en ps t =>
    fitsBytes 1 sl && fitsBytes 1 c && fitsBytes 1 en && fitsCount ps && ps.all (fitsBytes 3) && fitsBytes 2 t
      && fitsBody 7 (3 * ps.length)
  | .setMarkWindow _ sl m c => fitsBytes 1 sl && fitsBytes 2 m && fitsBytes 2 c
  | .setRegStop _ k => fitsBytes 1 k
  | .setInspection _ sl la e => fitsBytes 1 sl && fitsBytes 1 la && fitsBytes 1 e
  | .reportRead _ la ds c => fitsBytes 1 la && fitsCount ds && fitsBytes 1 c && fitsBody 4 ds.length
  | .reportDefect _ la d => fitsBytes 1 la && fitsBytes 1 d
  | .rejectSets _ t c m => fitsBytes 4 t && fitsBytes 2 c && fitsBytes 1 m
  | .setGate _ c => fitsBytes 2 c
  | .withdrawReprint _ sl sq v => fitsBytes 1 sl && fitsBytes 1 sq && fitsBytes 5 v
  | .releaseJournal _ i => fitsBytes 4 i
  | .openContext _ sl j la po li =>
    fitsBytes 1 sl && fitsBytes 3 j && fitsBytes 1 la && fitsBytes 1 po && fitsBytes 1 li
  | .discard _ sl | .closeBuild _ sl | .reopen _ sl | .suspend _ sl | .flush _ sl | .endJob _ sl => fitsBytes 1 sl
  | .activate _ sl x => fitsBytes 1 sl && x.all (fitsBytes 4)
  | .assignLine _ li f u => fitsBytes 1 li && fitsBytes 1 f && fitsBytes 1 u
  | .writeLines _ m l => fitsBytes 3 m && fitsBytes 3 l
  | .clearStop _ c => fitsBytes 1 c
  | .setRole _ n r => fitsBytes 1 n && fitsBytes 1 r
  | .setNotices _ c => fitsBytes 1 c
  | .readSet _ t pg => fitsBytes 4 t && pageFits pg
  | .readSequence _ sl sq pg | .readQueue _ sl sq pg => fitsBytes 1 sl && fitsBytes 1 sq && pageFits pg
  | .readContext _ sl pa f => fitsBytes 1 sl && fitsBytes 1 pa && f.all (fitsBytes 1) && (f.isSome == (pa == 3))
  | .readHead _ h => fitsBytes 1 h
  | .readRegistration _ pg => pageFits pg
  | .readJournal _ i c => fitsBytes 4 i && fitsBytes 1 c

end Instr

end Sys2Proof
end

