-- ==== Sys2Proof/Decode.lean ====
section
/-! DEFINITION. The wire form of numbers and requests (R190, R197): parseRequest reads a frame's body, and
encodeRequest writes it. No row of the opcode table carries bits, so decodeTableWord answers none. -/

namespace Sys2Proof

/-- A number as `n` bytes, most significant first (R197). -/
def be : Nat → Nat → List Byte
  | 0, _ => []
  | n + 1, v => BitVec.ofNat 8 (v / 256 ^ n) :: be n v

/-- A signed number as `n` bytes in two's complement (R197). -/
def beSigned (n : Nat) (v : Int) : List Byte := be n (v % (256 ^ n : Int)).toNat

/-- The signed number that an `n`-byte number stands for (R197). -/
def signedOf (n v : Nat) : Int := if v < 256 ^ n / 2 then (v : Int) else (v : Int) - (256 ^ n : Int)

/-- `n` bytes read as a number, most significant first, and the bytes after them. -/
def takeNumber : Nat → Nat → List Byte → Option (Nat × List Byte)
  | 0, acc, bs => some (acc, bs)
  | _ + 1, _, [] => none
  | n + 1, acc, b :: bs => takeNumber n (acc * 256 + b.toNat) bs

/-- Numbers of the given widths, one after another, with no byte left over (R190 check 4). -/
def fields : List Nat → List Byte → Option (List Nat)
  | [], bs => if bs.isEmpty then some [] else none
  | w :: ws, bs =>
    match takeNumber w 0 bs with
    | none => none
    | some (v, rest) => (fields ws rest).map (v :: ·)

/-- Numbers of the given widths, written one after another: pairs of width and value. -/
def writeFields (l : List (Nat × Nat)) : List Byte := l.flatMap fun f => be f.1 f.2

/-- One item of DEFINE_FORMAT (R197). -/
def takeItem : List Byte → Option (RawItem × List Byte)
  | [] => none
  | k :: bs =>
    match k.toNat, bs with
    | 0, n :: rest =>
      if n.toNat ≤ rest.length then some (.literal (rest.take n.toNat), rest.drop n.toNat) else none
    | 1, r :: f :: rest => some (.number r.toNat f.toNat, rest)
    | 2, r :: rest => some (.check r.toNat, rest)
    | 3, rest => some (.lane, rest)
    | 4, rest => some (.ply, rest)
    | 5, rest => some (.job, rest)
    | _, _ => none

/-- So many items, with no byte left over. -/
def takeItems : Nat → List Byte → Option (List RawItem)
  | 0, bs => if bs.isEmpty then some [] else none
  | n + 1, bs =>
    match takeItem bs with
    | none => none
    | some (i, rest) => (takeItems n rest).map (i :: ·)

/-- One item of DEFINE_FORMAT as written (R197). -/
def writeItem : RawItem → List Byte
  | .literal t => 0 :: BitVec.ofNat 8 t.length :: t
  | .number r f => 1 :: (be 1 r ++ be 1 f)
  | .check r => 2 :: be 1 r
  | .lane => [3]
  | .ply => [4]
  | .job => [5]

/-- A page byte, absent when none (R199). -/
def writePage : Option Nat → List Byte
  | none => []
  | some p => be 1 p

/-- The code of a request (R193's table in 11.6), or none for a command that is no request. -/
def requestCode : Instr → Option Nat
  | .defineSequence .. => some 0x01
  | .loadValue .. => some 0x02
  | .addExclusion .. => some 0x03
  | .removeExclusion .. => some 0x04
  | .probeSequence .. => some 0x05
  | .skipAhead .. => some 0x06
  | .cancelBackground .. => some 0x07
  | .setWeb .. => some 0x08
  | .setLags .. => some 0x09
  | .openRun .. => some 0x0A
  | .closeRun .. => some 0x0B
  | .defineEntry .. => some 0x0C
  | .trimList .. => some 0x0D
  | .placeHead .. => some 0x0E
  | .assignHead .. => some 0x0F
  | .defineFormat .. => some 0x10
  | .defineMarks .. => some 0x11
  | .setMarkWindow .. => some 0x12
  | .setRegStop .. => some 0x13
  | .setInspection .. => some 0x14
  | .reportRead .. => some 0x15
  | .reportDefect .. => some 0x16
  | .rejectSets .. => some 0x17
  | .setGate .. => some 0x18
  | .withdrawReprint .. => some 0x19
  | .releaseJournal .. => some 0x1A
  | .openContext .. => some 0x1B
  | .discard .. => some 0x1C
  | .closeBuild .. => some 0x1D
  | .reopen .. => some 0x1E
  | .activate .. => some 0x1F
  | .cancelActivation .. => some 0x20
  | .suspend .. => some 0x21
  | .flush .. => some 0x22
  | .endJob .. => some 0x23
  | .assignLine .. => some 0x24
  | .writeLines .. => some 0x25
  | .setStop .. => some 0x26
  | .clearStop .. => some 0x27
  | .setRole .. => some 0x28
  | .setNotices .. => some 0x29
  | .readStatus .. => some 0x30
  | .readSet .. => some 0x31
  | .readSequence .. => some 0x32
  | .readQueue .. => some 0x33
  | .readContext .. => some 0x34
  | .readHead .. => some 0x35
  | .readRegistration .. => some 0x36
  | .readLines .. => some 0x37
  | .readBackground .. => some 0x38
  | .readJournal .. => some 0x39
  | .deviceReset .. | .encoderTransition .. | .indexEdge | .markEdge .. | .orderDeadline .. | .orderSend
  | .orderFrameEnd | .completion .. | .stateMessage .. | .headFrameDiscard | .headLinkGapTimeout
  | .probeDraw | .skipDraw | .skipResume | .portFrameReceived .. | .frameGapTimeout .. | .badStopBit ..
  | .portReset .. | .garbledFrame .. | .unknownRequestCode .. | .frameSendStart .. | .frameSendEnd ..
  | .edgeAgeTick | .portByteReceived .. | .headLinkByteReceived .. | .headLinkBadStopBit
  | .fieldLineLevelChange .. => none

/-- The parameter bytes of a request, after its code (R197); empty for a command that is no request. -/
def encodeParameters : Instr → List Byte
  | .defineSequence _ sl sq d f l st po sc =>
    writeFields [(1, sl), (1, sq), (1, d), (5, f), (5, l), (2, (st % (256 ^ 2 : Int)).toNat), (1, po), (1, sc)]
  | .loadValue _ sl sq v => writeFields [(1, sl), (1, sq), (5, (v % (256 ^ 5 : Int)).toNat)]
  | .addExclusion _ sl sq a b => writeFields [(1, sl), (1, sq), (5, a), (5, b)]
  | .removeExclusion _ sl sq a => writeFields [(1, sl), (1, sq), (5, a)]
  | .probeSequence _ sl sq n => writeFields [(1, sl), (1, sq), (2, n)]
  | .skipAhead _ sl sq n => writeFields [(1, sl), (1, sq), (2, n)]
  | .setWeb _ r t => writeFields [(2, r), (2, t)]
  | .setLags _ m q g => writeFields [(1, m), (1, q), (1, g)]
  | .defineEntry _ sl e la mo so rf => writeFields [(1, sl), (1, e), (1, la), (1, mo), (1, so), (1, rf)]
  | .trimList _ sl n => writeFields [(1, sl), (1, n)]
  | .placeHead _ h none => writeFields [(1, h), (1, 0)]
  | .placeHead _ h (some q) => writeFields [(1, h), (1, 1), (1, q.ply), (1, q.lane), (1, q.lag)]
  | .assignHead _ sl h none => writeFields [(1, sl), (1, h), (1, 0)]
  | .assignHead _ sl h (some q) => writeFields [(1, sl), (1, h), (1, 1), (1, q.entry), (1, q.format)]
  | .defineFormat _ sl f is =>
    writeFields [(1, sl), (1, f), (1, is.length)] ++ is.flatMap writeItem
  | .defineMarks _ sl c en ps t =>
    writeFields [(1, sl), (1, c), (1, en), (1, ps.length)] ++ writeFields (ps.map (3, ·) ++ [(2, t)])
  | .setMarkWindow _ sl m c => writeFields [(1, sl), (2, m), (2, c)]
  | .setRegStop _ k => writeFields [(1, k)]
  | .setInspection _ sl la e => writeFields [(1, sl), (1, la), (1, e)]
  | .reportRead _ la ds c => writeFields [(1, la), (1, ds.length)] ++ ds ++ writeFields [(1, c)]
  | .reportDefect _ la d => writeFields [(1, la), (1, d)]
  | .rejectSets _ t c m => writeFields [(4, t), (2, c), (1, m)]
  | .setGate _ c => writeFields [(2, c)]
  | .withdrawReprint _ sl sq v => writeFields [(1, sl), (1, sq), (5, v)]
  | .releaseJournal _ i => writeFields [(4, i)]
  | .openContext _ sl j la po li => writeFields [(1, sl), (3, j), (1, la), (1, po), (1, li)]
  | .discard _ sl => writeFields [(1, sl)]
  | .closeBuild _ sl => writeFields [(1, sl)]
  | .reopen _ sl => writeFields [(1, sl)]
  | .activate _ sl none => writeFields [(1, sl), (1, 0)]
  | .activate _ sl (some x) => writeFields [(1, sl), (1, 1), (4, x)]
  | .suspend _ sl => writeFields [(1, sl)]
  | .flush _ sl => writeFields [(1, sl)]
  | .endJob _ sl => writeFields [(1, sl)]
  | .assignLine _ li f u => writeFields [(1, li), (1, f), (1, u)]
  | .writeLines _ m l => writeFields [(3, m), (3, l)]
  | .clearStop _ c => writeFields [(1, c)]
  | .setRole _ n r => writeFields [(1, n), (1, r)]
  | .setNotices _ c => writeFields [(1, c)]
  | .readSet _ t pg => writeFields [(4, t)] ++ writePage pg
  | .readSequence _ sl sq pg => writeFields [(1, sl), (1, sq)] ++ writePage pg
  | .readQueue _ sl sq pg => writeFields [(1, sl), (1, sq)] ++ writePage pg
  | .readContext _ sl pa f => writeFields [(1, sl), (1, pa)] ++ writePage f
  | .readHead _ h => writeFields [(1, h)]
  | .readRegistration _ pg => writePage pg
  | .readJournal _ i c => writeFields [(4, i), (1, c)]
  | .deviceReset .. | .encoderTransition .. | .indexEdge | .markEdge .. | .orderDeadline .. | .orderSend
  | .orderFrameEnd | .completion .. | .stateMessage .. | .headFrameDiscard | .headLinkGapTimeout
  | .probeDraw | .skipDraw | .skipResume | .portFrameReceived .. | .frameGapTimeout .. | .badStopBit ..
  | .portReset .. | .garbledFrame .. | .unknownRequestCode .. | .frameSendStart .. | .frameSendEnd ..
  | .edgeAgeTick | .portByteReceived .. | .headLinkByteReceived .. | .headLinkBadStopBit
  | .fieldLineLevelChange .. | .cancelBackground .. | .openRun .. | .closeRun .. | .cancelActivation ..
  | .setStop .. | .readStatus .. | .readLines .. | .readBackground .. => []

/-- The body of a request's frame: its code and its parameters (R197). -/
def encodeRequest (c : Instr) : List Byte :=
  match requestCode c with
  | none => []
  | some k => BitVec.ofNat 8 k :: encodeParameters c

/-- The positions and the tolerance of DEFINE_MARKS, after their count byte (R197). -/
def takeMarks (count : Nat) (bs : List Byte) : Option (List Nat × Nat) :=
  match fields (List.replicate count 3 ++ [2]) bs with
  | none => none
  | some l => l.getLast?.map fun t => (l.dropLast, t)

/-- The request that the parameter bytes of a code spell, on the port they arrived on (R197). -/
def parseParameters (p : PortId) (code : Nat) (bs : List Byte) : Option Instr :=
  match code with
  | 0x01 =>
    match fields [1, 1, 1, 5, 5, 2, 1, 1] bs with
    | some [sl, sq, d, f, l, st, po, sc] => some (.defineSequence p sl sq d f l (signedOf 2 st) po sc)
    | _ => none
  | 0x02 =>
    match fields [1, 1, 5] bs with
    | some [sl, sq, v] => some (.loadValue p sl sq (signedOf 5 v))
    | _ => none
  | 0x03 =>
    match fields [1, 1, 5, 5] bs with
    | some [sl, sq, a, b] => some (.addExclusion p sl sq a b)
    | _ => none
  | 0x04 =>
    match fields [1, 1, 5] bs with
    | some [sl, sq, a] => some (.removeExclusion p sl sq a)
    | _ => none
  | 0x05 =>
    match fields [1, 1, 2] bs with
    | some [sl, sq, n] => some (.probeSequence p sl sq n)
    | _ => none
  | 0x06 =>
    match fields [1, 1, 2] bs with
    | some [sl, sq, n] => some (.skipAhead p sl sq n)
    | _ => none
  | 0x07 => if bs.isEmpty then some (.cancelBackground p) else none
  | 0x08 =>
    match fields [2, 2] bs with
    | some [r, t] => some (.setWeb p r t)
    | _ => none
  | 0x09 =>
    match fields [1, 1, 1] bs with
    | some [m, q, g] => some (.setLags p m q g)
    | _ => none
  | 0x0A => if bs.isEmpty then some (.openRun p) else none
  | 0x0B => if bs.isEmpty then some (.closeRun p) else none
  | 0x0C =>
    match fields [1, 1, 1, 1, 1, 1] bs with
    | some [sl, e, la, mo, so, rf] => some (.defineEntry p sl e la mo so rf)
    | _ => none
  | 0x0D =>
    match fields [1, 1] bs with
    | some [sl, n] => some (.trimList p sl n)
    | _ => none
  | 0x0E =>
    match fields [1, 1] bs, fields [1, 1, 1, 1, 1] bs with
    | some [h, 0], _ => some (.placeHead p h none)
    | _, some [h, 1, ply, la, lag] => some (.placeHead p h (some ⟨ply, la, lag⟩))
    | _, _ => none
  | 0x0F =>
    match fields [1, 1, 1] bs, fields [1, 1, 1, 1, 1] bs with
    | some [sl, h, 0], _ => some (.assignHead p sl h none)
    | _, some [sl, h, 1, e, f] => some (.assignHead p sl h (some ⟨e, f⟩))
    | _, _ => none
  | 0x10 =>
    match bs with
    | sl :: f :: n :: rest => (takeItems n.toNat rest).map (.defineFormat p sl.toNat f.toNat)
    | _ => none
  | 0x11 =>
    match bs with
    | sl :: c :: en :: n :: rest =>
      (takeMarks n.toNat rest).map fun m => .defineMarks p sl.toNat c.toNat en.toNat m.1 m.2
    | _ => none
  | 0x12 =>
    match fields [1, 2, 2] bs with
    | some [sl, m, c] => some (.setMarkWindow p sl m c)
    | _ => none
  | 0x13 =>
    match fields [1] bs with
    | some [k] => some (.setRegStop p k)
    | _ => none
  | 0x14 =>
    match fields [1, 1, 1] bs with
    | some [sl, la, e] => some (.setInspection p sl la e)
    | _ => none
  | 0x15 =>
    match bs with
    | la :: n :: rest =>
      if rest.length = n.toNat + 1 then
        rest.getLast?.map fun c => .reportRead p la.toNat rest.dropLast c.toNat
      else none
    | _ => none
  | 0x16 =>
    match fields [1, 1] bs with
    | some [la, d] => some (.reportDefect p la d)
    | _ => none
  | 0x17 =>
    match fields [4, 2, 1] bs with
    | some [t, c, m] => some (.rejectSets p t c m)
    | _ => none
  | 0x18 =>
    match fields [2] bs with
    | some [c] => some (.setGate p c)
    | _ => none
  | 0x19 =>
    match fields [1, 1, 5] bs with
    | some [sl, sq, v] => some (.withdrawReprint p sl sq v)
    | _ => none
  | 0x1A =>
    match fields [4] bs with
    | some [i] => some (.releaseJournal p i)
    | _ => none
  | 0x1B =>
    match fields [1, 3, 1, 1, 1] bs with
    | some [sl, j, la, po, li] => some (.openContext p sl j la po li)
    | _ => none
  | 0x1C =>
    match fields [1] bs with
    | some [sl] => some (.discard p sl)
    | _ => none
  | 0x1D =>
    match fields [1] bs with
    | some [sl] => some (.closeBuild p sl)
    | _ => none
  | 0x1E =>
    match fields [1] bs with
    | some [sl] => some (.reopen p sl)
    | _ => none
  | 0x1F =>
    match fields [1, 1] bs, fields [1, 1, 4] bs with
    | some [sl, 0], _ => some (.activate p sl none)
    | _, some [sl, 1, x] => some (.activate p sl (some x))
    | _, _ => none
  | 0x20 => if bs.isEmpty then some (.cancelActivation p) else none
  | 0x21 =>
    match fields [1] bs with
    | some [sl] => some (.suspend p sl)
    | _ => none
  | 0x22 =>
    match fields [1] bs with
    | some [sl] => some (.flush p sl)
    | _ => none
  | 0x23 =>
    match fields [1] bs with
    | some [sl] => some (.endJob p sl)
    | _ => none
  | 0x24 =>
    match fields [1, 1, 1] bs with
    | some [li, f, u] => some (.assignLine p li f u)
    | _ => none
  | 0x25 =>
    match fields [3, 3] bs with
    | some [m, l] => some (.writeLines p m l)
    | _ => none
  | 0x26 => if bs.isEmpty then some (.setStop p) else none
  | 0x27 =>
    match fields [1] bs with
    | some [c] => some (.clearStop p c)
    | _ => none
  | 0x28 =>
    match fields [1, 1] bs with
    | some [n, r] => some (.setRole p n r)
    | _ => none
  | 0x29 =>
    match fields [1] bs with
    | some [c] => some (.setNotices p c)
    | _ => none
  | 0x30 => if bs.isEmpty then some (.readStatus p) else none
  | 0x31 =>
    match fields [4] bs, fields [4, 1] bs with
    | some [t], _ => some (.readSet p t none)
    | _, some [t, pg] => some (.readSet p t (some pg))
    | _, _ => none
  | 0x32 =>
    match fields [1, 1] bs, fields [1, 1, 1] bs with
    | some [sl, sq], _ => some (.readSequence p sl sq none)
    | _, some [sl, sq, pg] => some (.readSequence p sl sq (some pg))
    | _, _ => none
  | 0x33 =>
    match fields [1, 1] bs, fields [1, 1, 1] bs with
    | some [sl, sq], _ => some (.readQueue p sl sq none)
    | _, some [sl, sq, pg] => some (.readQueue p sl sq (some pg))
    | _, _ => none
  | 0x34 =>
    match fields [1, 1] bs, fields [1, 1, 1] bs with
    | some [sl, pa], _ => if pa = 3 then none else some (.readContext p sl pa none)
    | _, some [sl, 3, f] => some (.readContext p sl 3 (some f))
    | _, _ => none
  | 0x35 =>
    match fields [1] bs with
    | some [h] => some (.readHead p h)
    | _ => none
  | 0x36 =>
    match bs, fields [1] bs with
    | [], _ => some (.readRegistration p none)
    | _, some [pg] => some (.readRegistration p (some pg))
    | _, _ => none
  | 0x37 => if bs.isEmpty then some (.readLines p) else none
  | 0x38 => if bs.isEmpty then some (.readBackground p) else none
  | 0x39 =>
    match fields [4, 1] bs with
    | some [i, c] => some (.readJournal p i c)
    | _ => none
  | _ => none

/-- The request that a frame's body spells on the port it arrived on; none when its first byte is no request
code or its length does not fit the request (R190 checks 2 and 4). -/
def parseRequest (p : PortId) : List Byte → Option Instr
  | [] => none
  | k :: bs => parseParameters p k.toNat bs

/-- The bytes that are request codes (R193's table in 11.6). -/
def isRequestCode (k : Nat) : Bool := (1 ≤ k && k ≤ 0x29) || (0x30 ≤ k && k ≤ 0x39)

/-- No row of spec/opcode_table.json carries bits, so no word spells a command. -/
def decodeTableWord (_nbits _w : Nat) : Option Instr := none

end Sys2Proof
end

