-- ==== Sys2Proof/Machine/State.lean ====
section
/-! DEFINITION. The state of the K46: every block's registers as plain data, the stop reasons, and the
machine right after a device reset. -/

namespace Sys2Proof.Machine

/-- No command faults: the part refuses an impossible request with a status and degrades every press
condition it cannot refuse (00 "Refusal and degradation"). Nothing raises it, so it is safe. -/
inductive Fault where
  deriving DecidableEq, Repr

/-- The reasons for which the model gives a command no meaning. -/
inductive Refusal where
  /-- Raised by an arm of exec whose command has no meaning yet. Safe: the model stops. No arm raises it. -/
  | notModelled (mnemonic : String)
  deriving DecidableEq, Repr

/-! ## Web Position Unit (R31) -/

/-- The direction of the last counted edge (R31). -/
inductive Direction where
  | forward | reverse
  deriving DecidableEq, Repr

/-- Whether an index edge near the start of the cycle confirms the boundary (R31). -/
inductive IndexPending where
  | none | afterSynthetic | afterRecovery
  deriving DecidableEq, Repr

/-- How a cycle began (R31). -/
inductive Opening where
  | normal | early | synthetic | indexless
  deriving DecidableEq, Repr

/-- The levels of ENC_A and ENC_B (R31, R33). -/
structure Levels where
  a : Bool
  b : Bool
  deriving DecidableEq, Repr

/-- The WPU's fields (R31), and the largest deficit of the present episode that R39's notice carries. -/
structure Wpu where
  repeatLength : Nat
  tolerance : Nat
  position : Nat
  cycle : Cycle
  direction : Direction
  reversal : Bool
  backed : Bool
  deficit : Nat
  episodeMax : Nat
  far : Bool
  /-- T -/
  interval : Nat
  /-- t -/
  edgeAge : Nat
  reference : Option Levels
  indexPending : IndexPending
  opening : Option Opening
  deriving DecidableEq, Repr

/-! ## Mark Timing Unit (R92, R96, R105) -/

/-- The settings of an enabled channel (R92). -/
structure ChannelMarks where
  positions : List Nat
  tolerance : Nat
  deriving DecidableEq, Repr

/-- A mark settings record (R92); a disabled channel holds none. -/
structure MarkSettings where
  channels : Vector (Option ChannelMarks) 6
  maskEnd : Nat
  closeAt : Nat
  deriving DecidableEq, Repr

/-- Where the present measurement stands (R96). -/
inductive MeasureState where
  | idle | masked | collecting | closed
  deriving DecidableEq, Repr

/-- A collected mark: P in eighths and the COARSE flag (R96). -/
structure Hit where
  place : Nat
  coarse : Bool
  deriving DecidableEq, Repr

/-- The event that closed a measurement (R101). -/
inductive CloseCause where
  | position | full | boundary
  deriving DecidableEq, Repr

/-- The judgement of a channel (R104, R105). -/
inductive ChannelStatus where
  | ok | outOfTolerance | missing | extra | notEnabled
  deriving DecidableEq, Repr

/-- The error of one pair and whether its hit was COARSE (R105). -/
structure PairError where
  error : Int
  coarse : Bool
  deriving DecidableEq, Repr

/-- What a registration record holds of one channel (R105). -/
structure ChannelResult where
  status : ChannelStatus
  errors : List PairError
  hits : Nat
  deriving DecidableEq, Repr

/-- A registration record (R105); `faulty` is the summary FAULT. -/
structure RegRecord where
  cycle : Cycle
  judged : Option Cycle
  slot : SlotId
  cause : CloseCause
  channels : Vector ChannelResult 6
  faulty : Bool
  counterAfter : Nat
  deriving DecidableEq, Repr

/-- The settings a measurement uses, with the slot they were copied from (R96, R98). -/
structure Armed where
  slot : SlotId
  settings : MarkSettings
  deriving DecidableEq, Repr

/-- The MTU's fields (R96). -/
structure Mtu where
  state : MeasureState
  cycle : Cycle
  armed : Option Armed
  judged : Option Cycle
  hits : Vector (List Hit) 6
  dropped : Vector Bool 6
  last : Option RegRecord
  faults : Nat
  /-- K -/
  stopCount : Nat
  deriving DecidableEq, Repr

/-! ## Set Tracker (R49, R67, R68, R119) -/

/-- A cause for rejecting a lane, in the order of R67. -/
inductive Reason where
  | headFailed | headLate | headNotReady | registration | misread | unread | defect | unnumbered | operator | flushed
  deriving DecidableEq, Repr

/-- A reason set as R197 numbers its bits. -/
abbrev ReasonSet := BitVec 10

/-- The origin at the root of a number (R68). -/
inductive RootOrigin where
  | fresh | reprint
  deriving DecidableEq, Repr

/-- The origin of a numbered entry; a REPEAT holds its base and the base origin (R68). -/
inductive Origin where
  | fresh | reprint
  | repeated (base : EntryId) (root : RootOrigin)
  deriving DecidableEq, Repr

/-- What a numbered entry carries (R68). -/
structure Number where
  value : Nat
  check : Option Nat
  origin : Origin
  spoil : Nat
  deriving DecidableEq, Repr

/-- The state of an entry part (R68). -/
inductive EntryState where
  | numbered (n : Number)
  | blank
  | unnumbered
  deriving DecidableEq, Repr

/-- One entry part of a set record (R68). -/
structure EntryPart where
  lane : LaneId
  sequence : Option SeqId
  state : EntryState
  deriving DecidableEq, Repr

/-- What became of a head's order for a set, in the order of R67. `unused` stands for a head that is not
assigned in the set's context. -/
inductive HeadOutcome where
  | unused | pending | ordered | printed | failed | late | notReady | cancelled | notIssued
  deriving DecidableEq, Repr

/-- A lane's inspection state (R67). -/
inductive Inspection where
  | notRequired | awaiting | readOk | misread | unread
  deriving DecidableEq, Repr

/-- One lane part of a set record (R67). -/
structure LanePart where
  inspection : Inspection
  reasons : ReasonSet
  primary : Option Reason
  deriving DecidableEq, Repr

/-- The registration summary of a set (R67). -/
inductive RegSummary where
  | ok | fault | notMeasured
  deriving DecidableEq, Repr

/-- A set record (R67); `lanes` holds one part for each lane of its job, from lane 1. -/
structure SetRecord where
  tag : Cycle
  slot : SlotId
  entries : List EntryPart
  reservation : Nat
  heads : Vector HeadOutcome 24
  lanes : List LanePart
  registration : RegSummary
  deriving DecidableEq, Repr

/-- A gate record (R119); an asserted gate's release point is a position, or none for BOUNDARY. -/
inductive Gate where
  | released
  | asserted (tag : Cycle) (release : Option Nat)
  deriving DecidableEq, Repr

/-- The ST's fields: the lags and the run gate (R49), the ring, oldest first (R69), and the gates (R119). -/
structure Tracker where
  /-- M -/
  merge : Nat
  /-- Q -/
  inspect : Nat
  /-- G -/
  gateLag : Nat
  runOpen : Bool
  ring : List SetRecord
  gateClose : Nat
  gates : Vector Gate 4
  deriving DecidableEq, Repr

/-! ## Number Generator (R1, R2, R8, R20, R127) -/

/-- The state of a defined sequence (R1); an UNDEFINED one has no record. -/
inductive SeqState where
  | live | exhausted
  deriving DecidableEq, Repr

/-- What a draw does when the candidate leaves the bounds (R1). -/
inductive EndPolicy where
  | halt | wrap
  deriving DecidableEq, Repr

/-- How a check character is computed (R1). -/
inductive CheckScheme where
  | none | w31 | m11 | m7
  deriving DecidableEq, Repr

/-- One entry of a reprint queue (R127). -/
structure QueueEntry where
  value : Nat
  spoil : Nat
  reason : Reason
  tag : Cycle
  deriving DecidableEq, Repr

/-- A defined sequence (R1, R2) with its reprint queue, oldest first (R127). -/
structure Sequence where
  state : SeqState
  digits : Nat
  first : Nat
  last : Nat
  step : Int
  value : Int
  policy : EndPolicy
  scheme : CheckScheme
  wraps : Count32
  drawn : Count48
  issued : Count48
  voided : Count48
  queued : Count48
  held : Count48
  queue : List QueueEntry
  deriving DecidableEq, Repr

/-- One exclusion range (R8). -/
structure Exclusion where
  sequence : SeqId
  low : Nat
  high : Nat
  deriving DecidableEq, Repr

/-- How a probe ended (R23, R29). -/
inductive ProbeEnd where
  | complete (value : Nat)
  | exhausted (draws : Nat)
  | cancelled
  deriving DecidableEq, Repr

/-- A probe (R22, R23): its copy of the sequence and of its ranges, and its progress. It is RUNNING while
`ended` is none. -/
structure Probe where
  slot : SlotId
  sequence : SeqId
  count : Nat
  copy : Sequence
  ranges : List Exclusion
  draws : Nat
  wraps : Count32
  stale : Bool
  ended : Option ProbeEnd
  deriving DecidableEq, Repr

/-- How a skip-ahead ended (R28, R29). -/
inductive SkipEnd where
  | done | exhausted | cancelled
  deriving DecidableEq, Repr

/-- A skip-ahead (R25 to R29). It is RUNNING or HELD while `ended` is none. -/
structure Skip where
  slot : SlotId
  sequence : SeqId
  count : Nat
  remaining : Nat
  voided : Nat
  next : Int
  held : Bool
  ended : Option SkipEnd
  deriving DecidableEq, Repr

/-- The background record (R20). -/
inductive Background where
  | none
  | probe (p : Probe)
  | skip (k : Skip)
  deriving DecidableEq, Repr

/-! ## Job contexts (R53, R77, R78, R111, R126, R158) -/

/-- The state of a slot that is not EMPTY (R158). -/
inductive JobState where
  | building | ready | active | draining | parked
  deriving DecidableEq, Repr

/-- The spoil policy (R126). -/
inductive SpoilPolicy where
  | reprint | void
  deriving DecidableEq, Repr

/-- Where an entry's number comes from (R53). -/
inductive EntryMode where
  | fresh (sequence : SeqId) (reprintFirst : Bool)
  | repeated (base : EntryId)
  | blank
  deriving DecidableEq, Repr

/-- One entry of an allocation list (R53). -/
structure AllocEntry where
  lane : LaneId
  mode : EntryMode
  deriving DecidableEq, Repr

/-- The entry a format item refers to (R78). -/
inductive EntryRef where
  | entry (e : EntryId)
  | own
  deriving DecidableEq, Repr

/-- The fill of a NUMBER item (R78). -/
inductive Fill where
  | zero | blank
  deriving DecidableEq, Repr

/-- One item of a format (R78). -/
inductive FormatItem where
  | literal (text : List Byte)
  | number (reference : EntryRef) (fill : Fill)
  | check (reference : EntryRef)
  | lane
  | ply
  | job
  deriving DecidableEq, Repr

/-- An assignment other than NONE (R77). -/
structure Assignment where
  entry : EntryId
  format : FormatId
  deriving DecidableEq, Repr

/-- A slot record that is not EMPTY, with its contents (R158); `lanes` counts the job's lanes. -/
structure Context where
  state : JobState
  job : Nat
  lanes : Nat
  policy : SpoilPolicy
  limit : Nat
  suspend : Bool
  inFlight : Nat
  sequences : Vector (Option Sequence) 8
  exclusions : List Exclusion
  list : List AllocEntry
  assignments : Vector (Option Assignment) 24
  formats : Vector (Option (List FormatItem)) 8
  marks : MarkSettings
  inspection : Vector (Option EntryId) 4
  deriving DecidableEq, Repr

/-- The state a pending activation came from (R158). -/
inductive ActivationOrigin where
  | ready | parked
  deriving DecidableEq, Repr

/-- A pending activation (R158). -/
structure Activation where
  slot : SlotId
  effective : Cycle
  origin : ActivationOrigin
  deriving DecidableEq, Repr

/-! ## Head Order Unit (R73, R82, R85) -/

/-- Where a head stands (R73). -/
structure Placement where
  ply : Nat
  lane : LaneId
  lag : Nat
  deriving DecidableEq, Repr

/-- What a head last reported of itself (R73). -/
inductive Device where
  | offline | ready | faulted
  deriving DecidableEq, Repr

/-- An outstanding order (R82). -/
structure Order where
  tag : Cycle
  text : List Byte
  deriving DecidableEq, Repr

/-- A head record (R73). -/
structure Head where
  placement : Option Placement
  device : Device
  queue : List Order
  issued : Count32
  printed : Count32
  failed : Count32
  late : Count32
  deriving DecidableEq, Repr

/-- An order that waits to be sent, with the boundary it was issued at (R85, R86). -/
structure WaitingOrder where
  boundary : Cycle
  head : HeadId
  order : Order
  deriving DecidableEq, Repr

/-- Where a receiver stands within a frame (R186, R188), with what it has taken so far. -/
inductive Receiver where
  | hunting
  | length
  | body (len : Nat) (got : List Byte)
  | check (body : List Byte) (high : Option Byte)
  deriving DecidableEq, Repr

/-- The HOU's global fields (R73, R85). The transmit queue stands in sending order (R86). -/
structure Hou where
  heads : Vector Head 24
  transmit : List WaitingOrder
  sending : Option (List Byte)
  receiver : Receiver
  deriving DecidableEq, Repr

/-! ## Issue Journal (R140, R142, R149) -/

/-- What became of a spoiled number (R128). -/
inductive Disposition where
  | requeued | voided | voidedQueueFull | voidedLimit
  deriving DecidableEq, Repr

/-- Why a queued number was voided (R142). -/
inductive VoidCause where
  | withdrawn | ended
  deriving DecidableEq, Repr

/-- The final counters of one sequence (R142). -/
structure FinalCounters where
  drawn : Count48
  issued : Count48
  voided : Count48
  queued : Count48
  held : Count48
  deriving DecidableEq, Repr

/-- What a journal record carries besides its index, job id and stamp, by kind, in the order of R142. -/
inductive RecordBody where
  | issuedRun (sequence : SeqId) (lanes : BitVec 4) (first last : Nat) (count : Nat) (step : Int)
  | reissued (sequence : SeqId) (lane : LaneId) (value spoil : Nat)
  | spoiled (sequence : SeqId) (lane : LaneId) (value : Nat) (disposition : Disposition) (reason : Reason) (spoil : Nat)
  | voidRun (sequence : SeqId) (first last : Nat) (count : Nat) (step : Int)
  | voidedQueued (sequence : SeqId) (value : Nat) (cause : VoidCause) (reason : Reason) (spoil : Nat)
  | valueLoaded (sequence : SeqId) (old new : Int)
  | exclusionAdded (sequence : SeqId) (low high : Nat)
  | jobActivated (resumed : Bool)
  | jobSuspended
  | jobEnded (counters : Vector (Option FinalCounters) 8)
  | flushed (marked : Nat)
  deriving DecidableEq, Repr

/-- A held journal record with its read mark (R140, R142). -/
structure Record where
  index : Cycle
  job : Nat
  stamp : Cycle
  body : RecordBody
  read : Bool
  deriving DecidableEq, Repr

/-- The tail's state and the slot that wrote it (R140, R144). -/
structure Tail where
  isOpen : Bool
  slot : SlotId
  deriving DecidableEq, Repr

/-- A context record that waits for the journal (R149): JOB_ACTIVATED with RESUMED or FIRST, or JOB_SUSPENDED
when `activated` is none. -/
structure Deferred where
  activated : Option Bool
  slot : SlotId
  job : Nat
  stamp : Cycle
  deriving DecidableEq, Repr

/-- The IJ's fields (R140). The held count, the oldest index and the newest record are read from `records`. -/
structure Journal where
  records : List Record
  next : Cycle
  tail : Option Tail
  reserved : Nat
  contextReserved : Vector Nat 4
  deferred : List Deferred
  deriving DecidableEq, Repr

/-! ## Line Matrix (R176, R182) -/

/-- What a field line carries (R176). -/
inductive LineFunction where
  | genIn | genOut | encA | encB | index
  | mark (channel : ChannelId)
  | gate (lane : LaneId)
  | stopReq
  deriving DecidableEq, Repr

/-- A line record (R176). -/
structure Line where
  function : LineFunction
  pullUp : Bool
  latch : Bool
  level : Bool
  deriving DecidableEq, Repr

/-- The five stop causes (R182). -/
inductive StopCause where
  | seqExhausted | journalHigh | regRun | headFault | operatorStop
  deriving DecidableEq, Repr

/-- The stop cause set as R197 numbers its bits. -/
abbrev StopSet := BitVec 5

/-- The LM's fields. -/
structure LineMatrix where
  lines : Vector Line 24
  stops : StopSet
  deriving DecidableEq, Repr

/-! ## Port Interface (R186) -/

/-- What a port's controller may ask, in the order of R186. -/
inductive Role where
  | supervisor | drive | inspect | monitor
  deriving DecidableEq, Repr

/-- A frame in a receive buffer, taken or not (R186). -/
structure BufferedFrame where
  frame : RxFrame
  taken : Bool
  deriving DecidableEq, Repr

/-- A frame that waits to be sent: a response or a notice, its flags byte not yet filled (R191). -/
structure OutFrame where
  response : Bool
  body : List Byte
  deriving DecidableEq, Repr

/-- The frame on a transmit line. A response holds a place in the receive buffer until it ends (R189), unless a
port reset discarded that place (R192). -/
structure SentFrame where
  bytes : List Byte
  holdsPlace : Bool
  deriving DecidableEq, Repr

/-- A port record (R186); `out` holds the formed responses and the notice queue in the order made (R191), and
`subscription` the categories as R196 numbers its bits. -/
structure Port where
  role : Role
  receiver : Receiver
  buffer : List BufferedFrame
  subscription : BitVec 6
  out : List OutFrame
  overrun : Bool
  dropped : Bool
  sending : Option SentFrame
  deriving DecidableEq, Repr

/-! ## The whole part -/

/-- The K46. `pending` and `choices` are the model's own: the commands that wait, and how many free values
have been used. -/
structure State where
  wpu : Wpu
  mtu : Mtu
  st : Tracker
  background : Background
  slots : Vector (Option Context) 4
  activation : Option Activation
  hou : Hou
  ij : Journal
  lm : LineMatrix
  ports : Vector Port 4
  pending : List Instr
  choices : Nat
  deriving DecidableEq, Repr

/-- A head after a device reset (R73). -/
def Head.reset : Head :=
  { placement := none, device := .offline, queue := [], issued := 0, printed := 0, failed := 0, late := 0 }

/-- A line after a device reset (R176), with its pin high (log 9). -/
def Line.reset : Line := { function := .genIn, pullUp := true, latch := false, level := true }

/-- A port after a device reset (R186), with the role its straps give it. -/
def Port.reset (r : Role) : Port :=
  { role := r, receiver := .hunting, buffer := [], subscription := 0, out := [], overrun := false,
    dropped := false, sending := none }

/-- The machine right after a device reset of a board that leaves every line open (R31, R49, R73, R85, R96, R119,
R140, R158, R176, R178, R182, R186; the levels on the pins are log 9). -/
def State.reset : State where
  wpu :=
    { repeatLength := 10000, tolerance := 16, position := 0, cycle := 0, direction := .forward,
      reversal := false, backed := false, deficit := 0, episodeMax := 0, far := false, interval := 65535,
      edgeAge := 65535, reference := none, indexPending := .none, opening := none }
  mtu :=
    { state := .idle, cycle := 0, armed := none, judged := none, hits := tabulate fun _ => [],
      dropped := tabulate fun _ => false, last := none, faults := 0, stopCount := 0 }
  st :=
    { merge := 0, inspect := 0, gateLag := 0, runOpen := false, ring := [], gateClose := 1000,
      gates := tabulate fun _ => .released }
  background := .none
  slots := tabulate fun _ => none
  activation := none
  hou := { heads := tabulate fun _ => Head.reset, transmit := [], sending := none, receiver := .hunting }
  ij :=
    { records := [], next := 0, tail := none, reserved := 0, contextReserved := tabulate fun _ => 0,
      deferred := [] }
  lm := { lines := tabulate fun _ => Line.reset, stops := 0 }
  ports := tabulate fun p => Port.reset (if p = 0 then .supervisor else .monitor)
  pending := []
  choices := 0

end Sys2Proof.Machine
end

