-- ==== Sys2Proof/Machine/Wire.lean ====
section
/-! DEFINITION. How fields, frames and the named values of the state stand on the wire (R187, R197). -/

namespace Sys2Proof.Machine

/-- One byte holding a small number. -/
def byte (n : Nat) : Byte := BitVec.ofNat 8 n

/-- A flag: 1 or 0 (R197). -/
def flagByte (b : Bool) : Byte := if b then 1 else 0

/-- An optional field: a presence byte, then the field when present (R197). -/
def optBytes {α : Type} (f : α → List Byte) : Option α → List Byte
  | none => [0]
  | some a => 1 :: f a

/-- A list: a count byte, then the items (R197). -/
def listBytes {α : Type} (f : α → List Byte) (l : List α) : List Byte := byte l.length :: l.flatMap f

/-- Text: a length byte, then the character codes (R197). -/
def textBytes (t : List Byte) : List Byte := byte t.length :: t

/-- A cycle number, a tag, a journal index or a 32-bit counter (R197). -/
def wordBytes (c : Cycle) : List Byte := be 4 c.toNat

/-- A sequence counter (R197). -/
def countBytes (c : Count48) : List Byte := be 6 c.toNat

/-- A check character: its digit's code, or 0 for none (R197). -/
def checkByte : Option Nat → Byte
  | none => 0
  | some d => byte (0x30 + d)

/-! ## Frames (R187) -/

/-- One shift of the CRC register. -/
def crcShift (r : BitVec 16) : BitVec 16 :=
  if r.msb then (r <<< 1) ^^^ 0x1021 else r <<< 1

/-- One byte combined into the CRC register (R187). -/
def crcByte (r : BitVec 16) (b : Byte) : BitVec 16 :=
  let x := r ^^^ ((b.zeroExtend 16) <<< 8)
  crcShift (crcShift (crcShift (crcShift (crcShift (crcShift (crcShift (crcShift x)))))))

/-- The frame check over LEN and body (R187). -/
def crc (bs : List Byte) : BitVec 16 := bs.foldl crcByte 0xFFFF

/-- A whole frame: SYNC, LEN, body and check (R187). -/
def frameBytes (body : List Byte) : List Byte :=
  let counted := byte body.length :: body
  0xC5 :: counted ++ be 2 (crc counted).toNat

/-! ## Named values by their place in the list of their rule (R197) -/

/-- R31: FORWARD, REVERSE. -/
def Direction.code : Direction → Byte
  | .forward => 0
  | .reverse => 1

/-- R31: NONE, AFTER_SYNTHETIC, AFTER_RECOVERY. -/
def IndexPending.code : IndexPending → Byte
  | .none => 0
  | .afterSynthetic => 1
  | .afterRecovery => 2

/-- R31: NORMAL, EARLY, SYNTHETIC, INDEXLESS. -/
def Opening.code : Opening → Byte
  | .normal => 0
  | .early => 1
  | .synthetic => 2
  | .indexless => 3

/-- R96: IDLE, MASKED, COLLECTING, CLOSED. -/
def MeasureState.code : MeasureState → Byte
  | .idle => 0
  | .masked => 1
  | .collecting => 2
  | .closed => 3

/-- R101 and R105: POSITION, FULL, BOUNDARY. -/
def CloseCause.code : CloseCause → Byte
  | .position => 0
  | .full => 1
  | .boundary => 2

/-- R105: OK, OUT_OF_TOLERANCE, MISSING, EXTRA, NOT_ENABLED. -/
def ChannelStatus.code : ChannelStatus → Byte
  | .ok => 0
  | .outOfTolerance => 1
  | .missing => 2
  | .extra => 3
  | .notEnabled => 4

/-- The reasons in the order of R67. -/
def Reason.index : Reason → Nat
  | .headFailed => 0
  | .headLate => 1
  | .headNotReady => 2
  | .registration => 3
  | .misread => 4
  | .unread => 5
  | .defect => 6
  | .unnumbered => 7
  | .operator => 8
  | .flushed => 9

/-- A reason on the wire (R197). -/
def Reason.code (r : Reason) : Byte := byte r.index

/-- The head states in the order of R67. -/
def HeadOutcome.index : HeadOutcome → Nat
  | .unused => 0
  | .pending => 1
  | .ordered => 2
  | .printed => 3
  | .failed => 4
  | .late => 5
  | .notReady => 6
  | .cancelled => 7
  | .notIssued => 8

/-- R67: NOT_REQUIRED, AWAITING, READ_OK, MISREAD, UNREAD. -/
def Inspection.code : Inspection → Byte
  | .notRequired => 0
  | .awaiting => 1
  | .readOk => 2
  | .misread => 3
  | .unread => 4

/-- R67: OK, FAULT, NOT_MEASURED. -/
def RegSummary.code : RegSummary → Byte
  | .ok => 0
  | .fault => 1
  | .notMeasured => 2

/-- R1: UNDEFINED, LIVE, EXHAUSTED; an UNDEFINED sequence has no record. -/
def seqStateCode : Option Sequence → Byte
  | none => 0
  | some q => match q.state with
    | .live => 1
    | .exhausted => 2

/-- R1: HALT, WRAP. -/
def EndPolicy.code : EndPolicy → Byte
  | .halt => 0
  | .wrap => 1

/-- R1: NONE, W31, M11, M7. -/
def CheckScheme.code : CheckScheme → Byte
  | .none => 0
  | .w31 => 1
  | .m11 => 2
  | .m7 => 3

/-- R158: EMPTY, BUILDING, READY, ACTIVE, DRAINING, PARKED; an EMPTY slot has no context. -/
def jobStateCode : Option JobState → Byte
  | none => 0
  | some .building => 1
  | some .ready => 2
  | some .active => 3
  | some .draining => 4
  | some .parked => 5

/-- R126: REPRINT, VOID. -/
def SpoilPolicy.code : SpoilPolicy → Byte
  | .reprint => 0
  | .void => 1

/-- R158: READY, PARKED. -/
def ActivationOrigin.code : ActivationOrigin → Byte
  | .ready => 0
  | .parked => 1

/-- R73: OFFLINE, READY, FAULTED. -/
def Device.code : Device → Byte
  | .offline => 0
  | .ready => 1
  | .faulted => 2

/-- The origin, disposition or cause byte of a journal record (R198). -/
def Disposition.code : Disposition → Byte
  | .requeued => 2
  | .voided => 3
  | .voidedQueueFull => 4
  | .voidedLimit => 5

/-- The cause byte of a VOIDED_QUEUED record (R198). -/
def VoidCause.code : VoidCause → Byte
  | .withdrawn => 6
  | .ended => 7

/-- R176: GEN_IN, GEN_OUT, ENC_A, ENC_B, INDEX, MARK_1 to MARK_6, GATE_1 to GATE_4, STOP_REQ. -/
def LineFunction.place : LineFunction → Nat
  | .genIn => 0
  | .genOut => 1
  | .encA => 2
  | .encB => 3
  | .index => 4
  | .mark c => 5 + c
  | .gate l => 11 + l
  | .stopReq => 15

/-- The function with a given place in R176's list. -/
def LineFunction.ofIndex (n : Nat) : Option LineFunction :=
  match n with
  | 0 => some .genIn
  | 1 => some .genOut
  | 2 => some .encA
  | 3 => some .encB
  | 4 => some .index
  | 15 => some .stopReq
  | n => if h : n < 11 then some (.mark ⟨n - 5, by omega⟩)
    else if h : n < 15 then some (.gate ⟨n - 11, by omega⟩) else none

/-- The bit of a stop cause (R182, R197). -/
def StopCause.bit : StopCause → Nat
  | .seqExhausted => 0
  | .journalHigh => 1
  | .regRun => 2
  | .headFault => 3
  | .operatorStop => 4

/-- The stop cause with a given place in R182's list. -/
def StopCause.ofCode (n : Nat) : Option StopCause :=
  match n with
  | 0 => some .seqExhausted
  | 1 => some .journalHigh
  | 2 => some .regRun
  | 3 => some .headFault
  | 4 => some .operatorStop
  | _ => none

/-- R186: SUPERVISOR, DRIVE, INSPECT, MONITOR. -/
def Role.code : Role → Byte
  | .supervisor => 0
  | .drive => 1
  | .inspect => 2
  | .monitor => 3

/-- The role with a given place in R186's list. -/
def Role.ofCode (n : Nat) : Option Role :=
  match n with
  | 0 => some .supervisor
  | 1 => some .drive
  | 2 => some .inspect
  | 3 => some .monitor
  | _ => none

/-- The statuses of R193's chapter (11.6). -/
inductive Status where
  | ok | roleDenied | wrongState | badValue | busy | notFound | tooLate | journalFull | lineTaken | garbled | noSet
  deriving DecidableEq, Repr

/-- The code of a status (11.6). -/
def Status.code : Status → Byte
  | .ok => 0x00
  | .roleDenied => 0x01
  | .wrongState => 0x02
  | .badValue => 0x03
  | .busy => 0x04
  | .notFound => 0x05
  | .tooLate => 0x06
  | .journalFull => 0x07
  | .lineTaken => 0x08
  | .garbled => 0x09
  | .noSet => 0x0A

/-- The sixteen notices (R195). -/
inductive NoticeKind where
  | encoderError | webBacked | webBackedFar | webRecovered | indexSlip | indexLate | indexMissing
  | probeDone | skipDone | regFault | headState | headStale | setRejected | defectReported | jobState | stopState
  deriving DecidableEq, Repr

/-- The code of a notice (R195). -/
def NoticeKind.code : NoticeKind → Byte
  | .encoderError => 0xE0
  | .webBacked => 0xE1
  | .webBackedFar => 0xE2
  | .webRecovered => 0xE3
  | .indexSlip => 0xE4
  | .indexLate => 0xE5
  | .indexMissing => 0xE6
  | .probeDone => 0xE7
  | .skipDone => 0xE8
  | .regFault => 0xE9
  | .headState => 0xEA
  | .headStale => 0xEB
  | .setRejected => 0xEC
  | .defectReported => 0xED
  | .jobState => 0xEE
  | .stopState => 0xEF

/-- The subscription bit of a notice's category: WEB, NUMBERING, REGISTRATION, HEADS, VERDICTS, JOBS (R195, R196). -/
def NoticeKind.category : NoticeKind → Nat
  | .encoderError | .webBacked | .webBackedFar | .webRecovered | .indexSlip | .indexLate | .indexMissing => 0
  | .probeDone | .skipDone => 1
  | .regFault => 2
  | .headState | .headStale => 3
  | .setRejected | .defectReported => 4
  | .jobState | .stopState => 5

end Sys2Proof.Machine
end

