-- ==== Sys2Proof/Machine/Ops.lean ====
section
/-! DEFINITION. The shared operations over the state: notices, stop causes, driven lines, sets, contexts and
the journal. -/

namespace Sys2Proof.Machine

/-! ## Orders that the manual leaves open -/

/-- A permutation of a list named by a code: the next item is the one the code picks among those left. -/
def permuteSteps {α : Type} : Nat → Nat → List α → List α
  | 0, _, _ => []
  | n + 1, code, l =>
    (l.drop (code % l.length)).take 1 ++ permuteSteps n (code / l.length) (l.eraseIdx (code % l.length))

/-- A permutation of a list named by a code. -/
def permute {α : Type} (code : Nat) (l : List α) : List α := permuteSteps l.length code l

/-! ## Notices (R195) -/

/-- The notices that wait at a port (R186). -/
def Port.noticeCount (p : Port) : Nat := (p.out.filter fun f => !f.response).length

/-- A notice's copy is offered to one port: queued, or dropped with the dropped flag, or not for this port (R195). -/
def Port.offer (category : Nat) (body : List Byte) (p : Port) : Port :=
  if p.subscription.getLsbD category then
    if p.noticeCount < 8 then { p with out := p.out ++ [{ response := false, body := body }] }
    else { p with dropped := true }
  else p

/-- A notice is made: its head carries the code, an empty flags byte and the cycle counter (R195, R197). -/
def notify (k : NoticeKind) (payload : List Byte) (s : State) : State :=
  { s with ports := mapTable (Port.offer k.category (k.code :: 0 :: wordBytes s.wpu.cycle ++ payload)) s.ports }

/-! ## Field lines (R176, R177) -/

/-- A line holds the function. -/
def holdsFunction (s : State) (f : LineFunction) : Bool := s.lm.lines.toList.any fun l => l.function == f

/-- The line that holds a function, the lowest one when several do. -/
def lineOf (s : State) (f : LineFunction) : Option LineId := firstIndex fun i => s.lm.lines[i].function == f

/-- The present levels of the lines that hold ENC_A and ENC_B, none unless both are held (R33, R48). -/
def encoderLevels (s : State) : Option Levels :=
  match lineOf s .encA, lineOf s .encB with
  | some a, some b => some { a := s.lm.lines[a].level, b := s.lm.lines[b].level }
  | _, _ => none

/-- Changes of the WPU's fields alone. -/
def modifyWpu (f : Wpu → Wpu) (s : State) : State := { s with wpu := f s.wpu }

/-- Gate k's record is ASSERTED. -/
def Gate.isAsserted : Gate → Bool
  | .released => false
  | .asserted _ _ => true

/-- The level that a function drives, none for an input function (R177). -/
def driveOf (s : State) (l : Line) : Option Bool :=
  match l.function with
  | .genOut => some l.latch
  | .gate k => some s.st.gates[k].isAsserted
  | .stopReq => some (s.lm.stops != 0)
  | .genIn | .encA | .encB | .index | .mark _ => none

/-- The level that field line i drives (R177). -/
def lineDrive (s : State) (i : LineId) : Option Bool := driveOf s s.lm.lines[i]

/-- The lines that hold an output function show the level it now drives (R176, R177). -/
def showDriven (f : LineFunction) (level : Bool) (s : State) : State :=
  { s with lm := { s.lm with
      lines := mapTable (fun l => if l.function = f then { l with level := level } else l) s.lm.lines } }

/-! ## Stop causes (R182, R185) -/

/-- The cause is LATCHED. -/
def latched (s : State) (c : StopCause) : Bool := s.lm.stops.getLsbD c.bit

/-- The set with one more cause. -/
def withCause (set : StopSet) (c : StopCause) : StopSet := set ||| ((1 : StopSet) <<< c.bit)

/-- The set with one cause less. -/
def withoutCause (set : StopSet) (c : StopCause) : StopSet := set &&& ~~~((1 : StopSet) <<< c.bit)

/-- The stop cause set changes; a STOP_REQ line follows it when its level changes (R185), and STOP_STATE is sent
with the cause, its new state (LATCHED 0, CLEAR 1) and the set (R182). -/
def changeStops (c : StopCause) (now : StopSet) (state : Byte) (s : State) : State :=
  let s1 : State := { s with lm := { s.lm with stops := now } }
  let s2 := if (s.lm.stops != 0) = (now != 0) then s1 else showDriven .stopReq (now != 0) s1
  notify .stopState [byte c.bit, state, byte now.toNat] s2

/-- A block asks for a cause to be latched (R182). -/
def latchStop (c : StopCause) (s : State) : State :=
  if latched s c then s else changeStops c (withCause s.lm.stops c) 0 s

/-- A LATCHED cause becomes CLEAR (R184). -/
def clearCause (c : StopCause) (s : State) : State := changeStops c (withoutCause s.lm.stops c) 1 s

/-! ## Gates (R119, R177) -/

/-- A gate record changes, and the line that holds its GATE function follows it. -/
def setGateRecord (k : LaneId) (g : Gate) (s : State) : State :=
  let s1 : State := { s with st := { s.st with gates := s.st.gates.set k g } }
  if s.st.gates[k].isAsserted = g.isAsserted then s1 else showDriven (.gate k) g.isAsserted s1

/-! ## Contexts and sequences -/

/-- The context of a slot is changed; an EMPTY slot stays EMPTY. -/
def modifyContext (k : SlotId) (f : Context → Context) (s : State) : State :=
  { s with slots := updateAt s.slots k (Option.map f) }

/-- A defined sequence of a context is changed. -/
def Context.modifySequence (q : SeqId) (f : Sequence → Sequence) (c : Context) : Context :=
  { c with sequences := updateAt c.sequences q (Option.map f) }

/-- A defined sequence of a slot is changed. -/
def modifySequence (k : SlotId) (q : SeqId) (f : Sequence → Sequence) (s : State) : State :=
  modifyContext k (Context.modifySequence q f) s

/-- The defined sequence of a slot. -/
def sequenceOf (s : State) (k : SlotId) (q : SeqId) : Option Sequence := s.slots[k].bind fun c => c.sequences[q]

/-- The ranges of one sequence, in table order (R8). -/
def Context.rangesOf (c : Context) (q : SeqId) : List Exclusion := c.exclusions.filter fun r => r.sequence == q

/-- The state of a slot, none for EMPTY. -/
def slotState (s : State) (k : SlotId) : Option JobState := s.slots[k].map Context.state

/-- The slot that is in a state, the lowest one. -/
def slotIn (s : State) (j : JobState) : Option SlotId := firstIndex fun k => slotState s k == some j

/-- The slot of the ACTIVE context. -/
def activeSlot (s : State) : Option SlotId := slotIn s .active

/-- Some context is ACTIVE or DRAINING, or an activation is pending: geometry and frozen lines may not change. -/
def running (s : State) : Bool :=
  (slotIn s .active).isSome || (slotIn s .draining).isSome || s.activation.isSome

/-- The slot has a pending activation (R167). -/
def isPendingSlot (s : State) (k : SlotId) : Bool := s.activation.any fun a => a.slot == k

/-- JOB_STATE: the slot, its job id, the state before and after, and the effective cycle of a pending activation
on the slot (R159). -/
def notifyJob (k : SlotId) (job : Option Nat) (before after : Option JobState) (s : State) : State :=
  let eff := s.activation.bind fun a => if a.slot = k then some a.effective else none
  notify .jobState
    (byte k :: optBytes (be 3) job ++ [jobStateCode before, jobStateCode after] ++ optBytes wordBytes eff) s

/-- A context takes a new state, its suspend flag clear (R158). -/
def Context.enter (j : JobState) (c : Context) : Context := { c with state := j, suspend := false }

/-! ## Sets of the ring (R51, R110) -/

/-- The set of the ring with a tag (R51). -/
def setTagged (s : State) (t : Cycle) : Option SetRecord := s.st.ring.find? fun r => r.tag == t

/-- The set at age k (R51). -/
def setAtAge (s : State) (k : Nat) : Option SetRecord := setTagged s (s.wpu.cycle - BitVec.ofNat 32 k)

/-- The sets with a tag are changed. -/
def modifySet (t : Cycle) (f : SetRecord → SetRecord) (s : State) : State :=
  { s with st := { s.st with ring := s.st.ring.map fun r => if r.tag = t then f r else r } }

/-- The lane holds the reason. -/
def LanePart.has (l : LanePart) (r : Reason) : Bool := l.reasons.getLsbD r.index

/-- A reason is added to a lane; the first one becomes its primary reason (R110). -/
def LanePart.add (r : Reason) (l : LanePart) : LanePart :=
  { l with
    reasons := l.reasons ||| ((1 : ReasonSet) <<< r.index),
    primary := if l.reasons = 0 then some r else l.primary }

/-- A lane is rejected when its reason set is not empty (R110). -/
def LanePart.rejected (l : LanePart) : Bool := l.reasons != 0

/-- One lane of a set is changed; a lane beyond its job's lanes is none. -/
def SetRecord.modifyLane (l : LaneId) (f : LanePart → LanePart) (r : SetRecord) : SetRecord :=
  { r with lanes := r.lanes.modify l f }

/-- A reason is added to one lane of a set (R110). -/
def SetRecord.addReason (l : LaneId) (why : Reason) (r : SetRecord) : SetRecord :=
  r.modifyLane l (LanePart.add why)

/-! ## The journal (R140 to R150) -/

/-- The unreserved free count (R140). -/
def Journal.unreserved (j : Journal) : Nat := 1024 - (j.records.length + j.reserved)

/-- The kinds whose tail may be OPEN (R142, R143). -/
def RecordBody.isRun : RecordBody → Bool
  | .issuedRun .. | .voidRun .. => true
  | .reissued .. | .spoiled .. | .voidedQueued .. | .valueLoaded .. | .exclusionAdded .. | .jobActivated ..
  | .jobSuspended | .jobEnded .. | .flushed .. => false

/-- A record is appended at the next index and becomes the tail, UNREAD (R143). -/
def Journal.append (slot : SlotId) (job : Nat) (stamp : Cycle) (b : RecordBody) (j : Journal) : Journal :=
  { j with
    records := j.records ++ [{ index := j.next, job := job, stamp := stamp, body := b, read := false }],
    next := j.next + 1,
    tail := some { isOpen := b.isRun, slot := slot } }

/-- The run with one more value, when the value continues it (R145). -/
def RecordBody.extend (tail new : RecordBody) : Option RecordBody :=
  match tail, new with
  | .issuedRun q ls first last n step, .issuedRun q' l v _ _ step' =>
    if q = q' ∧ step = step' ∧ (v : Int) = last + step ∧ n < 65535 then
      some (.issuedRun q (ls ||| l) first v (n + 1) step)
    else none
  | .voidRun q first last n step, .voidRun q' v _ _ step' =>
    if q = q' ∧ step = step' ∧ (v : Int) = last + step ∧ n < 65535 then
      some (.voidRun q first v (n + 1) step)
    else none
  | _, _ => none

/-- The number of values in a run record (R142). -/
def RecordBody.count : RecordBody → Nat
  | .issuedRun _ _ _ _ n _ | .voidRun _ _ _ n _ => n
  | .reissued .. | .spoiled .. | .voidedQueued .. => 1
  | .valueLoaded .. | .exclusionAdded .. | .jobActivated .. | .jobSuspended | .jobEnded .. | .flushed .. => 0

/-- A record handed over merges into the open tail, or not (R144, R145). -/
def Journal.merge (slot : SlotId) (job : Nat) (b : RecordBody) (j : Journal) : Option Journal :=
  match j.tail, j.records.getLast? with
  | some t, some r =>
    if t.isOpen ∧ t.slot = slot ∧ r.job = job then
      (r.body.extend b).map fun b' =>
        { j with
          records := j.records.dropLast ++ [{ r with body := b' }],
          tail := some { t with isOpen := b'.count < 65535 } }
    else none
  | _, _ => none

/-- After an event that lowers the unreserved free count: below 128, JOURNAL_HIGH latches (R150). -/
def testThreshold (s : State) : State :=
  if s.ij.unreserved < 128 then latchStop .journalHigh s else s

/-- A record appended from unreserved space (R143); its writer has found the space. -/
def journalUnreserved (slot : SlotId) (job : Nat) (stamp : Cycle) (b : RecordBody) (s : State) : State :=
  testThreshold { s with ij := s.ij.append slot job stamp b }

/-- A record of a retiring set: merged, or appended from the set's reservation (R143, R145). Answers whether it
consumed one record. -/
def journalFromSet (slot : SlotId) (job : Nat) (b : RecordBody) (s : State) : State × Bool :=
  match s.ij.merge slot job b with
  | some j => ({ s with ij := j }, false)
  | none => ({ s with ij := { s.ij.append slot job s.wpu.cycle b with reserved := s.ij.reserved - 1 } }, true)

/-- The body of a deferred context record (R149). -/
def Deferred.body (d : Deferred) : RecordBody :=
  match d.activated with
  | some resumed => .jobActivated resumed
  | none => .jobSuspended

/-- A JOB_SUSPENDED consumes its context's reservation (R149). -/
def consumeContext (k : SlotId) (j : Journal) : Journal :=
  { j with reserved := j.reserved - 1, contextReserved := updateAt j.contextReserved k (· - 1) }

/-- One context record is appended, in the space R149 gives its kind. -/
def appendContextRecord (d : Deferred) (s : State) : State :=
  match d.activated with
  | some _ => journalUnreserved d.slot d.job d.stamp d.body s
  | none => { s with ij := consumeContext d.slot (s.ij.append d.slot d.job d.stamp d.body) }

/-- The space of a context record is there: one unreserved record for JOB_ACTIVATED, its own reservation for
JOB_SUSPENDED (R149). -/
def contextSpace (d : Deferred) (s : State) : Bool := d.activated.isNone || 0 < s.ij.unreserved

/-- The Context Store hands the journal a context record (R149). -/
def contextRecord (d : Deferred) (s : State) : State :=
  if s.ij.deferred.isEmpty && contextSpace d s then appendContextRecord d s
  else { s with ij := { s.ij with deferred := s.ij.deferred ++ [d] } }

/-- The deferred records are appended in list order as long as each finds its space (R149). -/
def appendDeferred : List Deferred → State → State
  | [], s => { s with ij := { s.ij with deferred := [] } }
  | d :: ds, s =>
    if contextSpace d s then appendDeferred ds (appendContextRecord d s)
    else { s with ij := { s.ij with deferred := d :: ds } }

/-- A HELD skip-ahead becomes RUNNING when the unreserved free count is above 0 (R27). -/
def resumeSkip (s : State) : State :=
  match s.background with
  | .skip k =>
    if k.held && k.ended.isNone && decide (0 < s.ij.unreserved) then
      { s with background := .skip { k with held := false } }
    else s
  | .none | .probe _ => s

/-- What an event that raises the unreserved free count does: first the deferred list, then a HELD skip-ahead
(R147, R149, R154). -/
def afterRaise (s : State) : State := resumeSkip (appendDeferred s.ij.deferred s)

/-- So many reserved records return to unreserved space (R146). -/
def returnReserved (n : Nat) (s : State) : State :=
  if n = 0 then s else afterRaise { s with ij := { s.ij with reserved := s.ij.reserved - n } }

/-- So many unreserved records become reserved (R146, R150); the caller has found them free. -/
def reserveRecords (n : Nat) (s : State) : State :=
  if n = 0 then s else testThreshold { s with ij := { s.ij with reserved := s.ij.reserved + n } }

/-- The context parks: PARKED, with its JOB_SUSPENDED record written or deferred (R169, R170, R172). -/
def parkContext (k : SlotId) (s : State) : State :=
  match s.slots[k] with
  | none => s
  | some c =>
    contextRecord { activated := none, slot := k, job := c.job, stamp := s.wpu.cycle }
      (modifyContext k (Context.enter .parked) s)

/-- The background operation that makes a slot busy (R21). -/
def busySlotOf : Background → Option SlotId
  | .none => none
  | .probe p => if p.ended.isNone then some p.slot else none
  | .skip k => if k.ended.isNone then some k.slot else none

/-- A probe RUNNING on a sequence becomes STALE (R24). -/
def makeStale (k : SlotId) (q : SeqId) (s : State) : State :=
  match s.background with
  | .probe p =>
    if p.ended.isNone && p.slot == k && p.sequence == q then
      { s with background := .probe { p with stale := true } }
    else s
  | .none | .skip _ => s

end Sys2Proof.Machine
end

