-- ==== Sys2Proof/Machine/Operands.lean ====
section
/-! DEFINITION. Frames, receive buffers, roles and responses (R188 to R193), and the checks that requests share. -/

namespace Sys2Proof.Machine

/-! ## Receiving (R188, R189) -/

/-- What a byte does to a receiver: it stays within a frame or hunting, or it ends a frame (R188). -/
inductive RxStep where
  | within (r : Receiver)
  | ended (f : RxFrame)
  deriving DecidableEq, Repr

/-- A receiver takes one byte (R188). -/
def Receiver.step (r : Receiver) (b : Byte) : RxStep :=
  match r with
  | .hunting => .within (if b = 0xC5 then .length else .hunting)
  | .length => if 1 ≤ b.toNat ∧ b.toNat ≤ 128 then .within (.body b.toNat []) else .ended .garbled
  | .body n got => .within (if got.length + 1 < n then .body n (got ++ [b]) else .check (got ++ [b]) none)
  | .check got none => .within (.check got (some b))
  | .check got (some h) =>
    if [h, b] = be 2 (crc (byte got.length :: got)).toNat then .ended (.sound got) else .ended .garbled

/-- One port is changed. -/
def modifyPort (p : PortId) (f : Port → Port) (s : State) : State := { s with ports := updateAt s.ports p f }

/-- A frame joins the receive buffer, or is discarded with the overrun flag set (R189). -/
def Port.receive (f : RxFrame) (q : Port) : Port :=
  if q.buffer.length < 2 then { q with buffer := q.buffer ++ [{ frame := f, taken := false }] }
  else { q with overrun := true }

/-- A frame ends on a port: the receiver returns to HUNTING and the frame goes to the buffer (R188, R189). -/
def endFrame (p : PortId) (f : RxFrame) (s : State) : State :=
  modifyPort p (fun q => Port.receive f { q with receiver := .hunting }) s

/-- The receiver stands within a frame (LENGTH, BODY or CHECK). -/
def Receiver.inFrame : Receiver → Bool
  | .hunting => false
  | .length | .body _ _ | .check _ _ => true

/-! ## Taking a frame (R190) -/

/-- The oldest frame not yet taken. -/
def nextFrame (b : List BufferedFrame) : Option RxFrame := (b.find? fun f => !f.taken).map BufferedFrame.frame

/-- The oldest frame not yet taken becomes taken. -/
def markTaken : List BufferedFrame → List BufferedFrame
  | [] => []
  | f :: fs => if f.taken then f :: markTaken fs else { f with taken := true } :: fs

/-- What the taking of a frame comes to: it is taken, or it must wait or is lost (log 2). -/
inductive Taking where
  | taken (s : State)
  | waits (s : State)
  deriving DecidableEq, Repr

/-- A frame is taken on a port when it is the oldest one not yet taken. When no frame waits it arrives and is
taken at once. Behind another frame it arrives and waits, and with no room it is lost (R189, R190; log 2). -/
def takeFrame (p : PortId) (f : RxFrame) (s : State) : Taking :=
  match nextFrame s.ports[p].buffer with
  | some g =>
    if g = f then .taken (modifyPort p (fun q => { q with buffer := markTaken q.buffer }) s)
    else .waits (modifyPort p (Port.receive f) s)
  | none =>
    if s.ports[p].buffer.length < 2 then
      .taken (modifyPort p (fun q => { q with buffer := q.buffer ++ [{ frame := f, taken := true }] }) s)
    else .waits (modifyPort p (Port.receive f) s)

/-! ## Responding (R190, R191, R197) -/

/-- The body of a response: code with bit 7 set, status, an empty flags byte, the cycle counter, the result (R197). -/
def responseBody (code : Nat) (st : Status) (result : List Byte) (cycle : Cycle) : List Byte :=
  byte (code ||| 0x80) :: st.code :: 0 :: wordBytes cycle ++ result

/-- A response joins a port's output at the place it was taken at: after every notice queued before its request was
taken, ahead of those its own request made (R191; log 12). -/
def answerAt (p : PortId) (place : Nat) (code : Nat) (st : Status) (result : List Byte) (s : State) : State :=
  modifyPort p (fun q =>
    { q with out := q.out.take place ++
        [{ response := true, body := responseBody code st result s.wpu.cycle }] ++ q.out.drop place }) s

/-- What a block answers to a request it takes (R190): accepted with its effect, or refused with none. -/
inductive Reply where
  | accept (s : State) (result : List Byte)
  | refuse (st : Status) (result : List Byte)
  deriving DecidableEq, Repr

/-- The codes of the reads (R193). -/
def isRead (code : Nat) : Bool := 0x30 ≤ code && code ≤ 0x39

/-- The requests a role admits (R193). -/
def Role.admits (r : Role) (code : Nat) : Bool :=
  match r with
  | .supervisor => code != 0x15 && code != 0x16
  | .drive =>
    code == 0x0A || code == 0x0B || code == 0x17 || code == 0x27 || code == 0x25 || isRead code || code == 0x29
  | .inspect => code == 0x15 || code == 0x16 || isRead code || code == 0x29
  | .monitor => isRead code || code == 0x29

/-- A taken request is judged by the port's role and answered by its block (R190 checks 3 and 5, R193). -/
def serve (p : PortId) (code : Nat) (act : State → Reply) (s : State) : State :=
  let place := s.ports[p].out.length
  if s.ports[p].role.admits code then
    match act s with
    | .accept s' result => answerAt p place code .ok result s'
    | .refuse st result => answerAt p place code st result s
  else answerAt p place code .roleDenied [] s

/-- A body that a frame can carry (R187). -/
def fitsFrame (body : List Byte) : Bool := 1 ≤ body.length && body.length ≤ 128

/-- A frame whose length no LEN byte could give ends garbled (R188). -/
def RxFrame.checked : RxFrame → RxFrame
  | .garbled => .garbled
  | .sound body => if fitsFrame body then .sound body else .garbled

/-- A command that stands for a frame with this body: the frame is taken and answered, or must wait. A body that no frame
can carry arrives as a garbled frame and is not taken (R187, R188, R190; log 2). -/
def onFrame (p : PortId) (body : List Byte) (serve : State → State) (s : State) : State :=
  if fitsFrame body then
    match takeFrame p (.sound body) s with
    | .waits s' => s'
    | .taken s' => serve s'
  else modifyPort p (Port.receive .garbled) s

/-- A request command: its frame is taken and served, or must wait (R190; log 2). -/
def request (p : PortId) (c : Instr) (act : State → Reply) (s : State) :
    Host.Outcome State Fault Refusal :=
  .next (onFrame p (encodeRequest c) (serve p ((requestCode c).getD 0) act) s)

/-! ## Checks that requests share (R4, R160) -/

/-- A check that must hold, or the request is refused with a status. -/
def require (ok : Bool) (st : Status) (k : Reply) : Reply := if ok then k else .refuse st []

/-- A number that names one of `n` things, or BAD_VALUE. -/
def named (n v : Nat) (k : Fin n → Reply) : Reply := if h : v < n then k ⟨v, h⟩ else .refuse .badValue []

/-- A lane 1 to 4 on the wire, or BAD_VALUE. -/
def namedLane (v : Nat) (k : LaneId → Reply) : Reply :=
  if h : 1 ≤ v ∧ v ≤ 4 then k ⟨v - 1, by omega⟩ else .refuse .badValue []

/-- The context of a slot in a state that allows the request, or WRONG_STATE. -/
def inState (s : State) (k : SlotId) (allowed : JobState → Bool) (f : Context → Reply) : Reply :=
  match s.slots[k] with
  | some c => if allowed c.state then f c else .refuse .wrongState []
  | none => .refuse .wrongState []

/-- A slot that is not busy with a background operation, or BUSY (R21). -/
def notBusy (s : State) (k : SlotId) (r : Reply) : Reply :=
  require (busySlotOf s.background != some k) .busy r

/-- A defined sequence, or NOT_FOUND (R4 check 4). -/
def defined (c : Context) (q : SeqId) (f : Sequence → Reply) : Reply :=
  match c.sequences[q] with
  | some x => f x
  | none => .refuse .notFound []

/-- Enough unreserved free records, or JOURNAL_FULL (R148). -/
def journalRoom (s : State) (n : Nat) (r : Reply) : Reply := require (n ≤ s.ij.unreserved) .journalFull r

end Sys2Proof.Machine
end

