-- ==== Sys2Proof/Machine/Draw.lean ====
section
/-! DEFINITION. Check characters and the draw (R11 to R19), on a sequence record alone. -/

namespace Sys2Proof.Machine

/-- lo = min(F, L) (R1). -/
def Sequence.lo (q : Sequence) : Nat := min q.first q.last

/-- hi = max(F, L) (R1). -/
def Sequence.hi (q : Sequence) : Nat := max q.first q.last

/-- The rightmost D digits of a value, from the rightmost leftward (R17). -/
def digitsOf (d v : Nat) : List Nat := (List.range d).map fun i => v / 10 ^ i % 10

/-- The sum of digits under weights, both from the rightmost leftward (R17, R18). -/
def weighted (weights digits : List Nat) : Nat := (List.zipWith (· * ·) weights digits).sum

/-- The W31 check (R17). -/
def checkW31 (d v : Nat) : Nat := (10 - weighted [3, 1, 3, 1, 3, 1, 3, 1, 3, 1] (digitsOf d v) % 10) % 10

/-- The M11 check, 10 where it cannot be printed (R18). -/
def checkM11 (d v : Nat) : Nat := (11 - weighted [2, 3, 4, 5, 6, 7, 2, 3, 4, 5] (digitsOf d v) % 11) % 11

/-- The check character of a value under a scheme, none under NONE (R17 to R19). -/
def checkOf (scheme : CheckScheme) (d v : Nat) : Option Nat :=
  match scheme with
  | .none => none
  | .w31 => some (checkW31 d v)
  | .m11 => some (checkM11 d v)
  | .m7 => some (v % 7)

/-- The check step passes over this candidate (R14). -/
def Sequence.skips (q : Sequence) (c : Int) : Bool := q.scheme = .m11 && checkM11 q.digits c.toNat = 10

/-- The bounds step: the candidate and wrap flag that go on, none where the draw fails (R12). -/
def Sequence.bounds (q : Sequence) (c : Int) (wrapped : Bool) : Option (Int × Bool) :=
  if (q.lo : Int) ≤ c ∧ c ≤ q.hi then some (c, wrapped)
  else if q.policy = .wrap ∧ wrapped = false then some (q.first, true)
  else none

/-- The range of the sequence that a candidate lies in (R13). -/
def rangeAt (ranges : List Exclusion) (c : Int) : Option Exclusion :=
  ranges.find? fun r => decide ((r.low : Int) ≤ c ∧ c ≤ r.high)

/-- The exclusion jump: past the range by the smallest whole number of steps (R13). -/
def jumpPast (step : Int) (r : Exclusion) (c : Int) : Int :=
  if 0 < step then c + step * ((r.high - c) / step + 1)
  else c - (-step) * ((c - r.low) / (-step) + 1)

/-- What a draw ends in: a value with its wrap flag, or the failure EXHAUSTED (R11). -/
inductive DrawResult where
  | yields (value : Nat) (wrapped : Bool)
  | fails
  deriving DecidableEq, Repr

/-- The passes of a draw through the bounds, exclusion and check steps (R12 to R16). The first argument bounds
the passes; drawFuel passes always suffice (log 21). -/
def Sequence.search (q : Sequence) (ranges : List Exclusion) : Nat → Int → Bool → DrawResult
  | 0, _, _ => .fails
  | n + 1, c, wrapped =>
    match q.bounds c wrapped with
    | none => .fails
    | some (c', w) =>
      match rangeAt ranges c' with
      | some r => Sequence.search q ranges n (jumpPast q.step r c') w
      | none =>
        if q.skips c' then Sequence.search q ranges n (c' + q.step) w
        else .yields c'.toNat w

/-- More passes than a draw can make: two sweeps of the bounds and the pass that fails (R15). -/
def Sequence.drawFuel (q : Sequence) : Nat := 2 * (q.hi - q.lo) + 4

/-- A draw on a sequence record (R11, R15). -/
def Sequence.draw (q : Sequence) (ranges : List Exclusion) : DrawResult :=
  match q.state with
  | .exhausted => .fails
  | .live => q.search ranges q.drawFuel q.value false

/-- A successful draw sets V and counts its wrap (R16). -/
def Sequence.commit (q : Sequence) (v : Nat) (wrapped : Bool) : Sequence :=
  { q with value := (v : Int) + q.step, wraps := if wrapped then q.wraps + 1 else q.wraps }

/-- A failed draw leaves the sequence EXHAUSTED and nothing else changed (R15). -/
def Sequence.exhaust (q : Sequence) : Sequence := { q with state := .exhausted }

/-! The moves of R2 and R138 between the counters of a sequence. -/

/-- A fresh draw at allocation: drawn and held. -/
def Sequence.countHeld (q : Sequence) : Sequence := { q with drawn := q.drawn + 1, held := q.held + 1 }

/-- A skip-ahead draw: drawn and voided. -/
def Sequence.countSkipped (q : Sequence) : Sequence := { q with drawn := q.drawn + 1, voided := q.voided + 1 }

/-- From held to issued. -/
def Sequence.heldToIssued (q : Sequence) : Sequence := { q with held := q.held - 1, issued := q.issued + 1 }

/-- From held to voided. -/
def Sequence.heldToVoided (q : Sequence) : Sequence := { q with held := q.held - 1, voided := q.voided + 1 }

/-- From held to queued, the number joining the queue as its newest (R129). -/
def Sequence.requeue (e : QueueEntry) (q : Sequence) : Sequence :=
  { q with held := q.held - 1, queued := q.queued + 1, queue := q.queue ++ [e] }

/-- From queued to held: the oldest entry leaves the queue (R132). -/
def Sequence.takeOldest (q : Sequence) : Sequence :=
  { q with queued := q.queued - 1, held := q.held + 1, queue := q.queue.tail }

/-- From queued to voided: the entry of a value leaves the queue wherever it stands (R135). -/
def Sequence.withdraw (v : Nat) (q : Sequence) : Sequence :=
  { q with queued := q.queued - 1, voided := q.voided + 1, queue := q.queue.eraseP fun e => e.value == v }

end Sys2Proof.Machine
end

