-- ==== Sys2Proof/Machine/HeadOps.lean ====
section
/-! DEFINITION. The Head Order Unit's operations: imprint strings, issue, expiry, settlement and the head link
arbiter (R76 to R90). -/

namespace Sys2Proof.Machine

/-! ## Imprint strings (R78, R81) -/

/-- The lane of a head in a context: the lane of its own entry (R77). -/
def Context.headLane (c : Context) (h : HeadId) : Option LaneId :=
  c.assignments[h].bind fun a => c.list[(a.entry : Nat)]?.map AllocEntry.lane

/-- The sequence at the root of an entry's REPEAT chain (R79). The first argument bounds the chain. -/
def rootSequence (list : List AllocEntry) : Nat → Nat → Option SeqId
  | 0, _ => none
  | n + 1, e =>
    match list[e]? with
    | none => none
    | some x =>
      match x.mode with
      | .fresh q _ => some q
      | .repeated b => rootSequence list n b
      | .blank => none

/-- The defined sequence at the root of an entry's REPEAT chain. -/
def Context.rootOf (c : Context) (e : EntryId) : Option Sequence :=
  (rootSequence c.list 17 e).bind fun q => c.sequences[q]

/-- OWN resolves to the head's own entry (R78). -/
def EntryRef.resolve (own : EntryId) : EntryRef → EntryId
  | .entry e => e
  | .own => own

/-- A value as D decimal characters with leading zeros (R1, R81). -/
def digitText (d v : Nat) : List Byte := (digitsOf d v).reverse.map fun n => byte (0x30 + n)

/-- Leading zeros become spaces, except the last digit (R81). -/
def blankLeading : List Byte → List Byte
  | [] => []
  | [x] => [x]
  | x :: y :: rest => if x = 0x30 then 0x20 :: blankLeading (y :: rest) else x :: y :: rest

/-- The number an entry part carries, none when it is BLANK or UNNUMBERED. -/
def EntryPart.number (p : EntryPart) : Option Number :=
  match p.state with
  | .numbered n => some n
  | .blank | .unnumbered => none

/-- The number of entry e of a set. -/
def SetRecord.numberOf (r : SetRecord) (e : EntryId) : Option Number := r.entries[(e : Nat)]?.bind EntryPart.number

/-- What one item contributes to the string of a head for a set (R81). -/
def itemText (c : Context) (r : SetRecord) (own : EntryId) (lane : LaneId) (ply : Nat) : FormatItem → List Byte
  | .literal t => t
  | .number ref fill =>
    match r.numberOf (ref.resolve own), c.rootOf (ref.resolve own) with
    | some n, some q =>
      match fill with
      | .zero => digitText q.digits n.value
      | .blank => blankLeading (digitText q.digits n.value)
    | _, _ => []
  | .check ref =>
    match (r.numberOf (ref.resolve own)).bind Number.check with
    | some d => [byte (0x30 + d)]
    | none => []
  | .lane => [byte (0x31 + lane)]
  | .ply => [byte (0x30 + ply)]
  | .job => digitText 5 c.job

/-- The imprint string: the items' contributions in format order (R81). -/
def imprint (c : Context) (r : SetRecord) (own : EntryId) (lane : LaneId) (ply : Nat) (items : List FormatItem) :
    List Byte :=
  items.flatMap (itemText c r own lane ply)

/-- The entry a NUMBER or CHECK item refers to (R79). -/
def FormatItem.reference (own : EntryId) : FormatItem → Option EntryId
  | .number ref _ | .check ref => some (ref.resolve own)
  | .literal _ | .lane | .ply | .job => none

/-- The entry part is UNNUMBERED. -/
def EntryPart.isUnnumbered (p : EntryPart) : Bool := p.state = .unnumbered

/-- Some NUMBER or CHECK item refers to an entry that is UNNUMBERED in the set (R84). -/
def refersUnnumbered (r : SetRecord) (own : EntryId) (items : List FormatItem) : Bool :=
  items.any fun i => (i.reference own).any fun e => r.entries[(e : Nat)]?.any EntryPart.isUnnumbered

/-! ## Heads, queues and sets -/

/-- One head record is changed. -/
def modifyHead (h : HeadId) (f : Head → Head) (s : State) : State :=
  { s with hou := { s.hou with heads := updateAt s.hou.heads h f } }

/-- The head's outcome is written into a set record, with a reason on the head's lane (R67, R77). -/
def writeOutcome (h : HeadId) (o : HeadOutcome) (why : Option Reason) (lane : Option LaneId) (r : SetRecord) :
    SetRecord :=
  let r1 := { r with heads := r.heads.set h o }
  match why, lane with
  | some w, some l => r1.addReason l w
  | _, _ => r1

/-- The head's lane in a set's own context. -/
def headLaneIn (s : State) (h : HeadId) (r : SetRecord) : Option LaneId :=
  s.slots[r.slot].bind fun c => c.headLane h

/-- A head's outcome for the set with a tag. -/
def markOutcome (h : HeadId) (t : Cycle) (o : HeadOutcome) (why : Option Reason) (s : State) : State :=
  modifySet t (fun r => writeOutcome h o why (headLaneIn s h r) r) s

/-- An order leaves its head's queue, and the transmit queue when it still waits there (R82, R85). -/
def dropOrder (h : HeadId) (t : Cycle) (s : State) : State :=
  { s with hou := { s.hou with
      heads := updateAt s.hou.heads h fun x => { x with queue := x.queue.filter fun o => o.tag != t },
      transmit := s.hou.transmit.filter fun w => !(w.head == h && w.order.tag == t) } }

/-- An outstanding order with the tag stands in the head's queue. -/
def hasOrder (s : State) (h : HeadId) (t : Cycle) : Bool := s.hou.heads[h].queue.any fun o => o.tag == t

/-- An order is settled LATE (R83). -/
def settleLate (h : HeadId) (t : Cycle) (s : State) : State :=
  modifyHead h (fun x => { x with late := x.late + 1 }) (markOutcome h t .late (some .headLate) (dropOrder h t s))

/-- An order is settled FAILED (R76, R89). -/
def settleFailed (h : HeadId) (t : Cycle) (s : State) : State :=
  modifyHead h (fun x => { x with failed := x.failed + 1 }) (markOutcome h t .failed (some .headFailed) (dropOrder h t s))

/-- An order is settled PRINTED (R89). -/
def settlePrinted (h : HeadId) (t : Cycle) (s : State) : State :=
  modifyHead h (fun x => { x with printed := x.printed + 1 }) (markOutcome h t .printed none (dropOrder h t s))

/-- The expiry step of one head at the present boundary x: the order for set x - L - 1 becomes LATE (R83). -/
def expireHead (h : HeadId) (s : State) : State :=
  match s.hou.heads[h].placement with
  | none => s
  | some p =>
    let t := s.wpu.cycle - BitVec.ofNat 32 (p.lag + 1)
    if hasOrder s h t then settleLate h t s else s

/-- An order takes its place in the transmit queue: after older boundaries, and by head number among the orders of its
own boundary (R86). -/
def insertWaiting (w : WaitingOrder) : List WaitingOrder → List WaitingOrder
  | [] => [w]
  | x :: xs => if x.boundary = w.boundary ∧ w.head < x.head then w :: x :: xs else x :: insertWaiting w xs

/-- The order due for a set at a head is settled at issue or becomes ORDERED (R84). -/
def issueOrder (h : HeadId) (p : Placement) (r : SetRecord) (s : State) : State :=
  match r.heads[h], s.slots[r.slot] with
  | .pending, some c =>
    match c.assignments[h] with
    | none => s
    | some a =>
      let items := (c.formats[a.format]).getD []
      let lane := (c.headLane h).getD p.lane
      if s.hou.heads[h].device ≠ .ready then markOutcome h r.tag .notReady (some .headNotReady) s
      else if refersUnnumbered r a.entry items then markOutcome h r.tag .notIssued none s
      else
        let o : Order := { tag := r.tag, text := imprint c r a.entry lane p.ply items }
        let s1 := markOutcome h r.tag .ordered none s
        let s2 := modifyHead h (fun x => { x with queue := x.queue ++ [o], issued := x.issued + 1 }) s1
        { s2 with hou := { s2.hou with
            transmit := insertWaiting { boundary := s.wpu.cycle, head := h, order := o } s2.hou.transmit } }
  | _, _ => s

/-- The issue step of one head at the present boundary: the set at age L - 1 (R83). -/
def issueHead (h : HeadId) (s : State) : State :=
  match s.hou.heads[h].placement with
  | none => s
  | some p =>
    match setAtAge s (p.lag - 1) with
    | none => s
    | some r => issueOrder h p r s

/-- The head has print lag 1. -/
def hasLagOne (s : State) (h : HeadId) : Bool := s.hou.heads[h].placement.any fun p => p.lag == 1

/-- One head's rule for a boundary: expiry, then issue. A lag-1 head issues on the hand-over (R83). -/
def headBoundary (s : State) (h : HeadId) : State :=
  let s1 := expireHead h s
  if hasLagOne s1 h then s1 else issueHead h s1

/-- The body of an ORDER frame (R200). An empty string is sent with length 0 (log 35). -/
def orderBody (w : WaitingOrder) : List Byte :=
  0x01 :: byte w.head :: wordBytes w.order.tag ++ textBytes w.order.text

/-- The arbiter chooses the first order of the transmit queue when the transmitter is free (R86). -/
def sendOrder (s : State) : State :=
  match s.hou.sending, s.hou.transmit with
  | none, w :: rest =>
    { s with hou := { s.hou with transmit := rest, sending := some (frameBytes (orderBody w)) } }
  | _, _ => s

/-- The arbiter chooses an order of an older boundary than the present one, while not every head has taken that (R86). -/
def sendOlder (s : State) : State :=
  match s.hou.transmit with
  | w :: _ => if w.boundary = s.wpu.cycle then s else sendOrder s
  | [] => s

/-- The frame on the link ends and the transmitter is free (R87). -/
def endOrder (s : State) : State := { s with hou := { s.hou with sending := none } }

/-- PRINTED 0, FAILED 1 (R200). -/
def resultCode : PrintResult → Byte
  | .printed => 0
  | .failed => 1

/-- A COMPLETION is matched by its tag: it settles its order, or it is stale (R89, R90). -/
def takeCompletion (h : HeadId) (t : Cycle) (res : PrintResult) (s : State) : State :=
  if hasOrder s h t then
    match res with
    | .printed => settlePrinted h t s
    | .failed => settleFailed h t s
  else
    notify .headStale (byte h :: wordBytes t ++ [resultCode res]) s

/-- The head is assigned in the ACTIVE context (R76). -/
def assignedInActive (s : State) (h : HeadId) : Bool :=
  (activeSlot s).any fun k => s.slots[k].any fun c => c.assignments[h].isSome

/-- The head's device state changes; HEAD_STATE is sent when it does (R75). -/
def setDevice (h : HeadId) (d : Device) (s : State) : State :=
  if s.hou.heads[h].device = d then s
  else notify .headState [byte h, d.code] (modifyHead h (fun x => { x with device := d }) s)

/-- Every outstanding order of a head fails, in queue order (R76). -/
def failOrders (h : HeadId) (s : State) : State :=
  (s.hou.heads[h].queue.map Order.tag).foldl (fun s t => settleFailed h t s) s

/-- A STATE message is taken (R75, R76). -/
def takeStateMessage (h : HeadId) (rep : HeadReport) (s : State) : State :=
  match rep with
  | .ready => setDevice h .ready s
  | .fault =>
    let s1 := failOrders h s
    let s2 := if assignedInActive s1 h then latchStop .headFault s1 else s1
    setDevice h .faulted s2

/-- A frame that the head link receiver ends: a sound COMPLETION or STATE is taken, and everything else is discarded
(R88, R200). -/
def takeHeadFrame (f : RxFrame) (s : State) : State :=
  match f with
  | .garbled => s
  | .sound body =>
    match fields [1, 1, 4, 1] body, fields [1, 1, 1] body with
    | some [2, h, t, res], _ =>
      if hh : h < 24 then
        if res = 0 then takeCompletion ⟨h, hh⟩ (BitVec.ofNat 32 t) .printed s
        else if res = 1 then takeCompletion ⟨h, hh⟩ (BitVec.ofNat 32 t) .failed s
        else s
      else s
    | _, some [3, h, st] =>
      if hh : h < 24 then
        if st = 0 then takeStateMessage ⟨h, hh⟩ .ready s
        else if st = 1 then takeStateMessage ⟨h, hh⟩ .fault s
        else s
      else s
    | _, _ => s

/-- The head link receiver returns to HUNTING. -/
def headLinkHunting (s : State) : State := { s with hou := { s.hou with receiver := .hunting } }

end Sys2Proof.Machine
end

