-- ==== Sys2Proof/Machine/MarkOps.lean ====
section
/-! DEFINITION. The Mark Timing Unit's operations: placing a mark, collecting it, following the position, closing and
arming a measurement (R43, R44, R97 to R109). -/

namespace Sys2Proof.Machine

/-! ## Placing (R44) -/

/-- The interval cannot be used: T is 0 or saturated, or was measured across a change of direction (R44). -/
def Wpu.coarse (w : Wpu) : Bool := w.interval == 0 || w.interval == 65535 || w.reversal

/-- The fraction of a count, 0 to 7 (R44). -/
def Wpu.fraction (w : Wpu) : Nat := if w.coarse then 0 else min 7 (8 * w.edgeAge / w.interval)

/-- P = 8N + fraction, with the COARSE flag (R44). -/
def Wpu.place (w : Wpu) : Hit := { place := 8 * w.position + w.fraction, coarse := w.coarse }

/-! ## Judging (R103, R104) -/

/-- The error of a hit folded into -4 RL .. 4 RL - 1 (R103). -/
def foldError (rl : Nat) (e : Int) : Int := (e + 4 * rl) % (8 * rl) - 4 * rl

/-- The errors of the pairs, in pairing order (R104). -/
def pairErrors (rl : Nat) (hits : List Hit) (positions : List Nat) : List PairError :=
  List.zipWith (fun h (e : Nat) => { error := foldError rl ((h.place : Int) - e), coarse := h.coarse }) hits positions

/-- The judgement of one channel from its hit buffer and dropped flag (R104). -/
def judgeChannel (rl : Nat) (m : Option ChannelMarks) (hits : List Hit) (dropped : Bool) : ChannelResult :=
  match m with
  | none => { status := .notEnabled, errors := [], hits := hits.length }
  | some c =>
    let errors := pairErrors rl hits c.positions
    let status :=
      if hits.length < c.positions.length then .missing
      else if dropped || decide (c.positions.length < hits.length) then .extra
      else if errors.any (fun e => decide ((c.tolerance : Int) < |e.error|)) then .outOfTolerance
      else .ok
    { status := status, errors := errors, hits := hits.length }

/-- The channel makes a close faulty: enabled and not OK (R104). -/
def ChannelResult.isFaulty (c : ChannelResult) : Bool := c.status != .ok && c.status != .notEnabled

/-! ## Closing (R101, R105, R107 to R109) -/

/-- The verdict on the judged set: its registration summary, and REGISTRATION on every lane of a faulty close (R107). -/
def SetRecord.verdict (faulty : Bool) (r : SetRecord) : SetRecord :=
  { r with
    registration := if faulty then .fault else .ok,
    lanes := if faulty then r.lanes.map (LanePart.add .registration) else r.lanes }

/-- The judgements of the six channels at a close (R104). -/
def judgeAll (rl : Nat) (a : Armed) (m : Mtu) : Vector ChannelResult 6 :=
  tabulate fun k => judgeChannel rl a.settings.channels[k] m.hits[k] m.dropped[k]

/-- REG_FAULT: cycle, judged set, close cause, the status of each channel, the counter (R108). -/
def regFaultPayload (r : RegRecord) : List Byte :=
  wordBytes r.cycle ++ optBytes wordBytes r.judged ++ r.cause.code ::
    (r.channels.toList.map fun c => c.status.code) ++ [byte r.counterAfter]

/-- The registration record of a close (R105). -/
def closeRecord (cause : CloseCause) (rl : Nat) (a : Armed) (m : Mtu) : RegRecord :=
  let channels := judgeAll rl a m
  let faulty := channels.toList.any ChannelResult.isFaulty
  { cycle := m.cycle, judged := m.judged, slot := a.slot, cause := cause, channels := channels, faulty := faulty,
    counterAfter := if faulty then min 255 (m.faults + 1) else 0 }

/-- The measurement closes: record, verdict, counter, REG_FAULT and REG_RUN (R101, R105, R107 to R109). -/
def closeMeasurement (cause : CloseCause) (s : State) : State :=
  match s.mtu.armed with
  | none => s
  | some a =>
    let rec_ := closeRecord cause s.wpu.repeatLength a s.mtu
    let s1 : State := { s with mtu := { s.mtu with
      state := .closed, last := some rec_, faults := rec_.counterAfter } }
    let s2 := match rec_.judged with
      | none => s1
      | some t => modifySet t (SetRecord.verdict rec_.faulty) s1
    if rec_.faulty then
      let s3 := notify .regFault (regFaultPayload rec_) s2
      if 0 < s.mtu.stopCount ∧ s.mtu.stopCount ≤ rec_.counterAfter then latchStop .regRun s3 else s3
    else s2

/-- The measurement is open (R96). -/
def MeasureState.isOpen : MeasureState → Bool
  | .masked | .collecting => true
  | .idle | .closed => false

/-- An open measurement follows a change of position: mask end, then close position (R99, R101). -/
def followMeasurement (s : State) : State :=
  match s.mtu.state.isOpen, s.mtu.armed with
  | true, some a =>
    let st := if a.settings.maskEnd ≤ s.wpu.position then .collecting else .masked
    let s1 : State := { s with mtu := { s.mtu with state := st } }
    if a.settings.closeAt < s.wpu.repeatLength ∧ a.settings.closeAt ≤ s.wpu.position then
      closeMeasurement .position s1
    else s1
  | _, _ => s

/-- Every enabled channel holds at least as many hits as it has expected positions (R101). -/
def Mtu.full (m : Mtu) (a : Armed) : Bool :=
  (List.finRange 6).all fun k => a.settings.channels[k].all fun c => decide (c.positions.length ≤ m.hits[k].length)

/-- A placed mark of a channel is collected, dropped or ignored (R100). -/
def takeMark (k : ChannelId) (h : Hit) (s : State) : State :=
  match s.mtu.state, s.mtu.armed with
  | .collecting, some a =>
    if a.settings.channels[k].isSome then
      if s.mtu.hits[k].length < 4 then
        let s1 : State := { s with mtu := { s.mtu with hits := updateAt s.mtu.hits k (· ++ [h]) } }
        if s1.mtu.full a then closeMeasurement .full s1 else s1
      else { s with mtu := { s.mtu with dropped := s.mtu.dropped.set k true } }
    else s
  | _, _ => s

/-- A rising edge of a MARK line: placed and handed on while FORWARD and not BACKED (R43). -/
def markEdge (k : ChannelId) (s : State) : State :=
  if s.wpu.backed ∨ s.wpu.direction = .reverse then s else takeMark k s.wpu.place s

/-! ## Arming (R97, R98) -/

/-- The slot whose settings a measurement arms, from the set at the merge point or the ACTIVE context (R98). -/
def armingSlot (s : State) : Option SlotId :=
  match setAtAge s s.st.merge with
  | some r => some r.slot
  | none => activeSlot s

/-- The settings a measurement arms (R98). -/
def armedSettings (s : State) : Option Armed :=
  (armingSlot s).bind fun k => s.slots[k].map fun c => { slot := k, settings := c.marks }

/-- Some channel is enabled. -/
def Armed.measures (a : Armed) : Bool := a.settings.channels.toList.any Option.isSome

/-- The state a new measurement arms into (R97). -/
def armedState (position : Nat) : Option Armed → MeasureState
  | none => .idle
  | some a => if a.measures then (if position < a.settings.maskEnd then .masked else .collecting) else .idle

/-- A new measurement is armed (R97). -/
def armMeasurement (s : State) : State :=
  { s with mtu := { s.mtu with
      state := armedState s.wpu.position (armedSettings s),
      cycle := s.wpu.cycle,
      armed := armedSettings s,
      judged := (setAtAge s s.st.merge).map SetRecord.tag,
      hits := tabulate fun _ => [],
      dropped := tabulate fun _ => false } }

/-- The MTU takes a boundary: the open measurement closes, then a new one arms (R97, R101). -/
def measureBoundary (s : State) : State :=
  armMeasurement (if s.mtu.state.isOpen then closeMeasurement .boundary s else s)

end Sys2Proof.Machine
end

