-- ==== Sys2Proof/Machine/BoundaryOps.lean ====
section
/-! DEFINITION. The parts of a cycle boundary: retirement, allocation, changeover, suspension and window close (R56 to R66,
R116, R120 to R131, R169 to R172). -/

namespace Sys2Proof.Machine

/-! ## Retirement (R120 to R131) -/

/-- The gate record a lane takes at a boundary: asserted for a rejected lane of the retiring set, else released (R121). -/
def gateFor (s : State) (due : Option SetRecord) (k : LaneId) : Gate :=
  match due with
  | none => .released
  | some r =>
    if r.lanes[(k : Nat)]?.any LanePart.rejected then
      .asserted r.tag (if s.st.gateClose < s.wpu.repeatLength then some s.st.gateClose else none)
    else .released

/-- The gate step (R121): each line is driven once, so a lane rejected twice in a row stays asserted. -/
def gateStep (due : Option SetRecord) (s : State) : State :=
  (List.finRange 4).foldl (fun s k => setGateRecord k (gateFor s due k) s) s

/-- The disposition of a spoiled number with its new spoil count (R128). -/
def dispose (policy : SpoilPolicy) (limit spoil : Nat) (queue : List QueueEntry) (v : Nat) : Disposition :=
  match policy with
  | .void => .voided
  | .reprint =>
    if limit < spoil then .voidedLimit
    else if 32 ≤ queue.length ∨ queue.any (fun e => e.value == v) then .voidedQueueFull
    else .requeued

/-- What a retirement has left of the set's reservation. -/
structure Settling where
  state : State
  left : Nat
  deriving DecidableEq, Repr

/-- A record of the retiring set is handed to the journal. -/
def Settling.write (slot : SlotId) (job : Nat) (b : RecordBody) (a : Settling) : Settling :=
  let r := journalFromSet slot job b a.state
  { state := r.1, left := if r.2 then a.left - 1 else a.left }

/-- A numbered entry of a good lane is journaled and moves from held to issued (R123). -/
def issueNumber (slot : SlotId) (q : SeqId) (lane : LaneId) (n : Number) (a : Settling) : Settling :=
  match a.state.slots[slot] with
  | none => a
  | some c =>
    match c.sequences[q] with
    | none => a
    | some x =>
      let b := match n.origin with
        | .reprint => RecordBody.reissued q lane n.value n.spoil
        | .fresh | .repeated _ _ => RecordBody.issuedRun q ((1 : BitVec 4) <<< (lane : Nat)) n.value n.value 1 x.step
      let w := a.write slot c.job b
      { w with state := modifySequence slot q Sequence.heldToIssued w.state }

/-- A numbered entry of a rejected lane is requeued or voided, with one SPOILED record (R128 to R130). -/
def spoilNumber (slot : SlotId) (q : SeqId) (lane : LaneId) (why : Reason) (tag : Cycle) (n : Number)
    (a : Settling) : Settling :=
  match a.state.slots[slot] with
  | none => a
  | some c =>
    match c.sequences[q] with
    | none => a
    | some x =>
      let spoil := n.spoil + 1
      let d := dispose c.policy c.limit spoil x.queue n.value
      let w := a.write slot c.job (.spoiled q lane n.value d why spoil)
      let f := match d with
        | .requeued => Sequence.requeue { value := n.value, spoil := spoil, reason := why, tag := tag }
        | .voided | .voidedQueueFull | .voidedLimit => Sequence.heldToVoided
      { w with state := modifySequence slot q f w.state }

/-- One entry part is settled when it belongs to the lane and carries a number of its own (R120). -/
def settleEntry (r : SetRecord) (lane : LaneId) (part : LanePart) (a : Settling) (e : EntryPart) : Settling :=
  if e.lane ≠ lane then a
  else
    match e.state, e.sequence with
    | .numbered n, some q =>
      match n.origin with
      | .repeated _ _ => a
      | .fresh | .reprint =>
        if part.rejected then spoilNumber r.slot q lane (part.primary.getD .unnumbered) r.tag n a
        else issueNumber r.slot q lane n a
    | _, _ => a

/-- One lane of a retiring set is settled, its entries in ascending index (R120, R123, R124). -/
def settleLane (r : SetRecord) (a : Settling) (lane : LaneId) : Settling :=
  match r.lanes[(lane : Nat)]? with
  | none => a
  | some part => r.entries.foldl (settleEntry r lane part) a

/-- One lane in the SET_REJECTED notice: good 0 or rejected 1, primary reason, reason set (R125, R197). -/
def rejectedLaneBytes (l : LanePart) : List Byte :=
  flagByte l.rejected :: optBytes (fun r => [r.code]) l.primary ++ be 2 l.reasons.toNat

/-- The set leaves the ring: its remaining reservation returns, SET_REJECTED is sent, and a drained context parks
(R125, R172). -/
def removeSet (r : SetRecord) (a : Settling) : State :=
  let s1 : State := { a.state with st := { a.state.st with ring := a.state.st.ring.filter fun x => x.tag != r.tag } }
  let s2 := returnReserved a.left (modifyContext r.slot (fun c => { c with inFlight := c.inFlight - 1 }) s1)
  let job := (s2.slots[r.slot]).map Context.job
  let s3 :=
    if r.lanes.any LanePart.rejected then
      notify .setRejected
        (wordBytes r.tag ++ byte r.slot :: be 3 (job.getD 0) ++ listBytes rejectedLaneBytes r.lanes) s2
    else s2
  match s3.slots[r.slot] with
  | some c =>
    if c.state = .draining ∧ c.inFlight = 0 then
      notifyJob r.slot (some c.job) (some .draining) (some .parked) (parkContext r.slot s3)
    else s3
  | none => s3

/-- The retirement of a boundary: the gate step, the lanes of the set at age G, its removal (R120). -/
def retire (s : State) : State :=
  match setAtAge s s.st.gateLag with
  | none => gateStep none s
  | some r =>
    removeSet r ((List.finRange 4).foldl (settleLane r) { state := gateStep (some r) s, left := r.reservation })

/-! ## Allocation (R56 to R66) -/

/-- An allocation in progress: the state, the entry parts filled so far and the set's reservation count. -/
structure Filling where
  state : State
  parts : List EntryPart
  left : Nat
  deriving DecidableEq, Repr

/-- One more entry part. -/
def Filling.push (a : Filling) (lane : LaneId) (q : Option SeqId) (e : EntryState) : Filling :=
  { a with parts := a.parts ++ [{ lane := lane, sequence := q, state := e }] }

/-- The origin at the root of an origin (R64, R68). -/
def Origin.root : Origin → RootOrigin
  | .fresh => .fresh
  | .reprint => .reprint
  | .repeated _ r => r

/-- A fresh draw fills an entry, or fails: the entry is UNNUMBERED, its record returns and SEQ_EXHAUSTED latches
(R62, R63). A probe on the sequence becomes STALE (R24). -/
def fillFresh (k : SlotId) (lane : LaneId) (q : SeqId) (x : Sequence) (ranges : List Exclusion) (a : Filling) :
    Filling :=
  match x.draw ranges with
  | .yields v w =>
    let s1 := makeStale k q (modifySequence k q (fun y => (y.commit v w).countHeld) a.state)
    { a with state := s1 }.push lane (some q)
      (.numbered { value := v, check := checkOf x.scheme x.digits v, origin := .fresh, spoil := 0 })
  | .fails =>
    let s1 := makeStale k q (modifySequence k q Sequence.exhaust a.state)
    { a with state := latchStop .seqExhausted (returnReserved 1 s1), left := a.left - 1 }.push lane (some q) .unnumbered

/-- A queued number fills a reprint-first entry (R61, R132). -/
def fillReprint (k : SlotId) (lane : LaneId) (q : SeqId) (x : Sequence) (e : QueueEntry) (a : Filling) : Filling :=
  { a with state := modifySequence k q Sequence.takeOldest a.state }.push lane (some q)
    (.numbered { value := e.value, check := checkOf x.scheme x.digits e.value, origin := .reprint, spoil := e.spoil })

/-- The number a REPEAT copies from its base as the base stands (R64). -/
def repeatOf (b : EntryId) (parts : List EntryPart) : EntryState :=
  match parts[(b : Nat)]?.bind EntryPart.number with
  | some n => .numbered { n with origin := .repeated b n.origin.root }
  | none => .unnumbered

/-- One entry of the list is filled (R61 to R64). -/
def fillEntry (k : SlotId) (a : Filling) (e : AllocEntry) : Filling :=
  match e.mode with
  | .blank => a.push e.lane none .blank
  | .repeated b => a.push e.lane none (repeatOf b a.parts)
  | .fresh q reprintFirst =>
    match a.state.slots[k] with
    | none => a.push e.lane (some q) .unnumbered
    | some c =>
      match c.sequences[q] with
      | none => a.push e.lane (some q) .unnumbered
      | some x =>
        match reprintFirst, x.queue with
        | true, o :: _ => fillReprint k e.lane q x o a
        | _, _ => fillFresh k e.lane q x (c.rangesOf q) a

/-- The sequence a list entry draws from, present for FRESH (R53). -/
def EntryMode.sequence? : EntryMode → Option SeqId
  | .fresh q _ => some q
  | .repeated _ | .blank => none

/-- The entry part of a degraded set: BLANK stays BLANK, everything else is UNNUMBERED (R60). -/
def degradedPart (e : AllocEntry) : EntryPart :=
  { lane := e.lane, sequence := e.mode.sequence?, state := if e.mode = .blank then .blank else .unnumbered }

/-- The records a list reserves: one for each FRESH entry (R59). -/
def freshCount (list : List AllocEntry) : Nat := (list.filter fun e => e.mode.sequence?.isSome).length

/-- Stages 1 and 2: the reservation and the filling, or the degraded set (R57, R59, R60). -/
def numberSet (k : SlotId) (list : List AllocEntry) (s : State) : Filling :=
  if freshCount list ≤ s.ij.unreserved then
    list.foldl (fillEntry k) { state := reserveRecords (freshCount list) s, parts := [], left := freshCount list }
  else { state := s, parts := list.map degradedPart, left := 0 }

/-- A lane part at allocation: UNNUMBERED where an entry of the lane is (R65), and the inspection state by the map
(R66). -/
def newLane (c : Context) (parts : List EntryPart) (l : LaneId) : LanePart :=
  let inspected := (c.inspection[l]).any fun e => (parts[(e : Nat)]?.bind EntryPart.number).isSome
  let empty : LanePart :=
    { inspection := if inspected then .awaiting else .notRequired, reasons := 0, primary := none }
  if parts.any (fun p => decide (p.lane = l) && p.isUnnumbered) then empty.add .unnumbered else empty

/-- The lanes of a job: 1 to its lane count. -/
def laneIds (lanes : Nat) : List LaneId := (List.finRange 4).filter fun l => (l : Nat) < lanes

/-- The set record of cycle x (R65 to R67). -/
def newSet (k : SlotId) (c : Context) (x : Cycle) (parts : List EntryPart) (left : Nat) : SetRecord :=
  { tag := x, slot := k, entries := parts, reservation := left,
    heads := tabulate fun h => if (c.assignments[h]).isSome then .pending else .unused,
    lanes := (laneIds c.lanes).map (newLane c parts),
    registration := .notMeasured }

/-- The record joins the ring at its newest end, and the slot's sets in flight rise by one (R69, R158). -/
def appendSet (r : SetRecord) (s : State) : State :=
  modifyContext r.slot (fun c => { c with inFlight := c.inFlight + 1 })
    { s with st := { s.st with ring := s.st.ring ++ [r] } }

/-- The allocation of a boundary (R56, R57). The hand-over to the heads follows in boundaryWork. -/
def allocate (s : State) : State :=
  match s.st.runOpen, activeSlot s with
  | true, some k =>
    match s.slots[k] with
    | none => s
    | some c =>
      let a := numberSet k c.list s
      appendSet (newSet k c s.wpu.cycle a.parts a.left) a.state
  | _, _ => s

/-! ## Changeover and suspension (R169, R171) -/

/-- The state of a slot before its activation. -/
def ActivationOrigin.state : ActivationOrigin → JobState
  | .ready => .ready
  | .parked => .parked

/-- The context that was ACTIVE gives way: DRAINING with sets in flight, PARKED without (R169 step 3). -/
def demote (k : SlotId) (s : State) : State :=
  match s.slots[k] with
  | none => s
  | some c =>
    if 0 < c.inFlight then modifyContext k (Context.enter .draining) s else parkContext k s

/-- The JOB_STATE notice of a demoted slot. -/
def notifyDemoted (k : SlotId) (s : State) : State :=
  notifyJob k ((s.slots[k]).map Context.job) (some .active) (slotState s k) s

/-- The changeover, when an activation is pending for this cycle (R169). -/
def changeover (s : State) : State :=
  match s.activation with
  | none => s
  | some a =>
    if a.effective = s.wpu.cycle then
      match s.slots[a.slot] with
      | none => { s with activation := none }
      | some c =>
        let old := (activeSlot s).filter fun k => k != a.slot
        let s1 := modifyContext a.slot (Context.enter .active) { s with activation := none }
        let s2 := contextRecord
          { activated := some (a.origin == .parked), slot := a.slot, job := c.job, stamp := s.wpu.cycle } s1
        let s3 := match old with
          | none => s2
          | some k => demote k s2
        let s4 := notifyJob a.slot (some c.job) (some a.origin.state) (some .active) s3
        match old with
        | none => s4
        | some k => notifyDemoted k s4
    else s

/-- The suspension: the ACTIVE context with its suspend flag set becomes DRAINING (R171). -/
def suspension (s : State) : State :=
  match activeSlot s with
  | none => s
  | some k =>
    match s.slots[k] with
    | none => s
    | some c =>
      if c.suspend then
        notifyJob k (some c.job) (some .active) (some .draining) (modifyContext k (Context.enter .draining) s)
      else s

/-! ## Window close (R116) -/

/-- An AWAITING lane becomes UNREAD (R116). -/
def LanePart.closeWindow (l : LanePart) : LanePart :=
  if l.inspection = .awaiting then ({ l with inspection := .unread }).add .unread else l

/-- The window of the set at age Q + 1 closes (R116). -/
def closeWindow (s : State) : State :=
  modifySet (s.wpu.cycle - BitVec.ofNat 32 (s.st.inspect + 1))
    (fun r => { r with lanes := r.lanes.map LanePart.closeWindow }) s

end Sys2Proof.Machine
end

