-- ==== Sys2Proof/Machine/SequenceCmds.lean ====
section
/-! DEFINITION. The requests on sequences, exclusions and reprint queues (R4 to R10, R135, R137, R199). -/

namespace Sys2Proof.Machine

/-- The largest sequence value and bound (R1). -/
def maxValue : Nat := 9999999999

/-- READY or PARKED. -/
def JobState.isIdle (j : JobState) : Bool := j == .ready || j == .parked

/-- The end policy of a code (R1, R197). -/
def EndPolicy.ofCode (n : Nat) : Option EndPolicy :=
  match n with
  | 0 => some .halt
  | 1 => some .wrap
  | _ => none

/-- The check scheme of a code (R1, R197). -/
def CheckScheme.ofCode (n : Nat) : Option CheckScheme :=
  match n with
  | 0 => some .none
  | 1 => some .w31
  | 2 => some .m11
  | 3 => some .m7
  | _ => none

/-- A code that stands for a named value, or BAD_VALUE. -/
def coded {α : Type} (o : Option α) (k : α → Reply) : Reply :=
  match o with
  | some a => k a
  | none => .refuse .badValue []

/-! ## DEFINE_SEQUENCE (R5) -/

/-- A freshly defined sequence: V = F, LIVE, every counter 0, an empty queue (R1, R5, R127). -/
def freshSequence (digits first last : Nat) (step : Int) (policy : EndPolicy) (scheme : CheckScheme) : Sequence :=
  { state := .live, digits := digits, first := first, last := last, step := step, value := first, policy := policy,
    scheme := scheme, wraps := 0, drawn := 0, issued := 0, voided := 0, queued := 0, held := 0, queue := [] }

/-- The sequence is defined and its old ranges leave the table (R5). -/
def Context.define (q : SeqId) (x : Sequence) (c : Context) : Context :=
  { c with sequences := c.sequences.set q (some x), exclusions := c.exclusions.filter fun r => r.sequence != q }

/-- The checks and the effect of DEFINE_SEQUENCE (R5). -/
def replyDefineSequence (slot sequence digits first last : Nat) (step : Int) (policy scheme : Nat) (s : State) : Reply :=
  named 4 slot fun k => named 8 sequence fun q =>
  require (1 ≤ digits && digits ≤ 10 && first ≤ maxValue && last ≤ maxValue) .badValue <|
  require (step != 0 && decide (-999 ≤ step ∧ step ≤ 999)) .badValue <|
  coded (EndPolicy.ofCode policy) fun e => coded (CheckScheme.ofCode scheme) fun h =>
  inState s k (· == .building) fun _ => notBusy s k <|
  .accept (modifyContext k (Context.define q (freshSequence digits first last step e h)) s) []

/-- DEFINE_SEQUENCE (R5). -/
def execDefineSequence (port : PortId) (slot sequence digits first last : Nat) (step : Int) (policy scheme : Nat)
    (s : State) : Host.Outcome State Fault Refusal :=
  request port (.defineSequence port slot sequence digits first last step policy scheme)
    (replyDefineSequence slot sequence digits first last step policy scheme) s

/-! ## LOAD_VALUE (R6) -/

/-- V becomes v and the state LIVE (R6). -/
def Sequence.load (v : Int) (q : Sequence) : Sequence := { q with value := v, state := .live }

/-- The checks and the effect of LOAD_VALUE (R6, R167). A queue that is not empty is tested before the bounds, as R6 names
them; R4 lists bounds first (log 14). -/
def replyLoadValue (slot sequence : Nat) (v : Int) (s : State) : Reply :=
  named 4 slot fun k => named 8 sequence fun q =>
  require (decide (-549755813888 ≤ v ∧ v ≤ 549755813887)) .badValue <|
  inState s k JobState.isIdle fun c => require (!isPendingSlot s k) .wrongState <|
  notBusy s k <| defined c q fun x =>
  require x.queue.isEmpty .wrongState <|
  require (decide ((x.lo : Int) ≤ v ∧ v ≤ x.hi)) .badValue <|
  journalRoom s 1 <|
  .accept (journalUnreserved k c.job s.wpu.cycle (.valueLoaded q x.value v) (modifySequence k q (Sequence.load v) s)) []

/-- LOAD_VALUE (R6). -/
def execLoadValue (port : PortId) (slot sequence : Nat) (value : Int) (s : State) :
    Host.Outcome State Fault Refusal :=
  request port (.loadValue port slot sequence value) (replyLoadValue slot sequence value) s

/-! ## The exclusion table (R8 to R10) -/

/-- The table order: by sequence, then by the lower end (R8). -/
def Exclusion.before (r t : Exclusion) : Bool := r.sequence < t.sequence || (r.sequence == t.sequence && r.low < t.low)

/-- A range at its place in the table order (R9). -/
def insertRange (r : Exclusion) : List Exclusion → List Exclusion
  | [] => [r]
  | t :: ts => if r.before t then r :: t :: ts else t :: insertRange r ts

/-- Two ranges share a value. -/
def Exclusion.overlaps (r : Exclusion) (a b : Nat) : Bool := r.low ≤ b && a ≤ r.high

/-- ADD_EXCLUSION outside BUILDING is journaled from unreserved space (R9). -/
def journalExclusion (k : SlotId) (c : Context) (q : SeqId) (a b : Nat) (s : State) : State :=
  if c.state = .building then s else journalUnreserved k c.job s.wpu.cycle (.exclusionAdded q a b) s

/-- The checks and the effect of ADD_EXCLUSION (R9). -/
def replyAddExclusion (slot sequence a b : Nat) (s : State) : Reply :=
  named 4 slot fun k => named 8 sequence fun q =>
  require (a ≤ maxValue && b ≤ maxValue) .badValue <|
  inState s k (· != .draining) fun c => defined c q fun x =>
  require (a ≤ b && x.lo ≤ a && b ≤ x.hi && !(c.rangesOf q).any (fun r => r.overlaps a b)
    && c.exclusions.length < 16) .badValue <|
  journalRoom s (if c.state = .building then 0 else 1) <|
  .accept
    (makeStale k q
      (modifyContext k
        (fun c => { c with exclusions := insertRange { sequence := q, low := a, high := b } c.exclusions })
        (journalExclusion k c q a b s))) []

/-- ADD_EXCLUSION (R9). -/
def execAddExclusion (port : PortId) (slot sequence low high : Nat) (s : State) :
    Host.Outcome State Fault Refusal :=
  request port (.addExclusion port slot sequence low high) (replyAddExclusion slot sequence low high) s

/-- The range of the sequence that begins at a value. -/
def Exclusion.beginsAt (q : SeqId) (a : Nat) (r : Exclusion) : Bool := r.sequence == q && r.low == a

/-- The checks and the effect of REMOVE_EXCLUSION (R10). -/
def replyRemoveExclusion (slot sequence a : Nat) (s : State) : Reply :=
  named 4 slot fun k => named 8 sequence fun q =>
  require (a ≤ maxValue) .badValue <|
  inState s k (· == .building) fun c => defined c q fun _ =>
  require (c.exclusions.any (Exclusion.beginsAt q a)) .notFound <|
  .accept
    (makeStale k q
      (modifyContext k (fun c => { c with exclusions := c.exclusions.eraseP (Exclusion.beginsAt q a) }) s)) []

/-- REMOVE_EXCLUSION (R10). -/
def execRemoveExclusion (port : PortId) (slot sequence low : Nat) (s : State) :
    Host.Outcome State Fault Refusal :=
  request port (.removeExclusion port slot sequence low) (replyRemoveExclusion slot sequence low) s

/-! ## WITHDRAW_REPRINT (R135) -/

/-- What the response to a removal carries: the outcome, the entry's spoil count, reason and tag, and whether the queue
is now empty (R135). -/
def withdrawnBytes (e : QueueEntry) (empty : Bool) : List Byte :=
  Config.withdrawOutcomeCode true :: byte e.spoil :: e.reason.code :: wordBytes e.tag ++ [flagByte empty]

/-- The queued value is voided and journaled (R135). -/
def withdrawEntry (k : SlotId) (c : Context) (q : SeqId) (e : QueueEntry) (s : State) : State :=
  journalUnreserved k c.job s.wpu.cycle (.voidedQueued q e.value .withdrawn e.reason e.spoil)
    (modifySequence k q (Sequence.withdraw e.value) s)

/-- The checks and the effect of WITHDRAW_REPRINT (R135). -/
def replyWithdrawReprint (slot sequence value : Nat) (s : State) : Reply :=
  named 4 slot fun k => named 8 sequence fun q =>
  require (value ≤ maxValue) .badValue <|
  inState s k (fun _ => true) fun c => defined c q fun x =>
  match x.queue.find? fun e => e.value == value with
  | none => .accept s [Config.withdrawOutcomeCode false]
  | some e =>
    journalRoom s 1 <|
    .accept (withdrawEntry k c q e s) (withdrawnBytes e (x.withdraw value).queue.isEmpty)

/-- WITHDRAW_REPRINT (R135). -/
def execWithdrawReprint (port : PortId) (slot sequence value : Nat) (s : State) :
    Host.Outcome State Fault Refusal :=
  request port (.withdrawReprint port slot sequence value) (replyWithdrawReprint slot sequence value) s

/-! ## Reading (R7, R137, R199) -/

/-- The items of one page: from `size` times the page onward, at most `size` (R199). -/
def pageOf {α : Type} (size page : Nat) (l : List α) : List α := (l.drop (size * page)).take size

/-- The record of a defined sequence as READ_SEQUENCE gives it, before its ranges (R7). -/
def sequenceBytes (x : Sequence) : List Byte :=
  [seqStateCode (some x), byte x.digits] ++ be 5 x.first ++ be 5 x.last ++ beSigned 2 x.step ++
    [x.policy.code, x.scheme.code] ++ beSigned 5 x.value ++ wordBytes x.wraps ++ countBytes x.drawn ++
    countBytes x.issued ++ countBytes x.voided ++ countBytes x.queued ++ countBytes x.held

/-- The answer of READ_SEQUENCE (R7, R199). -/
def replyReadSequence (slot sequence page : Nat) (s : State) : Reply :=
  named 4 slot fun k => named 8 sequence fun q =>
  inState s k (fun _ => true) fun c =>
  match c.sequences[q] with
  | none => .accept s [seqStateCode none]
  | some x =>
    .accept s (sequenceBytes x ++
      listBytes (fun r => be 5 r.low ++ be 5 r.high) (pageOf 6 page (c.rangesOf q)))

/-- READ_SEQUENCE (R7, R199). -/
def execReadSequence (port : PortId) (slot sequence : Nat) (page : Option Nat) (s : State) :
    Host.Outcome State Fault Refusal :=
  request port (.readSequence port slot sequence page) (replyReadSequence slot sequence (page.getD 0)) s

/-- One queue entry in READ_QUEUE: value, spoil count, reason and tag (R199). -/
def queueEntryBytes (e : QueueEntry) : List Byte := be 5 e.value ++ byte e.spoil :: e.reason.code :: wordBytes e.tag

/-- The answer of READ_QUEUE (R137, R199). -/
def replyReadQueue (slot sequence page : Nat) (s : State) : Reply :=
  named 4 slot fun k => named 8 sequence fun q =>
  inState s k (fun _ => true) fun c => defined c q fun x =>
  .accept s ([c.policy.code, byte c.limit, byte x.queue.length, byte page] ++
    listBytes queueEntryBytes (pageOf 8 page x.queue))

/-- READ_QUEUE (R137, R199). -/
def execReadQueue (port : PortId) (slot sequence : Nat) (page : Option Nat) (s : State) :
    Host.Outcome State Fault Refusal :=
  request port (.readQueue port slot sequence page) (replyReadQueue slot sequence (page.getD 0)) s

end Sys2Proof.Machine
end

