-- ==== Sys2Proof/Machine/BackgroundCmds.lean ====
section
/-! DEFINITION. The background operations of the Number Generator: probes and skip-aheads (R20 to R30). -/

namespace Sys2Proof.Machine

/-! ## Their notices and records on the wire (R23, R28 to R30) -/

/-- The end of a probe as a free code (log 16). -/
def ProbeEnd.code : ProbeEnd → Byte
  | .complete _ => Config.probeEndCode 0
  | .exhausted _ => Config.probeEndCode 1
  | .cancelled => Config.probeEndCode 2

/-- The result of a probe: the value, or the draws before the failure, or none when cancelled (R23, R29). -/
def ProbeEnd.resultBytes : ProbeEnd → List Byte
  | .complete v => 1 :: be 5 v
  | .exhausted k => 1 :: be 2 k
  | .cancelled => [0]

/-- The end of a skip-ahead as a free code (log 16). -/
def SkipEnd.code : SkipEnd → Byte
  | .done => Config.skipEndCode 0
  | .exhausted => Config.skipEndCode 1
  | .cancelled => Config.skipEndCode 2

/-- RUNNING 0, HELD 1, DONE 2, CANCELLED 3 (R20). -/
def probeStateCode (p : Probe) : Byte :=
  match p.ended with
  | none => 0
  | some .cancelled => 3
  | some (.complete _) | some (.exhausted _) => 2

/-- RUNNING 0, HELD 1, DONE 2, CANCELLED 3 (R20). -/
def skipStateCode (k : Skip) : Byte :=
  match k.ended with
  | none => if k.held then 1 else 0
  | some .cancelled => 3
  | some .done | some .exhausted => 2

/-- PROBE_DONE: slot, sequence, end, result, wrap count in four bytes, STALE (R23; log 15). -/
def probeDonePayload (p : Probe) (e : ProbeEnd) : List Byte :=
  byte p.slot :: byte p.sequence :: e.code :: e.resultBytes ++ wordBytes p.wraps ++ [flagByte p.stale]

/-- SKIP_DONE: slot, sequence, end, count voided, final V (R28). -/
def skipDonePayload (k : Skip) (e : SkipEnd) : List Byte :=
  byte k.slot :: byte k.sequence :: e.code :: be 2 k.voided ++ beSigned 5 k.next

/-- The result and wrap count of a probe, once DONE: the result code, then the value or k, then the wrap count in four bytes
(R30; log 15). -/
def probeResultBytes (p : Probe) : List Byte :=
  match p.ended with
  | some (.complete v) => 1 :: (ProbeEnd.complete v).code :: be 5 v ++ wordBytes p.wraps
  | some (.exhausted k) => 1 :: (ProbeEnd.exhausted k).code :: be 2 k ++ wordBytes p.wraps
  | some .cancelled | none => [0]

/-- The background record as READ_BACKGROUND gives it (R30). -/
def backgroundBytes : Background → List Byte
  | .none => [0]
  | .probe p =>
    1 :: byte p.slot :: byte p.sequence :: be 2 p.count ++ probeStateCode p :: be 2 p.draws ++
      flagByte p.stale :: probeResultBytes p
  | .skip k =>
    2 :: byte k.slot :: byte k.sequence :: be 2 k.count ++ skipStateCode k :: be 2 k.remaining ++
      be 2 k.voided ++ beSigned 5 k.next ++ optBytes (fun e => [SkipEnd.code e]) k.ended

/-! ## Probes (R22 to R24) -/

/-- The background record becomes a probe's. -/
def setProbe (p : Probe) (s : State) : State := { s with background := .probe p }

/-- The probe ends and PROBE_DONE is sent (R23, R29). -/
def endProbe (p : Probe) (e : ProbeEnd) (s : State) : State :=
  notify .probeDone (probeDonePayload p e) (setProbe { p with ended := some e } s)

/-- The probe after one successful draw on its copy (R22, R23). -/
def Probe.drew (p : Probe) (v : Nat) (wrapped : Bool) : Probe :=
  { p with copy := p.copy.commit v wrapped, draws := p.draws + 1, wraps := if wrapped then p.wraps + 1 else p.wraps }

/-- A running probe computes its next draw on its copy (R22, R23). -/
def stepProbe (p : Probe) (s : State) : State :=
  match p.copy.draw p.ranges with
  | .fails => endProbe { p with copy := p.copy.exhaust } (.exhausted p.draws) s
  | .yields v w =>
    if (p.drew v w).draws = p.count then endProbe (p.drew v w) (.complete v) s else setProbe (p.drew v w) s

/-- PROBE_DRAW: the next draw of a RUNNING probe (R22, R23). -/
def execProbeDraw (s : State) : Host.Outcome State Fault Refusal :=
  .next (
    match s.background with
    | .probe p => if p.ended.isNone then stepProbe p s else s
    | .none | .skip _ => s)

/-! ## Skip-aheads (R25 to R28) -/

/-- The background record becomes a skip-ahead's. -/
def setSkip (k : Skip) (s : State) : State := { s with background := .skip k }

/-- The skip-ahead ends and SKIP_DONE is sent (R28, R29). -/
def endSkip (k : Skip) (e : SkipEnd) (s : State) : State :=
  notify .skipDone (skipDonePayload k e) (setSkip { k with held := false, ended := some e } s)

/-- The skip-ahead after one committed draw (R25). -/
def Skip.drew (k : Skip) (next : Int) : Skip :=
  { k with remaining := k.remaining - 1, voided := k.voided + 1, next := next, held := false }

/-- A value is journaled as VOID_RUN: it extends the tail or takes one unreserved record; none when there is no room
(R26). -/
def journalSkip (k : Skip) (job : Nat) (x : Sequence) (v : Nat) (s : State) : Option State :=
  let b := RecordBody.voidRun k.sequence v v 1 x.step
  match s.ij.merge k.slot job b with
  | some j => some { s with ij := j }
  | none => if 0 < s.ij.unreserved then some (journalUnreserved k.slot job s.wpu.cycle b s) else none

/-- The draw commits: drawn and voided rise together and V moves on (R25, R28). -/
def commitSkip (k : Skip) (x : Sequence) (v : Nat) (w : Bool) (s : State) : State :=
  let s1 := modifySequence k.slot k.sequence (fun y => (y.commit v w).countSkipped) s
  let k1 := k.drew (x.commit v w).value
  if k1.remaining = 0 then endSkip k1 .done s1 else setSkip k1 s1

/-- A running skip-ahead makes one real draw, or becomes HELD, or ends (R26, R28). -/
def stepSkip (k : Skip) (c : Context) (x : Sequence) (s : State) : State :=
  match x.draw (c.rangesOf k.sequence) with
  | .fails => endSkip k .exhausted (modifySequence k.slot k.sequence Sequence.exhaust s)
  | .yields v w =>
    match journalSkip k c.job x v s with
    | none => setSkip { k with held := true } s
    | some s1 => commitSkip k x v w s1

/-- SKIP_DRAW: the next draw of a RUNNING skip-ahead (R26). -/
def execSkipDraw (s : State) : Host.Outcome State Fault Refusal :=
  .next (
    match s.background with
    | .skip k =>
      if k.ended.isNone && !k.held then
        match s.slots[k.slot] with
        | none => s
        | some c =>
          match c.sequences[k.sequence] with
          | none => s
          | some x => stepSkip k c x s
      else s
    | .none | .probe _ => s)

/-- SKIP_RESUME: a HELD skip-ahead becomes RUNNING when the unreserved free count is above 0 (R27). -/
def execSkipResume (s : State) : Host.Outcome State Fault Refusal := .next (resumeSkip s)

/-! ## Requests (R22, R25, R29, R30) -/

/-- No background operation is RUNNING or HELD on any slot (R21). -/
def backgroundFree (s : State) (r : Reply) : Reply := require (busySlotOf s.background).isNone .busy r

/-- The checks and the effect of PROBE_SEQUENCE (R22). -/
def replyProbeSequence (slot sequence count : Nat) (s : State) : Reply :=
  named 4 slot fun k => named 8 sequence fun q =>
  require (1 ≤ count && count ≤ 65535) .badValue <|
  inState s k (fun _ => true) fun c => backgroundFree s <| defined c q fun x =>
  .accept
    (setProbe
      { slot := k, sequence := q, count := count, copy := x, ranges := c.rangesOf q, draws := 0, wraps := 0,
        stale := false, ended := none } s) []

/-- PROBE_SEQUENCE (R22). -/
def execProbeSequence (port : PortId) (slot sequence count : Nat) (s : State) : Host.Outcome State Fault Refusal :=
  request port (.probeSequence port slot sequence count) (replyProbeSequence slot sequence count) s

/-- The checks and the effect of SKIP_AHEAD (R25, R167). -/
def replySkipAhead (slot sequence count : Nat) (s : State) : Reply :=
  named 4 slot fun k => named 8 sequence fun q =>
  require (1 ≤ count && count ≤ 65535) .badValue <|
  inState s k JobState.isIdle fun c => require (!isPendingSlot s k) .wrongState <|
  backgroundFree s <| defined c q fun x =>
  .accept
    (setSkip
      { slot := k, sequence := q, count := count, remaining := count, voided := 0, next := x.value, held := false,
        ended := none } s) []

/-- SKIP_AHEAD (R25). -/
def execSkipAhead (port : PortId) (slot sequence count : Nat) (s : State) : Host.Outcome State Fault Refusal :=
  request port (.skipAhead port slot sequence count) (replySkipAhead slot sequence count) s

/-- The checks and the effect of CANCEL_BACKGROUND (R29): the answer holds the record as it then stands (log 27). -/
def replyCancelBackground (s : State) : Reply :=
  match s.background with
  | .none => .refuse .wrongState []
  | .probe p =>
    require p.ended.isNone .wrongState <|
    .accept (endProbe p .cancelled s) (backgroundBytes (.probe { p with ended := some .cancelled }))
  | .skip k =>
    require k.ended.isNone .wrongState <|
    .accept (endSkip k .cancelled s) (backgroundBytes (.skip { k with held := false, ended := some .cancelled }))

/-- CANCEL_BACKGROUND (R29). -/
def execCancelBackground (port : PortId) (s : State) : Host.Outcome State Fault Refusal :=
  request port (.cancelBackground port) replyCancelBackground s

/-- The answer of READ_BACKGROUND (R30). -/
def replyReadBackground (s : State) : Reply := .accept s (backgroundBytes s.background)

/-- READ_BACKGROUND (R30). -/
def execReadBackground (port : PortId) (s : State) : Host.Outcome State Fault Refusal :=
  request port (.readBackground port) replyReadBackground s

end Sys2Proof.Machine
end

