-- ==== Sys2Proof/Machine/BuildCmds.lean ====
section
/-! DEFINITION. The requests that build a job: DEFINE_ENTRY, TRIM_LIST, ASSIGN_HEAD, DEFINE_FORMAT, DEFINE_MARKS,
SET_MARK_WINDOW, SET_INSPECTION (R54, R55, R77, R78, R93, R94, R112). -/

namespace Sys2Proof.Machine

/-- The context of a slot in BUILDING, or WRONG_STATE. -/
def building (s : State) (k : SlotId) (f : Context → Reply) : Reply := inState s k (· == .building) f

/-- A flag byte of 0 or 1, or BAD_VALUE (R197; log 14). -/
def flag (n : Nat) (k : Bool → Reply) : Reply :=
  match n with
  | 0 => k false
  | 1 => k true
  | _ => .refuse .badValue []

/-! ## The allocation list (R54, R55) -/

/-- The mode of an entry with its own fields; the fields the mode does not use are not read (R54). -/
def entryMode (mode source reprintFirst : Nat) (k : EntryMode → Reply) : Reply :=
  match mode with
  | 0 => named 8 source fun q => flag reprintFirst fun r => k (.fresh q r)
  | 1 => named 16 source fun b => k (.repeated b)
  | 2 => k .blank
  | _ => .refuse .badValue []

/-- An entry replaced, or appended at the list's length (R54). -/
def putEntry (i : Nat) (e : AllocEntry) (l : List AllocEntry) : List AllocEntry :=
  if i < l.length then l.set i e else l ++ [e]

/-- The checks and the effect of DEFINE_ENTRY (R54). -/
def replyDefineEntry (slot entry lane mode source reprintFirst : Nat) (s : State) : Reply :=
  named 4 slot fun k => named 16 entry fun e => namedLane lane fun l =>
  entryMode mode source reprintFirst fun m => building s k fun c =>
  require ((e : Nat) ≤ c.list.length) .badValue <|
  .accept (modifyContext k (fun c => { c with list := putEntry e { lane := l, mode := m } c.list }) s) []

/-- DEFINE_ENTRY (R54). -/
def execDefineEntry (port : PortId) (slot entry lane mode source reprintFirst : Nat) (s : State) :
    Host.Outcome State Fault Refusal :=
  request port (.defineEntry port slot entry lane mode source reprintFirst)
    (replyDefineEntry slot entry lane mode source reprintFirst) s

/-- The checks and the effect of TRIM_LIST (R55). A slot outside 0 to 3 is BAD_VALUE (log 14). -/
def replyTrimList (slot length : Nat) (s : State) : Reply :=
  named 4 slot fun k => require (length ≤ 16) .badValue <| building s k fun c =>
  .accept (modifyContext k (fun c => { c with list := c.list.take length }) s) [byte (min length c.list.length)]

/-- TRIM_LIST (R55). -/
def execTrimList (port : PortId) (slot length : Nat) (s : State) : Host.Outcome State Fault Refusal :=
  request port (.trimList port slot length) (replyTrimList slot length) s

/-! ## Assignments and formats (R77, R78) -/

/-- An assignment within its ranges, or BAD_VALUE (R77). -/
def assigned (a : Option RawAssignment) (k : Option Assignment → Reply) : Reply :=
  match a with
  | none => k none
  | some r => named 16 r.entry fun e => named 8 r.format fun f => k (some { entry := e, format := f })

/-- The checks and the effect of ASSIGN_HEAD (R77). -/
def replyAssignHead (slot head : Nat) (assignment : Option RawAssignment) (s : State) : Reply :=
  named 4 slot fun k => named 24 head fun h => assigned assignment fun a => building s k fun _ =>
  .accept (modifyContext k (fun c => { c with assignments := c.assignments.set h a }) s) []

/-- ASSIGN_HEAD (R77). -/
def execAssignHead (port : PortId) (slot head : Nat) (assignment : Option RawAssignment) (s : State) :
    Host.Outcome State Fault Refusal :=
  request port (.assignHead port slot head assignment) (replyAssignHead slot head assignment) s

/-- A character of a LITERAL: 0 to 9, A to Z, space, hyphen, slash (R78, R197). -/
def isLiteralChar (b : Byte) : Bool :=
  (0x30 ≤ b.toNat && b.toNat ≤ 0x39) || (0x41 ≤ b.toNat && b.toNat ≤ 0x5A) || b == 0x20 || b == 0x2D || b == 0x2F

/-- A reference: E0 to E15, or OWN as 10h (R78, R197). -/
def EntryRef.ofCode (n : Nat) : Option EntryRef :=
  if h : n < 16 then some (.entry ⟨n, h⟩) else if n = 16 then some .own else none

/-- A fill: ZERO 0, BLANK 1 (R78, R197). -/
def Fill.ofCode (n : Nat) : Option Fill :=
  match n with
  | 0 => some .zero
  | 1 => some .blank
  | _ => none

/-- An item with its parameters in range; none when it is malformed (R78). -/
def itemOf : RawItem → Option FormatItem
  | .literal t => if 1 ≤ t.length && t.length ≤ 8 && t.all isLiteralChar then some (.literal t) else none
  | .number r f =>
    match EntryRef.ofCode r, Fill.ofCode f with
    | some e, some x => some (.number e x)
    | _, _ => none
  | .check r => (EntryRef.ofCode r).map .check
  | .lane => some .lane
  | .ply => some .ply
  | .job => some .job

/-- The items of a format, none when one is malformed (R78). -/
def itemsOf : List RawItem → Option (List FormatItem)
  | [] => some []
  | i :: is =>
    match itemOf i, itemsOf is with
    | some x, some xs => some (x :: xs)
    | _, _ => none

/-- The checks and the effect of DEFINE_FORMAT (R78). -/
def replyDefineFormat (slot format : Nat) (items : List RawItem) (s : State) : Reply :=
  named 4 slot fun k => named 8 format fun f =>
  require (1 ≤ items.length && items.length ≤ 6) .badValue <|
  coded (itemsOf items) fun xs => building s k fun _ =>
  .accept (modifyContext k (fun c => { c with formats := c.formats.set f (some xs) }) s) []

/-- DEFINE_FORMAT (R78). -/
def execDefineFormat (port : PortId) (slot format : Nat) (items : List RawItem) (s : State) :
    Host.Outcome State Fault Refusal :=
  request port (.defineFormat port slot format items) (replyDefineFormat slot format items) s

/-! ## Marks and inspection (R93, R94, R112) -/

/-- The settings that DEFINE_MARKS gives a channel: none when disabled, else in range or BAD_VALUE (R93). -/
def channelMarks (enabled : Bool) (positions : List Nat) (tolerance : Nat) (k : Option ChannelMarks → Reply) : Reply :=
  if enabled then
    require (1 ≤ positions.length && positions.length ≤ 4 && positions.all (· ≤ 479999) && tolerance ≤ 4095) .badValue <|
    k (some { positions := positions, tolerance := tolerance })
  else k none

/-- The mark settings of a context are changed. -/
def Context.modifyMarks (f : MarkSettings → MarkSettings) (c : Context) : Context := { c with marks := f c.marks }

/-- A channel 1 to 6 on the wire, or BAD_VALUE. -/
def namedChannel (v : Nat) (k : ChannelId → Reply) : Reply :=
  if h : 1 ≤ v ∧ v ≤ 6 then k ⟨v - 1, by omega⟩ else .refuse .badValue []

/-- The checks and the effect of DEFINE_MARKS (R93). -/
def replyDefineMarks (slot channel enabled : Nat) (positions : List Nat) (tolerance : Nat) (s : State) : Reply :=
  named 4 slot fun k => namedChannel channel fun ch => flag enabled fun en =>
  channelMarks en positions tolerance fun m => building s k fun _ =>
  .accept (modifyContext k (Context.modifyMarks fun x => { x with channels := x.channels.set ch m }) s) []

/-- DEFINE_MARKS (R93). -/
def execDefineMarks (port : PortId) (slot channel enabled : Nat) (positions : List Nat) (tolerance : Nat) (s : State) :
    Host.Outcome State Fault Refusal :=
  request port (.defineMarks port slot channel enabled positions tolerance)
    (replyDefineMarks slot channel enabled positions tolerance) s

/-- The checks and the effect of SET_MARK_WINDOW (R94). -/
def replySetMarkWindow (slot maskEnd closeAt : Nat) (s : State) : Reply :=
  named 4 slot fun k =>
  require (maskEnd ≤ 65535 && 1 ≤ closeAt && closeAt ≤ 65535) .badValue <| building s k fun _ =>
  .accept (modifyContext k (Context.modifyMarks fun x => { x with maskEnd := maskEnd, closeAt := closeAt }) s) []

/-- SET_MARK_WINDOW (R94). -/
def execSetMarkWindow (port : PortId) (slot maskEnd closeAt : Nat) (s : State) : Host.Outcome State Fault Refusal :=
  request port (.setMarkWindow port slot maskEnd closeAt) (replySetMarkWindow slot maskEnd closeAt) s

/-- An entry E0 to E15, or NONE as FFh, or BAD_VALUE (R112, R197). -/
def entryOrNone (n : Nat) (k : Option EntryId → Reply) : Reply :=
  if n = 255 then k none else named 16 n fun e => k (some e)

/-- The checks and the effect of SET_INSPECTION (R112). -/
def replySetInspection (slot lane entry : Nat) (s : State) : Reply :=
  named 4 slot fun k => namedLane lane fun l => entryOrNone entry fun e => building s k fun _ =>
  .accept (modifyContext k (fun c => { c with inspection := c.inspection.set l e }) s) []

/-- SET_INSPECTION (R112). -/
def execSetInspection (port : PortId) (slot lane entry : Nat) (s : State) : Host.Outcome State Fault Refusal :=
  request port (.setInspection port slot lane entry) (replySetInspection slot lane entry) s

end Sys2Proof.Machine
end

