-- ==== Sys2Proof/Machine/GeometryCmds.lean ====
section
/-! DEFINITION. The requests on the press geometry: SET_WEB, SET_LAGS, OPEN_RUN, CLOSE_RUN, PLACE_HEAD, SET_REG_STOP,
SET_GATE (R46, R50, R52, R74, R95, R119). -/

namespace Sys2Proof.Machine

/-- Nothing runs and no activation is pending, or WRONG_STATE: the geometry is free (R46, R50, R74, R95, R119). -/
def geometryFree (s : State) (r : Reply) : Reply := require (!running s) .wrongState r

/-! ## SET_WEB (R46) -/

/-- The WPU's fields after SET_WEB (R46). -/
def Wpu.setWeb (rl tolerance : Nat) (w : Wpu) : Wpu :=
  { w with
    repeatLength := rl, tolerance := min tolerance (rl / 4), position := 0, indexPending := .none, backed := false,
    deficit := 0, episodeMax := 0, far := false }

/-- The checks and the effect of SET_WEB; an open measurement follows the new position (R46, R99). -/
def replySetWeb (rl tolerance : Nat) (s : State) : Reply :=
  require (1000 ≤ rl && rl ≤ 60000 && tolerance ≤ 65535) .badValue <|
  geometryFree s <|
  .accept (followMeasurement (modifyWpu (Wpu.setWeb rl tolerance) s)) (be 2 rl ++ be 2 (min tolerance (rl / 4)))

/-- SET_WEB (R46). -/
def execSetWeb (port : PortId) (repeatLength tolerance : Nat) (s : State) : Host.Outcome State Fault Refusal :=
  request port (.setWeb port repeatLength tolerance) (replySetWeb repeatLength tolerance) s

/-! ## SET_LAGS and the run gate (R50, R52) -/

/-- Changes of the Set Tracker's fields alone. -/
def modifyTracker (f : Tracker → Tracker) (s : State) : State := { s with st := f s.st }

/-- A lag of 1 to 127 (R50). -/
def isLag (n : Nat) : Bool := 1 ≤ n && n ≤ 127

/-- The lags allow the print lag of every placed head (R50 check 4). -/
def lagsAllowHeads (m g : Nat) (s : State) : Bool :=
  s.hou.heads.toList.all fun h => h.placement.all fun p => p.lag ≤ m && p.lag + 2 ≤ g

/-- The checks and the effect of SET_LAGS (R50). -/
def replySetLags (m q g : Nat) (s : State) : Reply :=
  require (isLag m && isLag q && isLag g) .badValue <|
  geometryFree s <|
  require (m ≤ q && q + 2 ≤ g) .badValue <|
  require (lagsAllowHeads m g s) .badValue <|
  .accept (modifyTracker (fun t => { t with merge := m, inspect := q, gateLag := g }) s) [byte m, byte q, byte g]

/-- SET_LAGS (R50). -/
def execSetLags (port : PortId) (merge inspect gate : Nat) (s : State) : Host.Outcome State Fault Refusal :=
  request port (.setLags port merge inspect gate) (replySetLags merge inspect gate) s

/-- OPEN_RUN: the run gate is OPEN (R52). -/
def execOpenRun (port : PortId) (s : State) : Host.Outcome State Fault Refusal :=
  request port (.openRun port) (fun s => .accept (modifyTracker (fun t => { t with runOpen := true }) s) []) s

/-- CLOSE_RUN: the run gate is CLOSED (R52). -/
def execCloseRun (port : PortId) (s : State) : Host.Outcome State Fault Refusal :=
  request port (.closeRun port) (fun s => .accept (modifyTracker (fun t => { t with runOpen := false }) s) []) s

/-! ## PLACE_HEAD (R74) -/

/-- A placement on the wire: ply, lane and print lag (R74, R197). -/
def placementBytes (p : Placement) : List Byte := [byte p.ply, byte (p.lane + 1), byte p.lag]

/-- A placement within its ranges, or BAD_VALUE (R74). -/
def placed (p : Option RawPlacement) (k : Option Placement → Reply) : Reply :=
  match p with
  | none => k none
  | some r =>
    require (1 ≤ r.ply && r.ply ≤ 6) .badValue <|
    namedLane r.lane fun l =>
    require (1 ≤ r.lag && r.lag ≤ 60) .badValue <|
    k (some { ply := r.ply, lane := l, lag := r.lag })

/-- The checks and the effect of PLACE_HEAD (R74). -/
def replyPlaceHead (head : Nat) (placement : Option RawPlacement) (s : State) : Reply :=
  named 24 head fun h => placed placement fun p =>
  geometryFree s <|
  .accept (modifyHead h (fun x => { x with placement := p }) s) (optBytes placementBytes p)

/-- PLACE_HEAD (R74). -/
def execPlaceHead (port : PortId) (head : Nat) (placement : Option RawPlacement) (s : State) :
    Host.Outcome State Fault Refusal :=
  request port (.placeHead port head placement) (replyPlaceHead head placement) s

/-! ## SET_REG_STOP and SET_GATE (R95, R119) -/

/-- The checks and the effect of SET_REG_STOP: K, and the consecutive-fault counter 0 (R95). -/
def replySetRegStop (count : Nat) (s : State) : Reply :=
  require (count ≤ 15) .badValue <|
  geometryFree s <|
  .accept { s with mtu := { s.mtu with stopCount := count, faults := 0 } } [byte count]

/-- SET_REG_STOP (R95). -/
def execSetRegStop (port : PortId) (count : Nat) (s : State) : Host.Outcome State Fault Refusal :=
  request port (.setRegStop port count) (replySetRegStop count) s

/-- The checks and the effect of SET_GATE (R119). -/
def replySetGate (closeAt : Nat) (s : State) : Reply :=
  require (1 ≤ closeAt && closeAt ≤ 65535) .badValue <|
  geometryFree s <|
  .accept (modifyTracker (fun t => { t with gateClose := closeAt }) s) (be 2 closeAt)

/-- SET_GATE (R119). -/
def execSetGate (port : PortId) (closeAt : Nat) (s : State) : Host.Outcome State Fault Refusal :=
  request port (.setGate port closeAt) (replySetGate closeAt) s

end Sys2Proof.Machine
end

