-- ==== Sys2Proof/Machine/HeadLink.lean ====
section
/-! DEFINITION. The commands of the head link: ORDER_DEADLINE, ORDER_SEND, ORDER_FRAME_END, COMPLETION, STATE_MESSAGE,
HEAD_FRAME_DISCARD and the receiver's events (R75, R83, R86 to R90, R200). -/

namespace Sys2Proof.Machine

/-- ORDER_DEADLINE: the expiry step of one head at the present boundary (R83; log 7). -/
def execOrderDeadline (head : HeadId) (s : State) : Host.Outcome State Fault Refusal := .next (expireHead head s)

/-- ORDER_SEND: the arbiter chooses an order when the transmitter is free (R86). -/
def execOrderSend (s : State) : Host.Outcome State Fault Refusal := .next (sendOrder s)

/-- ORDER_FRAME_END: the frame ends and the transmitter is free; no set record changes (R87). -/
def execOrderFrameEnd (s : State) : Host.Outcome State Fault Refusal := .next (endOrder s)

/-- COMPLETION: settles the order with the tag, or is stale (R89, R90). -/
def execCompletion (head : HeadId) (tag : Cycle) (result : PrintResult) (s : State) :
    Host.Outcome State Fault Refusal :=
  .next (takeCompletion head tag result s)

/-- STATE_MESSAGE: a head reports READY or FAULT (R75, R76). -/
def execStateMessage (head : HeadId) (report : HeadReport) (s : State) : Host.Outcome State Fault Refusal :=
  .next (takeStateMessage head report s)

/-- HEAD_FRAME_DISCARD: the frame is discarded without effect, and the receiver stands at its end (R88). -/
def execHeadFrameDiscard (s : State) : Host.Outcome State Fault Refusal := .next (headLinkHunting s)

/-- HEAD_LINK_GAP_TIMEOUT: a gap within a frame ends it garbled, and a garbled frame draws nothing here (R188, R200). -/
def execHeadLinkGapTimeout (s : State) : Host.Outcome State Fault Refusal :=
  .next (if s.hou.receiver.inFrame then headLinkHunting s else s)

/-- HEAD_LINK_BYTE_RECEIVED: the receiver takes a byte, and a frame that it ends is taken or discarded (R88, R200). -/
def execHeadLinkByteReceived (b : Byte) (s : State) : Host.Outcome State Fault Refusal :=
  .next (
    match s.hou.receiver.step b with
    | .within r => { s with hou := { s.hou with receiver := r } }
    | .ended f => takeHeadFrame f (headLinkHunting s))

/-- HEAD_LINK_BAD_STOP_BIT: within a frame it ends the frame garbled, and in HUNTING it is discarded (R188, R200). -/
def execHeadLinkBadStopBit (s : State) : Host.Outcome State Fault Refusal :=
  .next (if s.hou.receiver.inFrame then headLinkHunting s else s)

end Sys2Proof.Machine
end

