-- ==== Sys2Proof/Machine/InspectionCmds.lean ====
section
/-! DEFINITION. The requests that reach a set in the ring: REPORT_READ, REPORT_DEFECT, REJECT_SETS, and the marking that
FLUSH asks for (R113 to R118). -/

namespace Sys2Proof.Machine

/-- The set whose window is open and one of its lanes, or NO_SET (R113). -/
def inWindow (s : State) (l : LaneId) (k : SetRecord → LanePart → Reply) : Reply :=
  match setAtAge s s.st.inspect with
  | none => .refuse .noSet []
  | some r =>
    match r.lanes[(l : Nat)]? with
    | none => .refuse .noSet []
    | some p => k r p

/-! ## REPORT_READ (R114) -/

/-- A decimal digit's character. -/
def isDigitChar (b : Byte) : Bool := 0x30 ≤ b.toNat && b.toNat ≤ 0x39

/-- The number that decimal characters spell, the first the most significant. -/
def digitsValue (ds : List Byte) : Nat := ds.foldl (fun a b => 10 * a + (b.toNat - 0x30)) 0

/-- A reported check character: a digit's code, or 0 for NONE; anything else is BAD_VALUE (R114, R197). -/
def reportedCheck (c : Nat) (k : Option Nat → Reply) : Reply :=
  if c = 0 then k none else if 0x30 ≤ c ∧ c ≤ 0x39 then k (some (c - 0x30)) else .refuse .badValue []

/-- The number of the lane's inspected entry, by the map of the set's context (R111, R114). -/
def inspectedNumber (s : State) (r : SetRecord) (l : LaneId) : Option Number :=
  (s.slots[r.slot].bind fun c => c.inspection[l]).bind r.numberOf

/-- The read matches: value and check character equal the inspected entry's (R114). -/
def readMatches (n : Option Number) (value : Nat) (check : Option Nat) : Bool :=
  n.any fun x => x.value == value && x.check == check

/-- The lane after a read, and the outcome's place: NOT_REQUIRED 0, MATCHED 1, MISREAD 2, REPEATED 3 (R114). -/
def judgeRead (matched : Bool) (p : LanePart) : LanePart × Fin 4 :=
  match p.inspection, matched with
  | .notRequired, _ => (p, 0)
  | .awaiting, true => ({ p with inspection := .readOk }, 1)
  | .readOk, true => (p, 3)
  | .awaiting, false | .readOk, false => (({ p with inspection := .misread }).add .misread, 2)
  | .misread, _ | .unread, _ => (p, 2)

/-- The checks and the effect of REPORT_READ (R114): the answer holds the tag, the lane and the outcome. -/
def replyReportRead (lane : Nat) (digits : List Byte) (check : Nat) (s : State) : Reply :=
  namedLane lane fun l =>
  require (1 ≤ digits.length && digits.length ≤ 10 && digits.all isDigitChar) .badValue <|
  reportedCheck check fun ch => inWindow s l fun r p =>
  let j := judgeRead (readMatches (inspectedNumber s r l) (digitsValue digits) ch) p
  .accept (modifySet r.tag (SetRecord.modifyLane l fun _ => j.1) s)
    (wordBytes r.tag ++ [byte lane, Config.readOutcomeCode j.2])

/-- REPORT_READ (R114). -/
def execReportRead (port : PortId) (lane : Nat) (digits : List Byte) (check : Nat) (s : State) :
    Host.Outcome State Fault Refusal :=
  request port (.reportRead port lane digits check) (replyReportRead lane digits check) s

/-! ## REPORT_DEFECT (R115) -/

/-- The checks and the effect of REPORT_DEFECT (R115). -/
def replyReportDefect (lane defect : Nat) (s : State) : Reply :=
  namedLane lane fun l =>
  require (1 ≤ defect && defect ≤ 255) .badValue <| inWindow s l fun r _ =>
  .accept
    (notify .defectReported (wordBytes r.tag ++ [byte lane, byte defect])
      (modifySet r.tag (SetRecord.addReason l .defect) s))
    (wordBytes r.tag ++ [byte lane])

/-- REPORT_DEFECT (R115). -/
def execReportDefect (port : PortId) (lane defect : Nat) (s : State) : Host.Outcome State Fault Refusal :=
  request port (.reportDefect port lane defect) (replyReportDefect lane defect) s

/-! ## REJECT_SETS (R117) -/

/-- The tag is among `count` tags from the first one, modulo 2^32 (R117). -/
def tagNamed (first : Cycle) (count : Nat) (t : Cycle) : Bool := (t - first).toNat < count

/-- A reason on each lane that a mask names and the set has (R117). -/
def SetRecord.addMasked (mask : Nat) (why : Reason) (r : SetRecord) : SetRecord :=
  { r with lanes := r.lanes.mapIdx fun i p => if mask.testBit i then p.add why else p }

/-- Each set of the ring that a test names is changed. -/
def modifySets (named_ : SetRecord → Bool) (f : SetRecord → SetRecord) (s : State) : State :=
  { s with st := { s.st with ring := s.st.ring.map fun r => if named_ r then f r else r } }

/-- The checks and the effect of REJECT_SETS (R117). -/
def replyRejectSets (firstTag count laneMask : Nat) (s : State) : Reply :=
  require (count != 0 && laneMask % 16 != 0) .badValue <|
  let isNamed := fun (r : SetRecord) => tagNamed (BitVec.ofNat 32 firstTag) (min count 128) r.tag
  let found := (s.st.ring.filter isNamed).length
  require (found != 0) .tooLate <|
  .accept (modifySets isNamed (SetRecord.addMasked laneMask .operator) s) [byte found]

/-- REJECT_SETS (R117). -/
def execRejectSets (port : PortId) (firstTag count laneMask : Nat) (s : State) : Host.Outcome State Fault Refusal :=
  request port (.rejectSets port firstTag count laneMask) (replyRejectSets firstTag count laneMask) s

/-! ## The marking of FLUSH (R118) -/

/-- A flushed set: FLUSHED on every lane, and each PENDING head CANCELLED (R118). -/
def SetRecord.flush (r : SetRecord) : SetRecord :=
  { r with
    lanes := r.lanes.map (LanePart.add .flushed),
    heads := mapTable (fun h => if h = .pending then .cancelled else h) r.heads }

/-- Every set of a slot is marked (R118). -/
def flushSets (k : SlotId) (s : State) : State := modifySets (fun r => r.slot == k) SetRecord.flush s

/-- How many sets of the ring belong to a slot (R173). -/
def setsOf (k : SlotId) (s : State) : Nat := (s.st.ring.filter fun r => r.slot == k).length

end Sys2Proof.Machine
end

