-- ==== Sys2Proof/Machine/JobCmds.lean ====
section
/-! DEFINITION. The requests on job contexts: OPEN_CONTEXT, DISCARD, CLOSE_BUILD, REOPEN, ACTIVATE, CANCEL_ACTIVATION,
SUSPEND, FLUSH, END_JOB (R160 to R174). -/

namespace Sys2Proof.Machine

/-- A slot takes a context, or becomes EMPTY. -/
def setSlot (k : SlotId) (c : Option Context) (s : State) : State := { s with slots := s.slots.set k c }

/-! ## OPEN_CONTEXT (R161) -/

/-- The spoil policy of a code (R126, R197). -/
def SpoilPolicy.ofCode (n : Nat) : Option SpoilPolicy :=
  match n with
  | 0 => some .reprint
  | 1 => some .void
  | _ => none

/-- The contents of a freshly opened context (R161). -/
def openedContext (job lanes : Nat) (policy : SpoilPolicy) (limit : Nat) : Context :=
  { state := .building, job := job, lanes := lanes, policy := policy, limit := limit, suspend := false, inFlight := 0,
    sequences := tabulate fun _ => none, exclusions := [], list := [], assignments := tabulate fun _ => none,
    formats := tabulate fun _ => none,
    marks := { channels := tabulate fun _ => none, maskEnd := 0, closeAt := 65535 },
    inspection := tabulate fun _ => none }

/-- Another slot that is not EMPTY holds the job id (R161). -/
def jobElsewhere (s : State) (k : SlotId) (job : Nat) : Bool :=
  (List.finRange 4).any fun i => i != k && s.slots[i].any fun c => c.job == job

/-- The checks and the effect of OPEN_CONTEXT (R161). -/
def replyOpenContext (slot job lanes policy limit : Nat) (s : State) : Reply :=
  named 4 slot fun k =>
  require (job ≤ 99999 && 1 ≤ lanes && lanes ≤ 4 && 1 ≤ limit && limit ≤ 7) .badValue <|
  coded (SpoilPolicy.ofCode policy) fun p =>
  require (!jobElsewhere s k job) .badValue <|
  require (s.slots[k].isNone) .wrongState <|
  .accept (notifyJob k (some job) none (some .building) (setSlot k (some (openedContext job lanes p limit)) s)) []

/-- OPEN_CONTEXT (R161). -/
def execOpenContext (port : PortId) (slot job lanes policy limit : Nat) (s : State) :
    Host.Outcome State Fault Refusal :=
  request port (.openContext port slot job lanes policy limit) (replyOpenContext slot job lanes policy limit) s

/-! ## DISCARD and REOPEN (R162, R165) -/

/-- The checks and the effect of DISCARD (R162). -/
def replyDiscard (slot : Nat) (s : State) : Reply :=
  named 4 slot fun k => inState s k (· == .building) fun _ => notBusy s k <|
  .accept (notifyJob k none (some .building) none (setSlot k none s)) []

/-- DISCARD (R162). -/
def execDiscard (port : PortId) (slot : Nat) (s : State) : Host.Outcome State Fault Refusal :=
  request port (.discard port slot) (replyDiscard slot) s

/-- The checks and the effect of REOPEN (R165, R167). -/
def replyReopen (slot : Nat) (s : State) : Reply :=
  named 4 slot fun k => inState s k (· == .ready) fun c =>
  require (!isPendingSlot s k) .wrongState <| notBusy s k <|
  .accept (notifyJob k (some c.job) (some .ready) (some .building) (modifyContext k (Context.enter .building) s)) []

/-- REOPEN (R165). -/
def execReopen (port : PortId) (slot : Nat) (s : State) : Host.Outcome State Fault Refusal :=
  request port (.reopen port slot) (replyReopen slot) s

/-! ## CLOSE_BUILD (R163, R164) -/

/-- The first index below `n` at which a condition fails. -/
def firstFailing (n : Nat) (ok : Nat → Bool) : Option Nat := (List.range n).find? fun i => !ok i

/-- The entry of the list at an index lies in a lane and is not BLANK. -/
def Context.printsIn (c : Context) (i : Nat) (l : LaneId) : Bool :=
  c.list[i]?.any fun e => e.lane == l && e.mode != .blank

/-- Check 2: a REPEAT's base has a lower index, lies in the same lane and is not BLANK (R164). -/
def Context.repeatSound (c : Context) (i : Nat) : Bool :=
  c.list[i]?.all fun e => match e.mode with
    | .repeated b => decide ((b : Nat) < i) && c.printsIn b e.lane
    | .fresh _ _ | .blank => true

/-- Check 3: a FRESH entry names a defined sequence (R164). -/
def Context.freshSound (c : Context) (i : Nat) : Bool :=
  c.list[i]?.all fun e => match e.mode with
    | .fresh q _ => (c.sequences[q]).isSome
    | .repeated _ | .blank => true

/-- Check 4: bounds within D digits, the step's sign with the direction, V within the bounds (R164). -/
def Sequence.sound (x : Sequence) : Bool :=
  decide (x.first < 10 ^ x.digits) && decide (x.last < 10 ^ x.digits) &&
    (if 0 < x.step then decide (x.first ≤ x.last) else decide (x.last ≤ x.first)) &&
    decide ((x.lo : Int) ≤ x.value ∧ x.value ≤ x.hi)

/-- A condition on a head's assignment, which an unassigned head meets. -/
def Context.headMeets (c : Context) (h : HeadId) (p : Assignment → Bool) : Bool := c.assignments[h].all p

/-- The items of an assigned head's format. -/
def Context.itemsFor (c : Context) (a : Assignment) : List FormatItem := (c.formats[a.format]).getD []

/-- Check 7: every NUMBER and CHECK reference names an entry in the head's lane that is not BLANK (R79, R164). -/
def Context.referencesSound (c : Context) (a : Assignment) : Bool :=
  (c.itemsFor a).all fun i => (i.reference a.entry).all fun e =>
    (c.list[(a.entry : Nat)]?).any fun own => c.printsIn e own.lane

/-- The length of an item's contribution (R79 check 4). -/
def Context.itemLength (c : Context) (own : EntryId) : FormatItem → Nat
  | .literal t => t.length
  | .number ref _ => ((c.rootOf (ref.resolve own)).map Sequence.digits).getD 0
  | .check ref => if (c.rootOf (ref.resolve own)).any fun x => x.scheme != .none then 1 else 0
  | .lane | .ply => 1
  | .job => 5

/-- Check 8: the imprint string is at most 20 characters (R79, R164). -/
def Context.stringFits (c : Context) (a : Assignment) : Bool :=
  ((c.itemsFor a).map (c.itemLength a.entry)).sum ≤ 20

/-- Check 9: the lane's inspection map item names nothing, or an entry of the lane that is not BLANK (R111, R164). -/
def Context.inspectionSound (c : Context) (l : LaneId) : Bool := c.inspection[l].all fun e => c.printsIn e l

/-- Check 10: the positions strictly ascend (R93, R164). -/
def ascending : List Nat → Bool
  | [] | [_] => true
  | a :: b :: rest => a < b && ascending (b :: rest)

/-- A test of head h by number. -/
def headTest (p : HeadId → Bool) (i : Nat) : Bool := if h : i < 24 then p ⟨i, h⟩ else true

/-- The consistency checks of CLOSE_BUILD in order, each with its number and the first item that fails it (R164). -/
def Context.buildFailure (c : Context) : Option (Nat × Nat) :=
  ((firstFailing c.list.length fun i => c.list[i]?.all fun e => decide ((e.lane : Nat) < c.lanes)).map (1, ·)).or <|
  ((firstFailing c.list.length c.repeatSound).map (2, ·)).or <|
  ((firstFailing c.list.length c.freshSound).map (3, ·)).or <|
  ((firstFailing 8 fun i => if h : i < 8 then c.sequences[i].all Sequence.sound else true).map (4, ·)).or <|
  ((firstFailing 24 (headTest fun h => c.headMeets h fun a => decide ((a.entry : Nat) < c.list.length))).map (5, ·)).or <|
  ((firstFailing 24 (headTest fun h => c.headMeets h fun a => (c.formats[a.format]).isSome)).map (6, ·)).or <|
  ((firstFailing 24 (headTest fun h => c.headMeets h c.referencesSound)).map (7, ·)).or <|
  ((firstFailing 24 (headTest fun h => c.headMeets h c.stringFits)).map (8, ·)).or <|
  ((firstFailing 4 fun i =>
      if h : i < 4 then decide (c.lanes ≤ i) || c.inspectionSound ⟨i, h⟩ else true).map fun i => (9, i + 1)).or <|
  ((firstFailing 6 fun i =>
      if h : i < 6 then c.marks.channels[i].all fun m => ascending m.positions else true).map fun i => (10, i + 1)).or <|
  if c.marks.maskEnd < c.marks.closeAt then none else some (11, 255)

/-- A consistency check that fails, with its number and item, or the rest (R160). -/
def consistent (failure : Option (Nat × Nat)) (r : Reply) : Reply :=
  match failure with
  | some (number, item) => .refuse .badValue [byte number, byte item]
  | none => r

/-- The checks and the effect of CLOSE_BUILD (R163). -/
def replyCloseBuild (slot : Nat) (s : State) : Reply :=
  named 4 slot fun k => inState s k (· == .building) fun c =>
  consistent c.buildFailure <|
  .accept (notifyJob k (some c.job) (some .building) (some .ready) (modifyContext k (Context.enter .ready) s)) []

/-- CLOSE_BUILD (R163). -/
def execCloseBuild (port : PortId) (slot : Nat) (s : State) : Host.Outcome State Fault Refusal :=
  request port (.closeBuild port slot) (replyCloseBuild slot) s

/-! ## ACTIVATE and CANCEL_ACTIVATION (R166 to R168) -/

/-- The effective cycle of a when: the counter plus 1 for NEXT, or a cycle that has not passed (R166). -/
def effectiveCycle (now : Cycle) (when_ : Option Nat) (k : Cycle → Reply) : Reply :=
  match when_ with
  | none => k (now + 1)
  | some x =>
    let d := (BitVec.ofNat 32 x - now).toNat
    require (x < 2 ^ 32 && d != 0 && d < 2 ^ 31) .badValue (k (BitVec.ofNat 32 x))

/-- A condition on the placement of an assigned head. -/
def placementMeets (s : State) (c : Context) (h : HeadId) (p : Placement → Bool) : Bool :=
  c.headMeets h fun _ => s.hou.heads[h].placement.any p

/-- The checks of ACTIVATE against the press, in order, each with its number and first failing item (R166). -/
def pressFailure (s : State) (c : Context) : Option (Nat × Nat) :=
  (if 0 < s.st.merge ∧ 0 < s.st.inspect ∧ 0 < s.st.gateLag then none else some (1, 255)).or <|
  ((firstFailing 24 (headTest fun h => placementMeets s c h fun _ => true)).map (2, ·)).or <|
  ((firstFailing 24 (headTest fun h => placementMeets s c h fun p => c.headLane h == some p.lane)).map (3, ·)).or <|
  ((firstFailing 24 (headTest fun h => placementMeets s c h fun p => p.lag ≤ s.st.merge)).map (4, ·)).or <|
  ((firstFailing 24 (headTest fun h => placementMeets s c h fun p => p.lag + 2 ≤ s.st.gateLag)).map (5, ·)).or <|
  (if holdsFunction s .encA then if holdsFunction s .encB then none else some (6, 1) else some (6, 0)).or <|
  ((firstFailing 6 fun i =>
      if h : i < 6 then c.marks.channels[i].isNone || holdsFunction s (.mark ⟨i, h⟩) else true).map
        fun i => (7, i + 1)).or <|
  ((firstFailing 4 fun i =>
      if h : i < 4 then decide (c.lanes ≤ i) || holdsFunction s (.gate ⟨i, h⟩) else true).map fun i => (8, i + 1))

/-- The state of a slot as the origin of its activation (R158). -/
def JobState.origin : JobState → ActivationOrigin
  | .parked => .parked
  | .ready | .building | .active | .draining => .ready

/-- One record becomes a slot's context reservation (R146, R166). -/
def reserveContext (k : SlotId) (s : State) : State :=
  reserveRecords 1 { s with ij := { s.ij with contextReserved := updateAt s.ij.contextReserved k (· + 1) } }

/-- The activation of a slot becomes pending, with its reservation, and JOB_STATE shows it (R159, R166). -/
def makePending (k : SlotId) (c : Context) (x : Cycle) (s : State) : State :=
  notifyJob k (some c.job) (some c.state) (some c.state)
    { reserveContext k s with activation := some { slot := k, effective := x, origin := c.state.origin } }

/-- The checks and the effect of ACTIVATE (R160, R166): the answer holds the effective cycle. -/
def replyActivate (slot : Nat) (effective : Option Nat) (s : State) : Reply :=
  named 4 slot fun k => effectiveCycle s.wpu.cycle effective fun x =>
  inState s k JobState.isIdle fun c => notBusy s k <|
  require ((slotIn s .draining).isNone && s.activation.isNone) .busy <|
  consistent (pressFailure s c) <|
  journalRoom s 1 <|
  .accept (makePending k c x s) (wordBytes x)

/-- ACTIVATE (R166). -/
def execActivate (port : PortId) (slot : Nat) (effective : Option Nat) (s : State) :
    Host.Outcome State Fault Refusal :=
  request port (.activate port slot effective) (replyActivate slot effective) s

/-- A slot's context reservation returns, and what the rise brings (R146, R149, R168). -/
def returnContext (k : SlotId) (s : State) : State :=
  returnReserved 1 { s with ij := { s.ij with contextReserved := updateAt s.ij.contextReserved k (· - 1) } }

/-- The pending activation is withdrawn and JOB_STATE shows it (R168). -/
def withdrawActivation (a : Activation) (s : State) : State :=
  let s1 := returnContext a.slot { s with activation := none }
  notifyJob a.slot (s1.slots[a.slot].map Context.job) (slotState s1 a.slot) (slotState s1 a.slot) s1

/-- The checks and the effect of CANCEL_ACTIVATION: the answer holds the slot and the effective cycle withdrawn (R168). -/
def replyCancelActivation (s : State) : Reply :=
  match s.activation with
  | none => .refuse .wrongState []
  | some a => .accept (withdrawActivation a s) (byte a.slot :: wordBytes a.effective)

/-- CANCEL_ACTIVATION (R168). -/
def execCancelActivation (port : PortId) (s : State) : Host.Outcome State Fault Refusal :=
  request port (.cancelActivation port) replyCancelActivation s

/-! ## SUSPEND and FLUSH (R170, R173) -/

/-- Another context is DRAINING (R170). -/
def otherDraining (s : State) (k : SlotId) : Bool :=
  (List.finRange 4).any fun i => i != k && slotState s i == some .draining

/-- What a taken SUSPEND does: parks an empty context, or sets the suspend flag (R170). -/
def suspendContext (k : SlotId) (c : Context) (s : State) : State :=
  if c.inFlight = 0 then notifyJob k (some c.job) (some .active) (some .parked) (parkContext k s)
  else modifyContext k (fun c => { c with suspend := true }) s

/-- The checks and the effect of SUSPEND: the answer holds the slot's state after it (R170). -/
def replySuspend (slot : Nat) (s : State) : Reply :=
  named 4 slot fun k => inState s k (· == .active) fun c =>
  require (c.inFlight == 0 || !otherDraining s k) .busy <|
  .accept (suspendContext k c s) [jobStateCode (some (if c.inFlight = 0 then .parked else .active))]

/-- SUSPEND (R170). -/
def execSuspend (port : PortId) (slot : Nat) (s : State) : Host.Outcome State Fault Refusal :=
  request port (.suspend port slot) (replySuspend slot) s

/-- The checks and the effect of FLUSH: the answer holds the number of sets marked (R118, R173). -/
def replyFlush (slot : Nat) (s : State) : Reply :=
  named 4 slot fun k => inState s k (fun j => j == .active || j == .draining) fun c =>
  journalRoom s 1 <|
  .accept (journalUnreserved k c.job s.wpu.cycle (.flushed (setsOf k s)) (flushSets k s)) [byte (setsOf k s)]

/-- FLUSH (R173). -/
def execFlush (port : PortId) (slot : Nat) (s : State) : Host.Outcome State Fault Refusal :=
  request port (.flush port slot) (replyFlush slot) s

/-! ## END_JOB (R174) -/

/-- The oldest queued number is voided: from queued to voided (R138, R174). -/
def Sequence.voidOldest (x : Sequence) : Sequence :=
  { x with queued := x.queued - 1, voided := x.voided + 1, queue := x.queue.tail }

/-- One queued value of a sequence is voided and journaled with the cause ENDED (R174). -/
def endEntry (k : SlotId) (job : Nat) (q : SeqId) (s : State) (e : QueueEntry) : State :=
  journalUnreserved k job s.wpu.cycle (.voidedQueued q e.value .ended e.reason e.spoil)
    (modifySequence k q Sequence.voidOldest s)

/-- The queue of a sequence of a slot, oldest first. -/
def queueOf (s : State) (k : SlotId) (q : SeqId) : List QueueEntry := ((sequenceOf s k q).map Sequence.queue).getD []

/-- Every queued value of a slot is voided, sequence by sequence from S0, each queue oldest first (R174). -/
def endQueues (k : SlotId) (job : Nat) (s : State) : State :=
  (List.finRange 8).foldl (fun s q => (queueOf s k q).foldl (endEntry k job q) s) s

/-- The five counters of a sequence as JOB_ENDED carries them (R142). -/
def Sequence.final (x : Sequence) : FinalCounters :=
  { drawn := x.drawn, issued := x.issued, voided := x.voided, queued := x.queued, held := x.held }

/-- The final counters of each defined sequence of a slot (R142, R174). -/
def finalCounters (k : SlotId) (s : State) : Vector (Option FinalCounters) 8 :=
  tabulate fun q => (sequenceOf s k q).map Sequence.final

/-- The values queued in all the queues of a context (R174). -/
def Context.queuedCount (c : Context) : Nat :=
  (c.sequences.toList.map fun o => (o.map fun x => x.queue.length).getD 0).sum

/-- What a taken END_JOB does: the queued values voided, JOB_ENDED, and the slot EMPTY (R174). -/
def endJob (k : SlotId) (c : Context) (s : State) : State :=
  let s1 := endQueues k c.job s
  notifyJob k none (some c.state) none
    (setSlot k none (journalUnreserved k c.job s1.wpu.cycle (.jobEnded (finalCounters k s1)) s1))

/-- The checks and the effect of END_JOB (R167, R174). -/
def replyEndJob (slot : Nat) (s : State) : Reply :=
  named 4 slot fun k => inState s k JobState.isIdle fun c =>
  require (!isPendingSlot s k) .wrongState <| notBusy s k <|
  journalRoom s (c.queuedCount + 1) <|
  .accept (endJob k c s) []

/-- END_JOB (R174). -/
def execEndJob (port : PortId) (slot : Nat) (s : State) : Host.Outcome State Fault Refusal :=
  request port (.endJob port slot) (replyEndJob slot) s

end Sys2Proof.Machine
end

