-- ==== Sys2Proof/Machine/JournalCmds.lean ====
section
/-! DEFINITION. READ_JOURNAL and RELEASE_JOURNAL, with the journal record's layout (R151 to R154, R198). -/

namespace Sys2Proof.Machine

/-! ## The record layout (R198) -/

/-- The place of a record's kind in the table of R142. -/
def RecordBody.kind : RecordBody → Byte
  | .issuedRun .. => 0
  | .reissued .. => 1
  | .spoiled .. => 2
  | .voidRun .. => 3
  | .voidedQueued .. => 4
  | .valueLoaded .. => 5
  | .exclusionAdded .. => 6
  | .jobActivated .. => 7
  | .jobSuspended => 8
  | .jobEnded .. => 9
  | .flushed .. => 10

/-- Sequence in bits 0 to 2 and lanes in bits 4 to 7 (R198). -/
def placeByte (q : SeqId) (lanes : BitVec 4) : Byte := byte ((q : Nat) + 16 * lanes.toNat)

/-- One lane as a set of lanes. -/
def oneLane (l : LaneId) : BitVec 4 := (1 : BitVec 4) <<< (l : Nat)

/-- Byte 12 of a record (R198). -/
def RecordBody.place : RecordBody → Byte
  | .issuedRun q ls _ _ _ _ => placeByte q ls
  | .reissued q l _ _ => placeByte q (oneLane l)
  | .spoiled q l _ _ _ _ => placeByte q (oneLane l)
  | .voidRun q _ _ _ _ => placeByte q 0
  | .voidedQueued q _ _ _ _ => placeByte q 0
  | .valueLoaded q _ _ => placeByte q 0
  | .exclusionAdded q _ _ => placeByte q 0
  | .jobActivated .. | .jobSuspended | .jobEnded .. | .flushed .. => 0

/-- Bytes 13 to 17: the first value (R198), sent as 0 where the kind has none (log 15). -/
def RecordBody.firstBytes : RecordBody → List Byte
  | .issuedRun _ _ f _ _ _ => be 5 f
  | .reissued _ _ v _ => be 5 v
  | .spoiled _ _ v _ _ _ => be 5 v
  | .voidRun _ f _ _ _ => be 5 f
  | .voidedQueued _ v _ _ _ => be 5 v
  | .valueLoaded _ old _ => beSigned 5 old
  | .exclusionAdded _ a _ => be 5 a
  | .jobActivated .. | .jobSuspended | .jobEnded .. | .flushed .. => be 5 0

/-- Bytes 18 to 22: count, step and spoil count, or the last value, or the sets marked (R198). The absent step of REISSUED,
SPOILED and VOIDED_QUEUED and the absent spoil count of ISSUED_RUN and VOID_RUN are sent as 0 (log 15). -/
def RecordBody.middle : RecordBody → List Byte
  | .issuedRun _ _ _ _ n step => be 2 n ++ beSigned 2 step ++ [0]
  | .reissued _ _ _ k => be 2 1 ++ be 2 0 ++ [byte k]
  | .spoiled _ _ _ _ _ k => be 2 1 ++ be 2 0 ++ [byte k]
  | .voidRun _ _ _ n step => be 2 n ++ beSigned 2 step ++ [0]
  | .voidedQueued _ _ _ _ k => be 2 1 ++ be 2 0 ++ [byte k]
  | .valueLoaded _ _ new => beSigned 5 new
  | .exclusionAdded _ _ b => be 5 b
  | .flushed n => be 2 n ++ be 3 0
  | .jobActivated .. | .jobSuspended | .jobEnded .. => be 5 0

/-- Byte 23: origin, disposition or cause, FFh where absent (R198). -/
def RecordBody.originByte : RecordBody → Byte
  | .issuedRun .. => 0
  | .reissued .. => 1
  | .spoiled _ _ _ d _ _ => d.code
  | .voidedQueued _ _ c _ _ => c.code
  | .jobActivated resumed => if resumed then 8 else 9
  | .voidRun .. | .valueLoaded .. | .exclusionAdded .. | .jobSuspended | .jobEnded .. | .flushed .. => 0xFF

/-- Byte 24: the reason, FFh where absent (R198). -/
def RecordBody.reasonByte : RecordBody → Byte
  | .spoiled _ _ _ _ r _ => r.code
  | .voidedQueued _ _ _ r _ => r.code
  | .issuedRun .. | .reissued .. | .voidRun .. | .valueLoaded .. | .exclusionAdded .. | .jobActivated ..
  | .jobSuspended | .jobEnded .. | .flushed .. => 0xFF

/-- One bit for each defined sequence, S0 in bit 0 (R198). -/
def definedMask (cs : Vector (Option FinalCounters) 8) : Nat :=
  ((List.finRange 8).map fun q => if cs[q].isSome then 2 ^ (q : Nat) else 0).sum

/-- The issued and voided counters of one sequence, each as its low 40 bits (R198). -/
def finalBytes (f : FinalCounters) : List Byte := be 5 f.issued.toNat ++ be 5 f.voided.toNat

/-- Bytes 25 onward of a JOB_ENDED record (R198). -/
def RecordBody.tailBytes : RecordBody → List Byte
  | .jobEnded cs =>
    byte (definedMask cs) :: cs.toList.flatMap fun o => match o with
      | some f => finalBytes f
      | none => []
  | .issuedRun .. | .reissued .. | .spoiled .. | .voidRun .. | .voidedQueued .. | .valueLoaded ..
  | .exclusionAdded .. | .jobActivated .. | .jobSuspended | .flushed .. => []

/-- A record as READ_JOURNAL delivers it (R198). -/
def recordBytes (r : Record) : List Byte :=
  wordBytes r.index ++ r.body.kind :: be 3 r.job ++ wordBytes r.stamp ++ r.body.place :: r.body.firstBytes ++
    r.body.middle ++ r.body.originByte :: r.body.reasonByte :: r.body.tailBytes

/-! ## READ_JOURNAL (R151, R152, R198) -/

/-- The oldest index, absent when the journal is empty (R140). -/
def Journal.oldest (j : Journal) : Option Cycle := j.records.head?.map Record.index

/-- Where a from index starts: at a held record, at the next index, or nowhere (R151). -/
def Journal.startAt (j : Journal) (i : Cycle) : Option Nat :=
  match j.oldest with
  | some o =>
    if (i - o).toNat < j.records.length then some (i - o).toNat
    else if i = j.next then some j.records.length else none
  | none => if i = j.next then some 0 else none

/-- The records that fit in the room left in a body, in order; it stops before the first that does not (R198). -/
def fitting : Nat → List Record → List Record
  | _, [] => []
  | room, r :: rs =>
    if (recordBytes r).length ≤ room then r :: fitting (room - (recordBytes r).length) rs else []

/-- The records a READ_JOURNAL delivers from a place: up to the count, at most 4, within a body of 128 bytes (R151,
R198). -/
def Journal.delivered (j : Journal) (start count : Nat) : List Record :=
  fitting (128 - 20) ((j.records.drop start).take (min count 4))

/-- The records in a range become READ, and the tail closes when it is among them (R151, R152). -/
def Journal.markRead (start count : Nat) (j : Journal) : Journal :=
  { j with
    records := j.records.mapIdx fun i r => if start ≤ i ∧ i < start + count then { r with read := true } else r,
    tail := if 0 < count ∧ j.records.length ≤ start + count then j.tail.map fun t => { t with isOpen := false } else j.tail }

/-- The fields of READ_JOURNAL before its records: held count, oldest index (0 when empty), next index, unreserved free
count, records delivered (R198). -/
def journalFields (j : Journal) (delivered : Nat) : List Byte :=
  be 2 j.records.length ++ wordBytes (j.oldest.getD 0) ++ wordBytes j.next ++ be 2 j.unreserved ++ [byte delivered]

/-- The answer of READ_JOURNAL (R151, R152, R198). -/
def replyReadJournal (fromIndex count : Nat) (s : State) : Reply :=
  require (count != 0) .badValue <|
  match s.ij.startAt (BitVec.ofNat 32 fromIndex) with
  | none => .refuse .notFound (journalFields s.ij 0)
  | some start =>
    let rs := s.ij.delivered start count
    .accept { s with ij := s.ij.markRead start rs.length } (journalFields s.ij rs.length ++ rs.flatMap recordBytes)

/-- READ_JOURNAL (R151). -/
def execReadJournal (port : PortId) (fromIndex count : Nat) (s : State) : Host.Outcome State Fault Refusal :=
  request port (.readJournal port fromIndex count) (replyReadJournal fromIndex count) s

/-! ## RELEASE_JOURNAL (R153, R154) -/

/-- How many records from the oldest lie within the limit that a through index sets (R153). -/
def Journal.withinLimit (j : Journal) (through : Cycle) : Nat :=
  match j.oldest with
  | none => 0
  | some o =>
    let d := (through - o).toNat
    if d < j.records.length then d + 1 else if d < 2 ^ 31 then j.records.length else 0

/-- How many records a release frees: the READ ones at the front of those within the limit (R153). -/
def Journal.freed (j : Journal) (through : Cycle) : Nat :=
  ((j.records.take (j.withinLimit through)).takeWhile Record.read).length

/-- The journal with its oldest records gone; with none left there is no tail (R153). -/
def Journal.dropOldest (n : Nat) (j : Journal) : Journal :=
  { j with records := j.records.drop n, tail := if j.records.length ≤ n then none else j.tail }

/-- The release: what it frees may take the deferred list and let a HELD skip-ahead resume (R153, R154). -/
def releaseRecords (n : Nat) (s : State) : State :=
  if n = 0 then s else afterRaise { s with ij := s.ij.dropOldest n }

/-- The answer of RELEASE_JOURNAL: the number freed, then the oldest index, next index and unreserved free count after the
release (R153). -/
def replyReleaseJournal (through : Nat) (s : State) : Reply :=
  let n := s.ij.freed (BitVec.ofNat 32 through)
  let s1 := releaseRecords n s
  .accept s1 (be 2 n ++ optBytes wordBytes s1.ij.oldest ++ wordBytes s1.ij.next ++ be 2 s1.ij.unreserved)

/-- RELEASE_JOURNAL (R153). -/
def execReleaseJournal (port : PortId) (through : Nat) (s : State) : Host.Outcome State Fault Refusal :=
  request port (.releaseJournal port through) (replyReleaseJournal through) s

end Sys2Proof.Machine
end

