-- ==== Sys2Proof/Machine/LineCmds.lean ====
section
/-! DEFINITION. The requests of the Line Matrix: ASSIGN_LINE, WRITE_LINES, SET_STOP, CLEAR_STOP, READ_LINES (R48, R177 to
R185). -/

namespace Sys2Proof.Machine

/-! ## ASSIGN_LINE (R48, R177, R179) -/

/-- The functions that are frozen while a job runs (R179 check 2). -/
def LineFunction.isFrozen : LineFunction → Bool
  | .encA | .encB | .index | .mark _ | .gate _ => true
  | .genIn | .genOut | .stopReq => false

/-- The functions that several lines may hold (R179 check 3). -/
def LineFunction.isGeneral : LineFunction → Bool
  | .genIn | .genOut => true
  | .encA | .encB | .index | .mark _ | .gate _ | .stopReq => false

/-- The functions that the part drives (R176). -/
def LineFunction.isOutput : LineFunction → Bool
  | .genOut | .gate _ | .stopReq => true
  | .genIn | .encA | .encB | .index | .mark _ => false

/-- Another line holds the function. -/
def heldElsewhere (s : State) (i : LineId) (f : LineFunction) : Bool :=
  (List.finRange 24).any fun j => j != i && s.lm.lines[j].function == f

/-- The level of a line that the part does not drive, after ASSIGN_LINE: a pin with nothing outside reads 1 with its
pull-up on and an undefined level with it off; a pin held from outside keeps its level, and one just released takes a
level that is free here (R177; log 10). -/
def undrivenLevel (choice : Nat) (i : LineId) (wasOutput pullUp : Bool) (level : Bool) : Bool :=
  if Config.lineConnected i then (if wasOutput then Config.releasedLevel choice i else level)
  else if pullUp then true else Config.releasedLevel choice i

/-- The level on a line's pin after ASSIGN_LINE: an output whose drive is as it was keeps the level it shows, held
from outside or not, and a new drive shows (R176, R177; log 10). -/
def assignedLevel (s : State) (i : LineId) (old new : Line) : Bool :=
  match driveOf s new with
  | some v => if driveOf s old = some v then old.level else v
  | none => undrivenLevel s.choices i old.function.isOutput new.pullUp old.level

/-- The line record after ASSIGN_LINE: function, pull-up and the level that follows; the latch is kept (R177, R179). -/
def assignRecord (s : State) (i : LineId) (f : LineFunction) (pullUp : Bool) : Line :=
  let l := s.lm.lines[i]
  let new := { l with function := f, pullUp := pullUp }
  { new with level := assignedLevel s i l new }

/-- What the WPU makes of an assignment: its reference becomes the present levels of ENC_A and ENC_B, or none, and the
index pending flag becomes NONE when INDEX becomes held or ceases to be (R48). -/
def followAssignment (indexBefore : Bool) (s : State) : State :=
  modifyWpu (fun w =>
    { w with
      reference := encoderLevels s,
      indexPending := if holdsFunction s .index = indexBefore then w.indexPending else .none }) s

/-- A line takes a function and a pull-up (R48, R177, R179). -/
def assignLine (i : LineId) (f : LineFunction) (pullUp : Bool) (s : State) : State :=
  followAssignment (holdsFunction s .index)
    { s with lm := { s.lm with lines := s.lm.lines.set i (assignRecord s i f pullUp) }, choices := s.choices + 1 }

/-- A line record on the wire: function, pull-up, output latch, input level (R176, R181). -/
def lineBytes (l : Line) : List Byte := [byte l.function.place, flagByte l.pullUp, flagByte l.latch, flagByte l.level]

/-- The checks and the effect of ASSIGN_LINE (R179). -/
def replyAssignLine (line function pullUp : Nat) (s : State) : Reply :=
  named 24 line fun i => coded (LineFunction.ofIndex function) fun f => flag pullUp fun u =>
  let old := s.lm.lines[i].function
  require (old == f || !(old.isFrozen || f.isFrozen) || !running s) .wrongState <|
  require (f.isGeneral || !heldElsewhere s i f) .lineTaken <|
  .accept (assignLine i f u s) (lineBytes (assignRecord s i f u))

/-- ASSIGN_LINE (R179). -/
def execAssignLine (port : PortId) (line function pullUp : Nat) (s : State) : Host.Outcome State Fault Refusal :=
  request port (.assignLine port line function pullUp) (replyAssignLine line function pullUp) s

/-! ## WRITE_LINES and READ_LINES (R180, R181) -/

/-- WRITE_LINES writes this line: it is named and holds GEN_OUT (R180). -/
def isWritten (s : State) (mask : Nat) (i : LineId) : Bool := mask.testBit i && s.lm.lines[i].function == .genOut

/-- A GEN_OUT line after its latch is written: a new level shows, and the same one leaves the pin as it is (R176, R180;
log 10). -/
def Line.write (bit : Bool) (l : Line) : Line :=
  { l with latch := bit, level := if l.latch = bit then l.level else bit }

/-- The latches of the named GEN_OUT lines take their bits, and the lines drive them (R180). -/
def writeLatches (mask levels : Nat) (s : State) : State :=
  { s with lm := { s.lm with
      lines := tabulate fun i =>
        if isWritten s mask i then s.lm.lines[i].write (levels.testBit i) else s.lm.lines[i] } }

/-- The mask of the lines written (R180). -/
def writtenMask (s : State) (mask : Nat) : Nat :=
  ((List.finRange 24).map fun i => if isWritten s mask i then 2 ^ (i : Nat) else 0).sum

/-- WRITE_LINES (R180). -/
def execWriteLines (port : PortId) (mask levels : Nat) (s : State) : Host.Outcome State Fault Refusal :=
  request port (.writeLines port mask levels)
    (fun s => .accept (writeLatches mask levels s) (be 3 (writtenMask s mask))) s

/-- The answer of READ_LINES: the 24 records, F0 first, with no count byte (R181; log 15). -/
def replyReadLines (s : State) : Reply := .accept s (s.lm.lines.toList.flatMap lineBytes)

/-- READ_LINES (R181). -/
def execReadLines (port : PortId) (s : State) : Host.Outcome State Fault Refusal :=
  request port (.readLines port) replyReadLines s

/-! ## SET_STOP and CLEAR_STOP (R183, R184) -/

/-- SET_STOP latches OPERATOR_STOP (R183). -/
def execSetStop (port : PortId) (s : State) : Host.Outcome State Fault Refusal :=
  request port (.setStop port) (fun s => .accept (latchStop .operatorStop s) []) s

/-- A head assigned in the ACTIVE context is FAULTED (R184). -/
def activeHeadFaulted (s : State) : Bool :=
  (List.finRange 24).any fun h => assignedInActive s h && s.hou.heads[h].device == .faulted

/-- A sequence of the ACTIVE context is EXHAUSTED (R184). -/
def activeExhausted (s : State) : Bool :=
  (activeSlot s).any fun k => s.slots[k].any fun c =>
    c.sequences.toList.any fun o => o.any fun x => x.state == .exhausted

/-- The condition for clearing a cause (R184). -/
def mayClear (c : StopCause) (s : State) : Bool :=
  match c with
  | .journalHigh => 128 ≤ s.ij.unreserved
  | .headFault => !activeHeadFaulted s
  | .seqExhausted => !activeExhausted s
  | .regRun | .operatorStop => true

/-- A cause becomes CLEAR; the clearing of REG_RUN sets the consecutive-fault counter to 0 (R109, R184). -/
def clearStop (c : StopCause) (s : State) : State :=
  match c with
  | .regRun => clearCause c { s with mtu := { s.mtu with faults := 0 } }
  | .seqExhausted | .journalHigh | .headFault | .operatorStop => clearCause c s

/-- The checks and the effect of CLEAR_STOP (R184). -/
def replyClearStop (cause : Nat) (s : State) : Reply :=
  coded (StopCause.ofCode cause) fun c =>
  if latched s c then require (mayClear c s) .wrongState (.accept (clearStop c s) [])
  else .accept s []

/-- CLEAR_STOP (R184). -/
def execClearStop (port : PortId) (cause : Nat) (s : State) : Host.Outcome State Fault Refusal :=
  request port (.clearStop port cause) (replyClearStop cause) s

end Sys2Proof.Machine
end

