-- ==== Sys2Proof/Machine/PortCmds.lean ====
section
/-! DEFINITION. The events of the ports and the requests of the Port Interface: receiving, sending, port reset, GARBLED,
unknown codes, SET_ROLE, SET_NOTICES (R186 to R196). -/

namespace Sys2Proof.Machine

/-! ## Receiving (R188, R189) -/

/-- PORT_FRAME_RECEIVED: a frame ends on a port and joins its buffer, or is discarded (R188, R189). -/
def execPortFrameReceived (port : PortId) (frame : RxFrame) (s : State) : Host.Outcome State Fault Refusal :=
  .next (endFrame port (RxFrame.checked frame) s)

/-- PORT_BYTE_RECEIVED: the receiver takes a byte (R188). -/
def execPortByteReceived (port : PortId) (b : Byte) (s : State) : Host.Outcome State Fault Refusal :=
  .next (
    match s.ports[port].receiver.step b with
    | .within r => modifyPort port (fun q => { q with receiver := r }) s
    | .ended f => endFrame port f s)

/-- A frame in progress ends garbled; in HUNTING nothing ends (R188). -/
def endGarbled (p : PortId) (s : State) : State :=
  if s.ports[p].receiver.inFrame then endFrame p .garbled s else s

/-- FRAME_GAP_TIMEOUT: a gap of 2 ms within a frame ends it garbled (R188). -/
def execFrameGapTimeout (port : PortId) (s : State) : Host.Outcome State Fault Refusal := .next (endGarbled port s)

/-- BAD_STOP_BIT: within a frame it ends the frame garbled; in HUNTING the character is discarded (R188). -/
def execBadStopBit (port : PortId) (s : State) : Host.Outcome State Fault Refusal := .next (endGarbled port s)

/-- The port record after a port reset (R186, R192). The frame on the transmit line is sent to its end, and its place in
the buffer is gone. -/
def Port.broken (q : Port) : Port :=
  { q with
    receiver := .hunting, buffer := [], subscription := 0, out := [], overrun := false, dropped := false,
    sending := q.sending.map fun f => { f with holdsPlace := false } }

/-- PORT_RESET: a break of 20 bit times resets the port (R192). -/
def execPortReset (port : PortId) (s : State) : Host.Outcome State Fault Refusal :=
  .next (modifyPort port Port.broken s)

/-! ## Frames that are no request (R190) -/

/-- GARBLED_FRAME: the port takes a garbled frame and answers GARBLED with code 80h (R190 check 1). -/
def execGarbledFrame (port : PortId) (s : State) : Host.Outcome State Fault Refusal :=
  .next (
    match takeFrame port .garbled s with
    | .waits s' => s'
    | .taken s' => answerAt port s'.ports[port].out.length 0 .garbled [] s')

/-- The status of a frame whose body is no request: an unknown code is BAD_VALUE, a known one outside the role is
ROLE_DENIED, and a body of the wrong length is BAD_VALUE (R190 checks 2 to 4; log 3). -/
def bodyStatus (role : Role) (code : Nat) : Status :=
  if isRequestCode code ∧ role.admits code = false then .roleDenied else .badValue

/-- UNKNOWN_REQUEST_CODE: the port takes a sound frame whose body is no request (R190; log 3). A body that does spell a
request is none of this event's. -/
def execUnknownRequestCode (port : PortId) (body : List Byte) (s : State) : Host.Outcome State Fault Refusal :=
  let code := (body.headD 0).toNat
  .next (
    if fitsFrame body && (parseRequest port body).isSome then s
    else
      onFrame port body (fun s' =>
        answerAt port s'.ports[port].out.length code (bodyStatus s'.ports[port].role code) [] s') s)

/-! ## Sending (R191) -/

/-- The flags byte of a frame whose sending starts: overrun in bit 0 of a response, dropped in bit 1 (R191, R197). -/
def Port.flags (response : Bool) (q : Port) : Byte :=
  (if response && q.overrun then 1 else 0) ||| (if q.dropped then 2 else 0)

/-- The place of the flags byte in a body: after code and status, or after code (R197). -/
def flagsPlace (response : Bool) : Nat := if response then 2 else 1

/-- The oldest waiting frame starts, its flags byte filled and the flags it carries cleared (R191). -/
def Port.startSending (q : Port) : Port :=
  match q.sending, q.out with
  | none, f :: rest =>
    { q with
      out := rest,
      sending := some
        { bytes := frameBytes (f.body.set (flagsPlace f.response) (q.flags f.response)), holdsPlace := f.response },
      overrun := if f.response then false else q.overrun,
      dropped := false }
  | _, _ => q

/-- FRAME_SEND_START: the transmit line is free and the oldest waiting frame starts (R191). -/
def execFrameSendStart (port : PortId) (s : State) : Host.Outcome State Fault Refusal :=
  .next (modifyPort port Port.startSending s)

/-- The frame on the line ends; a response frees its place in the receive buffer (R189, R191). -/
def Port.endSending (q : Port) : Port :=
  match q.sending with
  | none => q
  | some f =>
    { q with
      sending := none,
      buffer := if f.holdsPlace then q.buffer.eraseP BufferedFrame.taken else q.buffer }

/-- FRAME_SEND_END: the last byte of a frame has been sent (R189, R191). -/
def execFrameSendEnd (port : PortId) (s : State) : Host.Outcome State Fault Refusal :=
  .next (modifyPort port Port.endSending s)

/-! ## SET_ROLE and SET_NOTICES (R194, R196) -/

/-- The four roles as held. -/
def rolesBytes (s : State) : List Byte := s.ports.toList.map fun q => q.role.code

/-- A role that SET_ROLE may give, or BAD_VALUE (R194). -/
def grantable (n : Nat) (k : Role → Reply) : Reply :=
  match Role.ofCode n with
  | none => .refuse .badValue []
  | some r => if r = .supervisor then .refuse .badValue [] else k r

/-- The checks and the effect of SET_ROLE (R194). -/
def replySetRole (port : PortId) (named_ role : Nat) (s : State) : Reply :=
  named 4 named_ fun n => grantable role fun r =>
  require (n != port) .badValue <|
  require ((slotIn s .active).isNone && (slotIn s .draining).isNone) .wrongState <|
  let s1 := modifyPort n (fun q => { q with role := r }) s
  .accept s1 (rolesBytes s1)

/-- SET_ROLE (R194). -/
def execSetRole (port : PortId) (named_ role : Nat) (s : State) : Host.Outcome State Fault Refusal :=
  request port (.setRole port named_ role) (replySetRole port named_ role) s

/-- The checks and the effect of SET_NOTICES (R196). -/
def replySetNotices (port : PortId) (categories : Nat) (s : State) : Reply :=
  require (categories < 64) .badValue <|
  .accept (modifyPort port (fun q => { q with subscription := BitVec.ofNat 6 categories }) s) [byte categories]

/-- SET_NOTICES (R196). -/
def execSetNotices (port : PortId) (categories : Nat) (s : State) : Host.Outcome State Fault Refusal :=
  request port (.setNotices port categories) (replySetNotices port categories) s

end Sys2Proof.Machine
end

