-- ==== Sys2Proof/Machine/ReadCmds.lean ====
section
/-! DEFINITION. The reads of the status, a set, a context, a head and the registration record (R47, R72, R91, R106, R155,
R175, R197, R199). -/

namespace Sys2Proof.Machine

/-! ## READ_STATUS (R197) -/

/-- The mode: COUNTING_OFF 0, INDEXED 1, INDEXLESS 2 (R47). -/
def modeCode (s : State) : Byte :=
  if (encoderLevels s).isNone then 0 else if holdsFunction s .index then 1 else 2

/-- Group 1: the WPU fields of R47. -/
def wpuBytes (s : State) : List Byte :=
  let w := s.wpu
  be 2 w.repeatLength ++ be 2 w.tolerance ++ be 3 w.position ++ wordBytes w.cycle ++
    [w.direction.code, flagByte w.backed] ++ be 2 w.deficit ++ flagByte w.far :: be 2 w.interval ++
    w.indexPending.code :: optBytes (fun o => [Opening.code o]) w.opening ++ [modeCode s]

/-- The tags of the oldest and the newest set of the ring, absent when it is empty (R49). -/
def ringTags (ring : List SetRecord) : Option (Cycle × Cycle) :=
  match ring.head?, ring.getLast? with
  | some a, some b => some (a.tag, b.tag)
  | _, _ => none

/-- Group 2: the ST fields of R49; OPEN 0, CLOSED 1. -/
def trackerBytes (t : Tracker) : List Byte :=
  [byte t.merge, byte t.inspect, byte t.gateLag, flagByte (!t.runOpen), byte t.ring.length] ++
    optBytes (fun p => wordBytes p.1 ++ wordBytes p.2) (ringTags t.ring)

/-- A gate record: ASSERTED 0 with its tag and release point, BOUNDARY as 0, or RELEASED 1 (R119, R197). -/
def gateBytes : Gate → List Byte
  | .asserted tag release => [0, 1] ++ wordBytes tag ++ be 2 (release.getD 0)
  | .released => [1, 0]

/-- Group 3: the gate close position and the four gate records (R119). -/
def gatesBytes (t : Tracker) : List Byte := be 2 t.gateClose ++ t.gates.toList.flatMap gateBytes

/-- The tail's index and state, OPEN 0 and CLOSED 1 (R155). -/
def tailBytes (j : Journal) : Option (Cycle × Bool) :=
  match j.tail, j.records.getLast? with
  | some t, some r => some (r.index, t.isOpen)
  | _, _ => none

/-- Group 4: the IJ fields of R155. -/
def journalBytes (j : Journal) : List Byte :=
  be 2 j.records.length ++ be 2 (j.records.filter fun r => !r.read).length ++ be 2 j.reserved ++
    j.contextReserved.toList.map byte ++ be 2 j.unreserved ++ optBytes wordBytes j.oldest ++ wordBytes j.next ++
    optBytes (fun p => wordBytes p.1 ++ [flagByte (!p.2)]) (tailBytes j) ++ [byte j.deferred.length]

/-- Group 6: the state of each slot, and the pending activation (R158, R197). -/
def slotsBytes (s : State) : List Byte :=
  (s.slots.toList.map fun o => jobStateCode (o.map Context.state)) ++
    optBytes (fun a => byte a.slot :: wordBytes a.effective ++ [a.origin.code]) s.activation

/-- Group 7: the requesting port, the four roles, the four subscriptions (R197). -/
def portsBytes (p : PortId) (s : State) : List Byte :=
  byte p :: rolesBytes s ++ s.ports.toList.map fun q => byte q.subscription.toNat

/-- The result of READ_STATUS (R197). -/
def statusBytes (p : PortId) (s : State) : List Byte :=
  wpuBytes s ++ trackerBytes s.st ++ gatesBytes s.st ++ journalBytes s.ij ++ byte s.lm.stops.toNat :: slotsBytes s ++
    portsBytes p s

/-- The answer of READ_STATUS (R197). -/
def replyReadStatus (port : PortId) (s : State) : Reply := .accept s (statusBytes port s)

/-- READ_STATUS (R197). -/
def execReadStatus (port : PortId) (s : State) : Host.Outcome State Fault Refusal :=
  request port (.readStatus port) (replyReadStatus port) s

/-! ## READ_SET (R72, R199) -/

/-- The age of a set at the present cycle (R51). -/
def ageOf (s : State) (r : SetRecord) : Nat := (s.wpu.cycle - r.tag).toNat

/-- A lane part: inspection state, reason set, primary reason, FFh when absent (R199). -/
def lanePartBytes (p : LanePart) : List Byte :=
  p.inspection.code :: be 2 p.reasons.toNat ++ [(p.primary.map Reason.code).getD 0xFF]

/-- The head states, two to a byte, the even head in the low 4 bits (R199). -/
def headStateBytes (hs : Vector HeadOutcome 24) : List Byte :=
  (List.range 12).map fun i =>
    byte ((hs[2 * i]?.getD .unused).index + 16 * (hs[2 * i + 1]?.getD .unused).index)

/-- Page 0 of READ_SET (R199). -/
def setFixedBytes (s : State) (r : SetRecord) : List Byte :=
  wordBytes r.tag ++ byte r.slot :: be 3 ((s.slots[r.slot].map Context.job).getD 0) ++
    [byte (ageOf s r), byte r.reservation, r.registration.code, byte r.entries.length, byte r.lanes.length] ++
    r.lanes.flatMap lanePartBytes ++ headStateBytes r.heads

/-- The state, origin and base origin bits and the check flag of an entry part's byte 0 (R199). -/
def entryHead (p : EntryPart) : Nat :=
  (p.lane : Nat) +
    match p.state with
    | .blank => 4
    | .unnumbered => 8
    | .numbered n =>
      (match n.origin with
        | .fresh => 0
        | .reprint => 16
        | .repeated _ .fresh => 32
        | .repeated _ .reprint => 96) + (if n.check.isSome then 128 else 0)

/-- The sequence and the base of an entry part's byte 1 (R199). -/
def entryPlace (p : EntryPart) : Nat :=
  (match p.sequence with
    | some q => (q : Nat) + 8
    | none => 0) +
    match p.number with
    | some { origin := .repeated b _, .. } => 16 * (b : Nat)
    | _ => 0

/-- An entry part: 9 bytes, what is absent as 0 (R199). -/
def entryPartBytes (p : EntryPart) : List Byte :=
  match p.number with
  | some n => [byte (entryHead p), byte (entryPlace p)] ++ be 5 n.value ++ [checkByte n.check, byte n.spoil]
  | none => [byte (entryHead p), byte (entryPlace p)] ++ be 5 0 ++ [0, 0]

/-- Pages 1 and 2 of READ_SET: the tag, the age and eight entry parts; a page beyond them has an empty list (R199). -/
def setPageBytes (s : State) (r : SetRecord) (page : Nat) : List Byte :=
  wordBytes r.tag ++ byte (ageOf s r) :: listBytes entryPartBytes ((r.entries.drop (8 * (page - 1))).take 8)

/-- The answer of READ_SET (R72, R199). -/
def replyReadSet (tag page : Nat) (s : State) : Reply :=
  match setTagged s (BitVec.ofNat 32 tag) with
  | none => .refuse .notFound []
  | some r => .accept s (if page = 0 then setFixedBytes s r else setPageBytes s r page)

/-- READ_SET (R72, R199). -/
def execReadSet (port : PortId) (tag : Nat) (page : Option Nat) (s : State) : Host.Outcome State Fault Refusal :=
  request port (.readSet port tag page) (replyReadSet tag (page.getD 0)) s

/-! ## READ_CONTEXT (R175) -/

/-- The pending activation of a slot: effective cycle and origin (R175). -/
def pendingBytes (s : State) (k : SlotId) : List Byte :=
  optBytes (fun a => wordBytes a.effective ++ [ActivationOrigin.code a.origin]) (s.activation.filter fun a => a.slot == k)

/-- The SUMMARY of a slot that is not EMPTY; its eight sequence states have no count byte (R175; log 15). -/
def summaryBytes (s : State) (k : SlotId) (c : Context) : List Byte :=
  jobStateCode (some c.state) :: be 3 c.job ++
    [byte c.lanes, c.policy.code, byte c.limit, flagByte c.suspend, byte c.inFlight, byte s.ij.contextReserved[k]] ++
    pendingBytes s k ++ c.sequences.toList.map seqStateCode ++ [byte c.exclusions.length]

/-- An entry of the list: lane, mode, then sequence and reprint-first when FRESH, then base when REPEAT (R53, R197). -/
def allocEntryBytes (e : AllocEntry) : List Byte :=
  byte (e.lane + 1) ::
    match e.mode with
    | .fresh q r => [0, 1, byte q, flagByte r, 0]
    | .repeated b => [1, 0, 1, byte b]
    | .blank => [2, 0, 0]

/-- An assignment: own entry and format, or NONE (R77). -/
def assignmentBytes (a : Option Assignment) : List Byte := optBytes (fun a => [byte a.entry, byte a.format]) a

/-- A reference: an entry, or OWN as 10h (R197). -/
def EntryRef.code : EntryRef → Byte
  | .entry e => byte e
  | .own => 0x10

/-- A fill: ZERO 0, BLANK 1 (R78). -/
def Fill.code : Fill → Byte
  | .zero => 0
  | .blank => 1

/-- A format item: its kind by the table of R78 and its parameters (R197). -/
def formatItemBytes : FormatItem → List Byte
  | .literal t => 0 :: textBytes t
  | .number r f => [1, r.code, f.code]
  | .check r => [2, r.code]
  | .lane => [3]
  | .ply => [4]
  | .job => [5]

/-- A format: UNDEFINED 0, or 1 and its items (R175). -/
def formatBytes (f : Option (List FormatItem)) : List Byte := optBytes (listBytes formatItemBytes) f

/-- A channel of the mark settings: enabled, then positions and tolerance when enabled (R92). -/
def channelBytes : Option ChannelMarks → List Byte
  | none => [0, 0]
  | some m => [1, 1] ++ listBytes (be 3) m.positions ++ be 2 m.tolerance

/-- The mark settings record, channel by channel (R92; log 15). -/
def marksBytes (m : MarkSettings) : List Byte :=
  m.channels.toList.flatMap channelBytes ++ be 2 m.maskEnd ++ be 2 m.closeAt

/-- The parts of READ_CONTEXT in the order of R175; FORMAT carries its number. -/
inductive ContextPart where
  | summary | list | heads
  | format (f : FormatId)
  | marks | inspection
  deriving DecidableEq, Repr

/-- A part by its code, or BAD_VALUE (R175). -/
def contextPart (part : Nat) (format : Option Nat) (k : ContextPart → Reply) : Reply :=
  match part, format with
  | 0, _ => k .summary
  | 1, _ => k .list
  | 2, _ => k .heads
  | 3, some f => named 8 f fun x => k (.format x)
  | 4, _ => k .marks
  | 5, _ => k .inspection
  | _, _ => .refuse .badValue []

/-- One part of a context that exists (R175). One byte is both the list's length and its count, and the 24 assignments of
HEADS and the 4 items of INSPECTION have no count byte (log 15). -/
def partBytes (s : State) (k : SlotId) (c : Context) : ContextPart → List Byte
  | .summary => summaryBytes s k c
  | .list => listBytes allocEntryBytes c.list
  | .heads => c.assignments.toList.flatMap assignmentBytes
  | .format f => formatBytes c.formats[f]
  | .marks => marksBytes c.marks
  | .inspection => c.inspection.toList.map fun o => (o.map fun e => byte (e : Nat)).getD 0xFF

/-- The answer of READ_CONTEXT (R175). -/
def replyReadContext (slot part : Nat) (format : Option Nat) (s : State) : Reply :=
  named 4 slot fun k => contextPart part format fun x =>
  match s.slots[k] with
  | some c => .accept s (partBytes s k c x)
  | none => if x = .summary then .accept s [jobStateCode none] else .refuse .wrongState []

/-- READ_CONTEXT (R175). -/
def execReadContext (port : PortId) (slot part : Nat) (format : Option Nat) (s : State) :
    Host.Outcome State Fault Refusal :=
  request port (.readContext port slot part format) (replyReadContext slot part format) s

/-! ## READ_HEAD (R91) -/

/-- An outstanding order: tag, string, and whether it still waits in the transmit queue (R91). -/
def orderBytes (s : State) (h : HeadId) (o : Order) : List Byte :=
  wordBytes o.tag ++ textBytes o.text ++
    [flagByte (s.hou.transmit.any fun w => w.head == h && w.order.tag == o.tag)]

/-- A head's record, each of its four counters in four bytes (R91; log 15). -/
def headBytes (s : State) (h : HeadId) : List Byte :=
  let x := s.hou.heads[h]
  optBytes placementBytes x.placement ++ x.device.code :: wordBytes x.issued ++ wordBytes x.printed ++
    wordBytes x.failed ++ wordBytes x.late ++ listBytes (orderBytes s h) x.queue ++
    listBytes (fun c => assignmentBytes c.assignments[h]) (s.slots.toList.filterMap id)

/-- The answer of READ_HEAD (R91). -/
def replyReadHead (head : Nat) (s : State) : Reply := named 24 head fun h => .accept s (headBytes s h)

/-- READ_HEAD (R91). -/
def execReadHead (port : PortId) (head : Nat) (s : State) : Host.Outcome State Fault Refusal :=
  request port (.readHead port head) (replyReadHead head) s

/-! ## READ_REGISTRATION (R106, R199) -/

/-- The summary of a record: OK 0, FAULT 1 (R105). -/
def RegRecord.summary (r : RegRecord) : RegSummary := if r.faulty then .fault else .ok

/-- What page 0 gives of the last record (R199). -/
def regHeadBytes (r : RegRecord) : List Byte :=
  wordBytes r.cycle ++ optBytes wordBytes r.judged ++
    [byte r.slot, r.cause.code, r.summary.code, byte r.counterAfter]

/-- The errors of a channel, absent for NOT_ENABLED (R105). -/
def ChannelResult.errors? (c : ChannelResult) : Option (List PairError) :=
  if c.status = .notEnabled then none else some c.errors

/-- A channel of the last record: status, errors, one COARSE flag for each error, hits (R105, R199; log 15). -/
def channelResultBytes (c : ChannelResult) : List Byte :=
  c.status.code :: optBytes (listBytes fun e => beSigned 3 e.error) c.errors? ++
    listBytes (fun e => [flagByte e.coarse]) c.errors ++ [byte c.hits]

/-- Page 0 of READ_REGISTRATION: the six hit counts stand before the six dropped flags, each group with no count byte
(R106, R199; log 15). -/
def regPage0 (m : Mtu) : List Byte :=
  m.state.code :: wordBytes m.cycle ++ optBytes (fun a => [byte a.slot]) m.armed ++ optBytes wordBytes m.judged ++
    (m.hits.toList.map fun l => byte l.length) ++ m.dropped.toList.map flagByte ++
    [byte m.faults, byte m.stopCount] ++ optBytes regHeadBytes m.last

/-- Pages 1 and 2: three channels of the last record; a page beyond them is an empty list (R199). -/
def regChannelPage (m : Mtu) (page : Nat) : List Byte :=
  if page ≤ 2 then
    optBytes
      (fun r => wordBytes r.cycle ++ ((r.channels.toList.drop (3 * (page - 1))).take 3).flatMap channelResultBytes)
      m.last
  else [0]

/-- The result of READ_REGISTRATION (R106, R199). -/
def regBytes (m : Mtu) (page : Nat) : List Byte := if page = 0 then regPage0 m else regChannelPage m page

/-- The answer of READ_REGISTRATION (R106, R199). -/
def replyReadRegistration (page : Nat) (s : State) : Reply := .accept s (regBytes s.mtu page)

/-- READ_REGISTRATION (R106, R199). -/
def execReadRegistration (port : PortId) (page : Option Nat) (s : State) : Host.Outcome State Fault Refusal :=
  request port (.readRegistration port page) (replyReadRegistration (page.getD 0)) s

end Sys2Proof.Machine
end

