-- ==== Sys2Proof/Machine/Boundary.lean ====
section
/-! DEFINITION. The cycle boundary event: the order of its parts, the requests taken between its retirement and its
allocation, what the head link does among the heads, and the hand-over (R32, R58, R66, R83, R86, R136, R137, R169). -/

namespace Sys2Proof.Machine

/-! ## What the manual leaves to the moment (log 4 to 6, 36) -/

/-- The choices of one boundary: the codes that order its parts, its heads and its hand-over, which of retirement and
allocation comes first, the ports whose waiting request is taken between those two, and what the head link does among the
heads and within the hand-over. -/
structure BoundaryOrder where
  blocks : Nat
  heads : Nat
  amongHeads : List LinkStep
  retirementFirst : Bool
  requests : List PortId
  handOver : Nat
  inHandOver : List LinkStep
  deriving DecidableEq, Repr

/-- The choices of the next boundary: free values (log 4 to 6, 36). -/
def chosenOrder (s : State) : BoundaryOrder :=
  { blocks := Config.blockOrder s.choices,
    heads := Config.headOrder s.choices, amongHeads := Config.linkAmongHeads s.choices,
    retirementFirst := Config.retirementFirst s.choices, requests := Config.requestsWithin s.choices,
    handOver := Config.handOverOrder s.choices, inHandOver := Config.linkInHandOver s.choices }

/-! ## Requests between retirement and allocation (R136, R137) -/

/-- What its block answers to a request that a boundary may take between its retirement and its allocation: READ_QUEUE and
WITHDRAW_REPRINT (R136, R137), and the other reads but READ_STATUS, READ_SET, READ_HEAD and READ_REGISTRATION, whose rules
have them come before or after the whole boundary (R47, R49, R72, R91, R106; log 36). -/
def replyWithin : Instr → Option (State → Reply)
  | .readSequence _ k q page => some (replyReadSequence k q (page.getD 0))
  | .readQueue _ k q page => some (replyReadQueue k q (page.getD 0))
  | .readContext _ k part format => some (replyReadContext k part format)
  | .readLines _ => some replyReadLines
  | .readBackground _ => some replyReadBackground
  | .readJournal _ n count => some (replyReadJournal n count)
  | .withdrawReprint _ k q v => some (replyWithdrawReprint k q v)
  | _ => none

/-- The oldest frame that waits on a port is taken and answered where it spells such a request; else it waits on (R190). -/
def takeWithin (s : State) (p : PortId) : State :=
  match nextFrame s.ports[p].buffer with
  | some (.sound body) =>
    match parseRequest p body with
    | none => s
    | some c =>
      match replyWithin c with
      | none => s
      | some act => onFrame p body (serve p ((requestCode c).getD 0) act) s
  | some .garbled | none => s

/-- The Set Tracker's own work at a boundary: changeover and suspension, then retirement and allocation in either order, with
the chosen requests between the two (R56, R58, R136, R137, R169; log 6, 36). -/
def trackBoundary (o : BoundaryOrder) (s : State) : State :=
  let s1 := suspension (changeover s)
  if o.retirementFirst then allocate (o.requests.foldl takeWithin (retire s1))
  else retire (o.requests.foldl takeWithin (allocate s1))

/-! ## The heads and the hand-over (R66, R83, R86) -/

/-- A step of the Head Order Unit at a boundary: a head's turn, or something the head link does by itself. -/
inductive HouStep where
  | head (h : HeadId)
  | link (l : LinkStep)
  deriving DecidableEq, Repr

/-- The turn of every head once, and what the head link does meanwhile. -/
def houSteps (l : List LinkStep) : List HouStep := (List.finRange 24).map .head ++ l.map .link

/-- One step while the heads take a boundary: a head's expiry and issue, or the link, whose arbiter chooses orders of older
boundaries alone until every head has had its turn (R83, R86). -/
def headStep (s : State) : HouStep → State
  | .head h => headBoundary s h
  | .link .chooses => sendOlder s
  | .link .ends => endOrder s

/-- The heads take a boundary, in the chosen order (R83, R86; log 5, 36). -/
def takeHeads (o : BoundaryOrder) (s : State) : State := (permute o.heads (houSteps o.amongHeads)).foldl headStep s

/-- One step of the hand-over: a lag-1 head issues its order for the set, and no other head has one; or the link (R83,
R86). -/
def handStep (s : State) : HouStep → State
  | .head h => if hasLagOne s h then issueHead h s else s
  | .link .chooses => sendOrder s
  | .link .ends => endOrder s

/-- The hand-over of the set of this boundary, its steps in the chosen order (R66, R83, R86; log 5, 36). -/
def handOver (o : BoundaryOrder) (s : State) : State := (permute o.handOver (houSteps o.inHandOver)).foldl handStep s

/-! ## The boundary (R32) -/

/-- The parts of a boundary's work that no rule orders among themselves (log 4). -/
inductive Phase where
  | measure | window | track | heads | webNotice
  deriving DecidableEq, Repr

/-- A notice the WPU itself sends at a boundary. -/
structure WebNotice where
  kind : NoticeKind
  payload : List Byte
  deriving DecidableEq, Repr

/-- One part of a boundary's work. -/
def runPhase (o : BoundaryOrder) (n : Option WebNotice) (s : State) : Phase → State
  | .measure => measureBoundary s
  | .window => closeWindow s
  | .track => trackBoundary o s
  | .heads => takeHeads o s
  | .webNotice => match n with
    | none => s
    | some w => notify w.kind w.payload s

/-- A boundary after the WPU has counted it: every block takes it, in the chosen order, then the hand-over of a set
allocated at it (R32, R66, R83). What else may come within is log 36. -/
def boundaryWork (o : BoundaryOrder) (n : Option WebNotice) (s : State) : State :=
  handOver o ((permute o.blocks [.measure, .window, .track, .heads, .webNotice]).foldl (runPhase o n) s)

/-- The WPU's own fields at a boundary (R32). -/
def Wpu.openCycle (k : Opening) (position : Nat) (w : Wpu) : Wpu :=
  { w with
    cycle := w.cycle + 1,
    opening := some k,
    position := position,
    indexPending := if k = .synthetic then .afterSynthetic else .none }

/-- A cycle boundary event under given choices (R32). -/
def boundaryWith (o : BoundaryOrder) (k : Opening) (position : Nat) (n : Option WebNotice) (s : State) : State :=
  boundaryWork o n { s with wpu := s.wpu.openCycle k position }

/-- A cycle boundary event (R32). -/
def boundary (k : Opening) (position : Nat) (n : Option WebNotice) (s : State) : State :=
  boundaryWith (chosenOrder s) k position n { s with choices := s.choices + 1 }

end Sys2Proof.Machine
end

