-- ==== Sys2Proof/Machine/PressEvents.lean ====
section
/-! DEFINITION. The commands of the press, the reference clock and the RESET pin: DEVICE_RESET, ENCODER_TRANSITION,
INDEX_EDGE, MARK_EDGE, EDGE_AGE_TICK, FIELD_LINE_LEVEL_CHANGE. -/

namespace Sys2Proof.Machine

/-! ## Device reset and the role straps (R31, R178) -/

/-- The role that a port's two strap lines name (R178). -/
def strapRole (first second : Bool) : Role :=
  match first, second with
  | false, false => .monitor
  | false, true => .inspect
  | true, false => .drive
  | true, true => .supervisor

/-- The role strapped on port p: its lower-numbered line gives the first digit (R178). -/
def strappedRole (levels : BitVec 24) (p : PortId) : Role :=
  strapRole (levels.getLsbD (2 * p)) (levels.getLsbD (2 * p + 1))

/-- The role port p starts with: of several ports strapped SUPERVISOR the lowest-lettered takes it and the others take
MONITOR (R178). -/
def startRole (levels : BitVec 24) (p : PortId) : Role :=
  if strappedRole levels p = .supervisor ∧ (List.finRange 4).any (fun q => q < p && strappedRole levels q == .supervisor)
  then .monitor else strappedRole levels p

/-- DEVICE_RESET: every block returns to its reset state with the levels on the pins and the roles of the straps
(R31, R176, R178). The model's own queue and counter stay (log 1, 24). -/
def execDeviceReset (levels : BitVec 24) (s : State) : Host.Outcome State Fault Refusal :=
  .next { State.reset with
    lm := { lines := tabulate fun i => { Line.reset with level := levels.getLsbD i }, stops := 0 },
    ports := tabulate fun p => Port.reset (startRole levels p),
    pending := s.pending,
    choices := s.choices }

/-! ## Counted edges (R33 to R39) -/

/-- How a transition is judged against the decoder reference (R33, R34). -/
inductive EdgeKind where
  | still | forward | reverse | invalid
  deriving DecidableEq, Repr

/-- The level pair that follows in the forward order 00, 10, 11, 01 (R33). -/
def Levels.next (l : Levels) : Levels := { a := !l.b, b := l.a }

/-- The judgement of new levels against the reference (R33, R34). -/
def judgeEdge (reference now : Levels) : EdgeKind :=
  if now = reference then .still
  else if now = reference.next then .forward
  else if reference = now.next then .reverse
  else .invalid

/-- The interval fields at a counted edge (R35). -/
def Wpu.edge (d : Direction) (w : Wpu) : Wpu :=
  { w with interval := w.edgeAge, edgeAge := 0, reversal := decide (w.direction ≠ d), direction := d }

/-- Every gate whose release point the position has reached is released (R122). -/
def releaseGates (s : State) : State :=
  (List.finRange 4).foldl
    (fun s k =>
      match s.st.gates[k] with
      | .asserted _ (some at_) => if at_ ≤ s.wpu.position then setGateRecord k .released s else s
      | .asserted _ none | .released => s) s

/-- A forward counted edge taken while not BACKED (R36): a boundary, or a change of position that the measurement and
the gates follow (R99, R101, R122). After an INDEXLESS boundary the position is p - RL, as R36 has it, and 0 where p is RL
(R32, R97; log 34). -/
def forwardEdge (s : State) : State :=
  let p := s.wpu.position + 1
  let rl := s.wpu.repeatLength
  if holdsFunction s .index then
    if rl + s.wpu.tolerance ≤ p then boundary .synthetic (p - rl) (some { kind := .indexMissing, payload := [] }) s
    else releaseGates (followMeasurement (modifyWpu (fun w => { w with position := p }) s))
  else if rl ≤ p then boundary .indexless (p - rl) none s
  else releaseGates (followMeasurement (modifyWpu (fun w => { w with position := p }) s))

/-- A reverse counted edge taken while not BACKED (R37). -/
def reverseEdge (s : State) : State :=
  if 0 < s.wpu.position then
    followMeasurement (modifyWpu (fun w => { w with position := w.position - 1 }) s)
  else
    notify .webBacked []
      (modifyWpu (fun w => { w with backed := true, deficit := 1, episodeMax := 1, far := false }) s)

/-- A reverse counted edge taken while BACKED (R38). -/
def backedReverse (s : State) : State :=
  let d := min 65535 (s.wpu.deficit + 1)
  let s1 := modifyWpu (fun w => { w with deficit := d, episodeMax := max w.episodeMax d }) s
  if d = 65535 ∧ s.wpu.far = false then
    notify .webBackedFar [] (modifyWpu (fun w => { w with far := true }) s1)
  else s1

/-- BACKED ends (R39). -/
def leaveBacked (s : State) : State :=
  notify .webRecovered (be 2 (if s.wpu.far then 65535 else s.wpu.episodeMax))
    (modifyWpu (fun w =>
      { w with backed := false, position := 0, deficit := 0, episodeMax := 0, far := false, indexPending := .afterRecovery }) s)

/-- A forward counted edge taken while BACKED (R38, R39). -/
def backedForward (s : State) : State :=
  if s.wpu.deficit ≤ 1 then leaveBacked s
  else modifyWpu (fun w => { w with deficit := w.deficit - 1 }) s

/-- A counted edge, its interval fields already updated (R33). -/
def countedEdge (d : Direction) (s : State) : State :=
  match d, s.wpu.backed with
  | .forward, false => forwardEdge s
  | .forward, true => backedForward s
  | .reverse, false => reverseEdge s
  | .reverse, true => backedReverse s

/-- The two encoder levels as flags, A first. -/
def Levels.bytes (l : Levels) : List Byte := [flagByte l.a, flagByte l.b]

/-- The encoder levels are judged against the reference, which becomes the new levels (R33, R34). -/
def judgeTransition (reference now : Levels) (s : State) : State :=
  let s1 := modifyWpu (fun w => { w with reference := some now }) s
  match judgeEdge reference now with
  | .still => s
  | .forward => countedEdge .forward (modifyWpu (Wpu.edge .forward) s1)
  | .reverse => countedEdge .reverse (modifyWpu (Wpu.edge .reverse) s1)
  | .invalid => notify .encoderError (reference.bytes ++ now.bytes) s1

/-- The WPU watches its two lines: a change of level is judged when both functions are held and a reference stands (R33). -/
def watchEncoder (s : State) : State :=
  match s.wpu.reference, encoderLevels s with
  | some r, some now => judgeTransition r now s
  | _, _ => s

/-- The lines that hold a function take a level from outside (R176). -/
def setFunctionLevel (f : LineFunction) (level : Bool) (s : State) : State := showDriven f level s

/-- ENCODER_TRANSITION: the levels of the ENC_A and ENC_B lines become the given ones, and the WPU judges them (R33). -/
def execEncoderTransition (a b : Bool) (s : State) : Host.Outcome State Fault Refusal :=
  .next (watchEncoder (setFunctionLevel .encB b (setFunctionLevel .encA a s)))

/-! ## Index edges (R40, R41) -/

/-- The deviation that INDEX_SLIP carries (R41). -/
def slipDeviation (rl p : Nat) : Int := if rl ≤ 2 * p then (p : Int) - rl else p

/-- A late index or an index found again sets the position back to 0 within the cycle; an open measurement follows
(R41, R99). -/
def indexSetsBack (s : State) : State :=
  followMeasurement (modifyWpu (fun w => { w with position := 0, indexPending := .none }) s)

/-- An index edge taken at the present position (R41). -/
def judgeIndex (s : State) : State :=
  let p := s.wpu.position
  let rl := s.wpu.repeatLength
  let tol := s.wpu.tolerance
  if rl ≤ p + tol ∧ p ≤ rl + tol then boundary .normal 0 none s
  else if p ≤ tol ∧ s.wpu.indexPending = .afterSynthetic then notify .indexLate (be 3 p) (indexSetsBack s)
  else if p ≤ tol ∧ s.wpu.indexPending = .afterRecovery then indexSetsBack s
  else if p + tol < rl then
    boundary .early 0 (some { kind := .indexSlip, payload := beSigned 2 (slipDeviation rl p) }) s
  else s

/-- The WPU takes an index edge when the direction is FORWARD and it is not BACKED (R40). -/
def takeIndex (s : State) : State :=
  if s.wpu.direction = .forward ∧ s.wpu.backed = false then judgeIndex s else s

/-- INDEX_EDGE: the line that holds INDEX rises (R40, R41); without one nothing hears it. -/
def execIndexEdge (s : State) : Host.Outcome State Fault Refusal :=
  .next (if holdsFunction s .index then takeIndex (setFunctionLevel .index true s) else s)

/-! ## Marks, ticks and levels (R43, R35, R176) -/

/-- MARK_EDGE: the line that holds MARK of the channel rises (R43, R100); without one nothing hears it. -/
def execMarkEdge (channel : ChannelId) (s : State) : Host.Outcome State Fault Refusal :=
  .next (if holdsFunction s (.mark channel) then markEdge channel (setFunctionLevel (.mark channel) true s) else s)

/-- EDGE_AGE_TICK: t increases by one and saturates at 65535 (R35). -/
def execEdgeAgeTick (s : State) : Host.Outcome State Fault Refusal :=
  .next (modifyWpu (fun w => { w with edgeAge := min 65535 (w.edgeAge + 1) }) s)

/-- What the block that hears a line does when the line's level has changed (R176). -/
def hearLine (f : LineFunction) (level : Bool) (s : State) : State :=
  match f with
  | .encA | .encB => watchEncoder s
  | .index => if level then takeIndex s else s
  | .mark k => if level then markEdge k s else s
  | .genIn | .genOut | .gate _ | .stopReq => s

/-- FIELD_LINE_LEVEL_CHANGE: the input level follows the pin, and the block of the line's function hears the transition
(R176). A level that is already there is no transition. -/
def execFieldLineLevelChange (line : LineId) (level : Bool) (s : State) : Host.Outcome State Fault Refusal :=
  .next (
    if s.lm.lines[line].level = level then s
    else
      hearLine s.lm.lines[line].function level
        { s with lm := { s.lm with lines := updateAt s.lm.lines line fun l => { l with level := level } } })

end Sys2Proof.Machine
end

