-- ==== Sys2Proof/Machine/Dispatch.lean ====
section
/-! DEFINITION. One arm for each command: the command's meaning. -/

namespace Sys2Proof.Machine

/-- The effect of a command on everything but the queue of commands. -/
def exec (i : Instr) (s : State) : Host.Outcome State Fault Refusal :=
  match i with
  | .deviceReset levels => Sys2Proof.Machine.execDeviceReset levels s
  | .encoderTransition a b => Sys2Proof.Machine.execEncoderTransition a b s
  | .indexEdge => Sys2Proof.Machine.execIndexEdge s
  | .markEdge channel => Sys2Proof.Machine.execMarkEdge channel s
  | .orderDeadline head => Sys2Proof.Machine.execOrderDeadline head s
  | .orderSend => Sys2Proof.Machine.execOrderSend s
  | .orderFrameEnd => Sys2Proof.Machine.execOrderFrameEnd s
  | .completion head tag result => Sys2Proof.Machine.execCompletion head tag result s
  | .stateMessage head report => Sys2Proof.Machine.execStateMessage head report s
  | .headFrameDiscard => Sys2Proof.Machine.execHeadFrameDiscard s
  | .headLinkGapTimeout => Sys2Proof.Machine.execHeadLinkGapTimeout s
  | .probeDraw => Sys2Proof.Machine.execProbeDraw s
  | .skipDraw => Sys2Proof.Machine.execSkipDraw s
  | .skipResume => Sys2Proof.Machine.execSkipResume s
  | .portFrameReceived port frame => Sys2Proof.Machine.execPortFrameReceived port frame s
  | .frameGapTimeout port => Sys2Proof.Machine.execFrameGapTimeout port s
  | .badStopBit port => Sys2Proof.Machine.execBadStopBit port s
  | .portReset port => Sys2Proof.Machine.execPortReset port s
  | .garbledFrame port => Sys2Proof.Machine.execGarbledFrame port s
  | .unknownRequestCode port body => Sys2Proof.Machine.execUnknownRequestCode port body s
  | .frameSendStart port => Sys2Proof.Machine.execFrameSendStart port s
  | .frameSendEnd port => Sys2Proof.Machine.execFrameSendEnd port s
  | .defineSequence port slot sequence digits first last step policy scheme => Sys2Proof.Machine.execDefineSequence port slot sequence digits first last step policy scheme s
  | .loadValue port slot sequence value => Sys2Proof.Machine.execLoadValue port slot sequence value s
  | .addExclusion port slot sequence low high => Sys2Proof.Machine.execAddExclusion port slot sequence low high s
  | .removeExclusion port slot sequence low => Sys2Proof.Machine.execRemoveExclusion port slot sequence low s
  | .probeSequence port slot sequence count => Sys2Proof.Machine.execProbeSequence port slot sequence count s
  | .skipAhead port slot sequence count => Sys2Proof.Machine.execSkipAhead port slot sequence count s
  | .cancelBackground port => Sys2Proof.Machine.execCancelBackground port s
  | .setWeb port repeatLength tolerance => Sys2Proof.Machine.execSetWeb port repeatLength tolerance s
  | .setLags port merge inspect gate => Sys2Proof.Machine.execSetLags port merge inspect gate s
  | .openRun port => Sys2Proof.Machine.execOpenRun port s
  | .closeRun port => Sys2Proof.Machine.execCloseRun port s
  | .defineEntry port slot entry lane mode source reprintFirst => Sys2Proof.Machine.execDefineEntry port slot entry lane mode source reprintFirst s
  | .trimList port slot length => Sys2Proof.Machine.execTrimList port slot length s
  | .placeHead port head placement => Sys2Proof.Machine.execPlaceHead port head placement s
  | .assignHead port slot head assignment => Sys2Proof.Machine.execAssignHead port slot head assignment s
  | .defineFormat port slot format items => Sys2Proof.Machine.execDefineFormat port slot format items s
  | .defineMarks port slot channel enabled positions tolerance => Sys2Proof.Machine.execDefineMarks port slot channel enabled positions tolerance s
  | .setMarkWindow port slot maskEnd closeAt => Sys2Proof.Machine.execSetMarkWindow port slot maskEnd closeAt s
  | .setRegStop port count => Sys2Proof.Machine.execSetRegStop port count s
  | .setInspection port slot lane entry => Sys2Proof.Machine.execSetInspection port slot lane entry s
  | .reportRead port lane digits check => Sys2Proof.Machine.execReportRead port lane digits check s
  | .reportDefect port lane defect => Sys2Proof.Machine.execReportDefect port lane defect s
  | .rejectSets port firstTag count laneMask => Sys2Proof.Machine.execRejectSets port firstTag count laneMask s
  | .setGate port closeAt => Sys2Proof.Machine.execSetGate port closeAt s
  | .withdrawReprint port slot sequence value => Sys2Proof.Machine.execWithdrawReprint port slot sequence value s
  | .releaseJournal port through => Sys2Proof.Machine.execReleaseJournal port through s
  | .openContext port slot job lanes policy limit => Sys2Proof.Machine.execOpenContext port slot job lanes policy limit s
  | .discard port slot => Sys2Proof.Machine.execDiscard port slot s
  | .closeBuild port slot => Sys2Proof.Machine.execCloseBuild port slot s
  | .reopen port slot => Sys2Proof.Machine.execReopen port slot s
  | .activate port slot effective => Sys2Proof.Machine.execActivate port slot effective s
  | .cancelActivation port => Sys2Proof.Machine.execCancelActivation port s
  | .suspend port slot => Sys2Proof.Machine.execSuspend port slot s
  | .flush port slot => Sys2Proof.Machine.execFlush port slot s
  | .endJob port slot => Sys2Proof.Machine.execEndJob port slot s
  | .assignLine port line function pullUp => Sys2Proof.Machine.execAssignLine port line function pullUp s
  | .writeLines port mask levels => Sys2Proof.Machine.execWriteLines port mask levels s
  | .setStop port => Sys2Proof.Machine.execSetStop port s
  | .clearStop port cause => Sys2Proof.Machine.execClearStop port cause s
  | .setRole port named role => Sys2Proof.Machine.execSetRole port named role s
  | .setNotices port categories => Sys2Proof.Machine.execSetNotices port categories s
  | .readStatus port => Sys2Proof.Machine.execReadStatus port s
  | .readSet port tag page => Sys2Proof.Machine.execReadSet port tag page s
  | .readSequence port slot sequence page => Sys2Proof.Machine.execReadSequence port slot sequence page s
  | .readQueue port slot sequence page => Sys2Proof.Machine.execReadQueue port slot sequence page s
  | .readContext port slot part format => Sys2Proof.Machine.execReadContext port slot part format s
  | .readHead port head => Sys2Proof.Machine.execReadHead port head s
  | .readRegistration port page => Sys2Proof.Machine.execReadRegistration port page s
  | .readLines port => Sys2Proof.Machine.execReadLines port s
  | .readBackground port => Sys2Proof.Machine.execReadBackground port s
  | .readJournal port fromIndex count => Sys2Proof.Machine.execReadJournal port fromIndex count s
  | .edgeAgeTick => Sys2Proof.Machine.execEdgeAgeTick s
  | .portByteReceived port byte => Sys2Proof.Machine.execPortByteReceived port byte s
  | .headLinkByteReceived byte => Sys2Proof.Machine.execHeadLinkByteReceived byte s
  | .headLinkBadStopBit => Sys2Proof.Machine.execHeadLinkBadStopBit s
  | .fieldLineLevelChange line level => Sys2Proof.Machine.execFieldLineLevelChange line level s

end Sys2Proof.Machine
end

