-- ==== Sys2Proof/Safety.lean ====
section
/-! DEFINITION. The terms claims use: how a request is answered, and what every step keeps. -/

namespace Sys2Proof.Machine

/-! ## Requests -/

/-- The request makes a frame of its port (R187), and that frame is the oldest one not yet taken (R190). -/
def AtFront (p : PortId) (c : Instr) (s : State) : Prop :=
  fitsFrame (encodeRequest c) = true ∧ nextFrame s.ports[p].buffer = some (.sound (encodeRequest c))

/-- The role of the port admits the request (R193). -/
def Admitted (p : PortId) (c : Instr) (s : State) : Prop := (requestCode c).any (s.ports[p].role.admits ·) = true

/-- The oldest frame not yet taken on a port is taken. -/
def takenOn (p : PortId) (s : State) : State := modifyPort p (fun q => { q with buffer := markTaken q.buffer }) s

/-- A request taken with an effect and answered with a status and a result (R190, R191). The response stands ahead of the
notices that the request's own effect makes: log 12. -/
def answered (p : PortId) (c : Instr) (st : Status) (result : List Byte) (effect : State → State) (s : State) : State :=
  answerAt p s.ports[p].out.length ((requestCode c).getD 0) st result (effect (takenOn p s))

/-- A request refused with a status and no effect but its response (R190). -/
def refused (p : PortId) (c : Instr) (st : Status) (result : List Byte) (s : State) : State :=
  answered p c st result id s

/-- The request, its frame at the front of an admitting port, is accepted with this result and effect, its response ahead
of its own notices (log 12). -/
def AcceptedAs (p : PortId) (c : Instr) (result : List Byte) (effect : State → State) (s : State) : Prop :=
  AtFront p c s → Admitted p c s → exec c s = .next (answered p c .ok result effect s)

/-- The request, its frame at the front of an admitting port, is refused with this status and result, and has no effect
but its response (R190). -/
def RefusedAs (p : PortId) (c : Instr) (st : Status) (result : List Byte) (s : State) : Prop :=
  AtFront p c s → Admitted p c s → exec c s = .next (refused p c st result s)

/-- The slot has no pending activation (R167). -/
def NotPending (k : SlotId) (s : State) : Prop := ∀ a : Activation, s.activation = some a → a.slot ≠ k

/-- No context is ACTIVE or DRAINING and no activation is pending. -/
def NothingRuns (s : State) : Prop :=
  (∀ k : SlotId, slotState s k ≠ some .active ∧ slotState s k ≠ some .draining) ∧ s.activation = none

/-- The port that a request stands on; none for a command that is no request. -/
def portOf : Instr → Option PortId
  | .defineSequence p _ _ _ _ _ _ _ _ => some p
  | .loadValue p _ _ _ => some p
  | .addExclusion p _ _ _ _ => some p
  | .removeExclusion p _ _ _ => some p
  | .probeSequence p _ _ _ => some p
  | .skipAhead p _ _ _ => some p
  | .cancelBackground p => some p
  | .setWeb p _ _ => some p
  | .setLags p _ _ _ => some p
  | .openRun p => some p
  | .closeRun p => some p
  | .defineEntry p _ _ _ _ _ _ => some p
  | .trimList p _ _ => some p
  | .placeHead p _ _ => some p
  | .assignHead p _ _ _ => some p
  | .defineFormat p _ _ _ => some p
  | .defineMarks p _ _ _ _ _ => some p
  | .setMarkWindow p _ _ _ => some p
  | .setRegStop p _ => some p
  | .setInspection p _ _ _ => some p
  | .reportRead p _ _ _ => some p
  | .reportDefect p _ _ => some p
  | .rejectSets p _ _ _ => some p
  | .setGate p _ => some p
  | .withdrawReprint p _ _ _ => some p
  | .releaseJournal p _ => some p
  | .openContext p _ _ _ _ _ => some p
  | .discard p _ => some p
  | .closeBuild p _ => some p
  | .reopen p _ => some p
  | .activate p _ _ => some p
  | .cancelActivation p => some p
  | .suspend p _ => some p
  | .flush p _ => some p
  | .endJob p _ => some p
  | .assignLine p _ _ _ => some p
  | .writeLines p _ _ => some p
  | .setStop p => some p
  | .clearStop p _ => some p
  | .setRole p _ _ => some p
  | .setNotices p _ => some p
  | .readStatus p => some p
  | .readSet p _ _ => some p
  | .readSequence p _ _ _ => some p
  | .readQueue p _ _ _ => some p
  | .readContext p _ _ _ => some p
  | .readHead p _ => some p
  | .readRegistration p _ => some p
  | .readLines p => some p
  | .readBackground p => some p
  | .readJournal p _ _ => some p
  | .deviceReset .. | .encoderTransition .. | .indexEdge | .markEdge .. | .orderDeadline .. | .orderSend
  | .orderFrameEnd | .completion .. | .stateMessage .. | .headFrameDiscard | .headLinkGapTimeout
  | .probeDraw | .skipDraw | .skipResume | .portFrameReceived .. | .frameGapTimeout .. | .badStopBit ..
  | .portReset .. | .garbledFrame .. | .unknownRequestCode .. | .frameSendStart .. | .frameSendEnd ..
  | .edgeAgeTick | .portByteReceived .. | .headLinkByteReceived .. | .headLinkBadStopBit
  | .fieldLineLevelChange .. => none

/-- A set record after a head's outcome for it, with the reason that the head's lane in the set's own context gains
(R67, R77). -/
def settledSet (s : State) (h : HeadId) (o : HeadOutcome) (why : Reason) (r : SetRecord) : SetRecord :=
  { r with
    heads := r.heads.set h o,
    lanes := match s.slots[r.slot].bind (fun c => c.headLane h) with
      | some l => r.lanes.modify l (LanePart.add why)
      | none => r.lanes }

/-! ## What every step keeps -/

/-- The relation of R2. -/
def Sequence.balanced (x : Sequence) : Prop := x.drawn = x.issued + x.voided + x.queued + x.held

/-- Every defined sequence of every slot is balanced (R2). -/
def CountersBalance (s : State) : Prop :=
  ∀ (k : SlotId) (q : SeqId) (x : Sequence), sequenceOf s k q = some x → x.balanced

/-- A queue has at most 32 entries, its length is the queued counter, and it holds no value twice (R127). -/
def Sequence.queueSound (x : Sequence) : Prop :=
  x.queue.length ≤ 32 ∧ x.queued = BitVec.ofNat 48 x.queue.length ∧ (x.queue.map QueueEntry.value).Nodup

/-- Every reprint queue of every slot is sound (R127). -/
def QueuesSound (s : State) : Prop :=
  ∀ (k : SlotId) (q : SeqId) (x : Sequence), sequenceOf s k q = some x → x.queueSound

/-- No function but GEN_IN and GEN_OUT is held by two lines (R179). -/
def LinesUnique (s : State) : Prop :=
  ∀ i j : LineId, s.lm.lines[i].function = s.lm.lines[j].function → s.lm.lines[i].function.isGeneral = false → i = j

/-- At most one port holds SUPERVISOR (R186). -/
def OneSupervisor (s : State) : Prop :=
  ∀ p q : PortId, s.ports[p].role = .supervisor → s.ports[q].role = .supervisor → p = q

/-- A receiver within a frame has a length of 1 to 128 and fewer bytes than it, or a whole body (R186, R188). -/
def Receiver.sound : Receiver → Prop
  | .hunting | .length => True
  | .body n got => n ≤ 128 ∧ got.length < n
  | .check got _ => 1 ≤ got.length ∧ got.length ≤ 128

/-- A receive buffer holds at most 2 frames, each one that a frame can carry, a notice queue at most 8 notices, and the
receiver is sound (R186 to R188). -/
def Port.bounded (q : Port) : Prop :=
  q.buffer.length ≤ 2 ∧ q.noticeCount ≤ 8 ∧ (∀ b ∈ q.buffer, b.frame.wf = true) ∧ q.receiver.sound

/-- Every port is bounded (R186). -/
def PortsBounded (s : State) : Prop := ∀ p : PortId, s.ports[p].bounded

/-- The WPU's fields lie in their ranges, and BACKED, position, deficit and far flag agree (R31, R36 to R39). -/
def Wpu.inRange (w : Wpu) : Prop :=
  1000 ≤ w.repeatLength ∧ w.repeatLength ≤ 60000 ∧ w.tolerance ≤ w.repeatLength / 4 ∧
  w.position < w.repeatLength + w.tolerance ∧ w.interval ≤ 65535 ∧ w.edgeAge ≤ 65535 ∧
  (w.backed = true → w.position = 0 ∧ 1 ≤ w.deficit ∧ w.deficit ≤ w.episodeMax ∧ w.episodeMax ≤ 65535) ∧
  (w.backed = false → w.deficit = 0 ∧ w.far = false)

/-- The WPU stays in range (R31). -/
def WebInRange (s : State) : Prop := s.wpu.inRange

/-- The held records carry consecutive indices that end below the next index (R141). -/
def Journal.indexed (j : Journal) : Prop :=
  ∀ (i : Nat) (r : Record), j.records[i]? = some r → r.index = j.next - BitVec.ofNat 32 (j.records.length - i)

/-- There is a tail exactly when a record is held; an OPEN one is an UNREAD run that can still grow (R140, R144). -/
def Journal.tailSound (j : Journal) : Prop :=
  (j.tail.isSome ↔ j.records ≠ []) ∧
  ∀ (t : Tail) (r : Record), j.tail = some t → j.records.getLast? = some r → t.isOpen = true →
    r.read = false ∧ r.body.isRun = true ∧ r.body.count < 65535

/-- The journal's form (R141, R144). -/
def JournalSound (s : State) : Prop := s.ij.indexed ∧ s.ij.tailSound

/-- An exclusion table of at most 16 ranges, sorted by sequence and lower end; ranges of one sequence share no value, and
each lies within the bounds of its sequence (R8, R9). -/
def Context.exclusionsSound (c : Context) : Prop :=
  c.exclusions.length ≤ 16 ∧
  c.exclusions.Pairwise (fun a b => a.sequence < b.sequence ∨ a.sequence = b.sequence ∧ a.high < b.low) ∧
  ∀ r ∈ c.exclusions, r.low ≤ r.high ∧ ∃ x, c.sequences[r.sequence] = some x ∧ x.lo ≤ r.low ∧ r.high ≤ x.hi

/-- Every slot's exclusion table is sound (R8). -/
def ExclusionsSound (s : State) : Prop := ∀ (k : SlotId) (c : Context), s.slots[k] = some c → c.exclusionsSound

/-! ### Contexts, ring, journal space and orders -/

/-- The boundaries since the cycle of a tag began (R51). -/
def tagAge (s : State) (t : Cycle) : Nat := (s.wpu.cycle - t).toNat

/-- The contexts and the ring agree (R49, R50, R51, R69, R70, R158, R159). -/
structure RunSound (s : State) : Prop where
  /-- At most one context is ACTIVE (R159). -/
  oneActive : ∀ i j : SlotId, slotState s i = some .active → slotState s j = some .active → i = j
  /-- At most one context is DRAINING (R159). -/
  oneDraining : ∀ i j : SlotId, slotState s i = some .draining → slotState s j = some .draining → i = j
  /-- Only an ACTIVE context with a set in flight has its suspend flag set, and no other drains (R170, R171). -/
  suspended : ∀ (k : SlotId) (c : Context), s.slots[k] = some c → c.suspend = true →
    c.state = .active ∧ 1 ≤ c.inFlight ∧ ∀ j : SlotId, slotState s j ≠ some .draining
  /-- A DRAINING context has a set in flight (R172). -/
  draining : ∀ (k : SlotId) (c : Context), s.slots[k] = some c → c.state = .draining → 1 ≤ c.inFlight
  /-- A pending slot is in the state its activation came from, and a context that drains beside it leaves none ACTIVE
  (R159, R167). -/
  pending : ∀ a : Activation, s.activation = some a → slotState s a.slot = some a.origin.state ∧
    ∀ i j : SlotId, slotState s i = some .draining → slotState s j ≠ some .active
  /-- The lags are all 0, or in order (R49, R50). -/
  lags : s.st.merge = 0 ∧ s.st.inspect = 0 ∧ s.st.gateLag = 0 ∨
    1 ≤ s.st.merge ∧ s.st.merge ≤ s.st.inspect ∧ s.st.inspect + 2 ≤ s.st.gateLag ∧ s.st.gateLag ≤ 127
  /-- While something runs the lags are valid (R166 check 1). -/
  fitted : ¬NothingRuns s → 1 ≤ s.st.merge
  /-- Every set belongs to an ACTIVE or DRAINING context (R70). -/
  owned : ∀ r ∈ s.st.ring, slotState s r.slot = some .active ∨ slotState s r.slot = some .draining
  /-- Sets in flight counts a slot's sets in the ring (R158). -/
  counted : ∀ (k : SlotId) (c : Context), s.slots[k] = some c → c.inFlight = setsOf k s
  /-- The sets stand oldest first, no two of one age (R69). -/
  ordered : (s.st.ring.map fun r => tagAge s r.tag).Pairwise fun a b => b < a
  /-- Every set is younger than the gate lag (R69, R120). -/
  young : ∀ r ∈ s.st.ring, tagAge s r.tag < s.st.gateLag

/-- The entries of a set that carry a number of their own: each leads to at most one journal record (R59, R125). -/
def SetRecord.ownNumbers (r : SetRecord) : Nat :=
  (r.entries.filter fun e => e.number.any fun n => n.origin == .fresh || n.origin == .reprint).length

/-- What a slot's context reservation stands for: a run, a pending activation, or a JOB_SUSPENDED that waits (R146,
R149). -/
def contextHolds (s : State) (k : SlotId) : Nat :=
  (if slotState s k = some .active ∨ slotState s k = some .draining then 1 else 0) +
  (if isPendingSlot s k then 1 else 0) +
  (s.ij.deferred.filter fun d => d.activated.isNone && d.slot == k).length

/-- The journal's space is accounted for (R140, R146, R149). -/
structure SpaceSound (s : State) : Prop where
  /-- Held and reserved records fit (R140). -/
  fits : s.ij.records.length + s.ij.reserved ≤ 1024
  /-- The reserved count is the sum of the reservations of the sets and of the contexts (R140). -/
  sum : s.ij.reserved = (s.st.ring.map SetRecord.reservation).sum + s.ij.contextReserved.toList.sum
  /-- A set's reservation covers the records it may still write (R59, R125). -/
  covers : ∀ r ∈ s.st.ring, r.ownNumbers ≤ r.reservation
  /-- Each context reservation is there for its reason, and is 0 or 1 (R140, R146). -/
  contexts : ∀ k : SlotId, s.ij.contextReserved[k] = contextHolds s k ∧ contextHolds s k ≤ 1
  /-- A context record waits only while no unreserved record is free (R149). -/
  waits : s.ij.deferred ≠ [] → s.ij.unreserved = 0
  /-- A slot whose JOB_SUSPENDED waits is PARKED (R149, R172). -/
  parked : ∀ d ∈ s.ij.deferred, d.activated = none → slotState s d.slot = some .parked

/-- The orders of the heads and of the head link stand in their order (R82, R83, R85, R86). -/
structure OrdersSound (s : State) : Prop where
  /-- A placement's print lag is 1 to 60 (R73, R74). -/
  placed : ∀ (h : HeadId) (p : Placement), s.hou.heads[h].placement = some p → 1 ≤ p.lag ∧ p.lag ≤ 60
  /-- The heads of a context that runs or is pending are placed within the lags (R166 checks 2, 4 and 5). -/
  fitted : ∀ (k : SlotId) (c : Context) (h : HeadId), s.slots[k] = some c →
    (c.state = .active ∨ c.state = .draining ∨ ¬NotPending k s) → c.assignments[h].isSome = true →
    ∃ p, s.hou.heads[h].placement = some p ∧ p.lag ≤ s.st.merge ∧ p.lag + 2 ≤ s.st.gateLag
  /-- An outstanding order is for an ORDERED set of the ring, issued at the last boundary or the one before (R82, R83). -/
  outstanding : ∀ (h : HeadId) (o : Order), o ∈ s.hou.heads[h].queue → ∃ (p : Placement) (r : SetRecord),
    s.hou.heads[h].placement = some p ∧ p.lag + 2 ≤ s.st.gateLag ∧ r ∈ s.st.ring ∧ r.tag = o.tag ∧
    r.heads[h] = .ordered ∧ (tagAge s o.tag + 1 = p.lag ∨ tagAge s o.tag = p.lag)
  /-- A head's queue stands oldest first, no two orders for one set (R82). -/
  issued : ∀ h : HeadId, (s.hou.heads[h].queue.map fun o => tagAge s o.tag).Pairwise fun a b => b < a
  /-- A waiting order is outstanding, and carries the boundary it was issued at (R85). -/
  waiting : ∀ w ∈ s.hou.transmit, w.order ∈ s.hou.heads[w.head].queue ∧ ∃ p : Placement,
    s.hou.heads[w.head].placement = some p ∧ w.boundary = w.order.tag + BitVec.ofNat 32 (p.lag - 1)
  /-- The transmit queue stands by issue boundary, and by head number within one boundary (R86). -/
  sending : s.hou.transmit.Pairwise fun a b =>
    tagAge s b.boundary < tagAge s a.boundary ∨ a.boundary = b.boundary ∧ a.head < b.head

end Sys2Proof.Machine
end

