-- ==== Sys2Proof/Certificates/Slice0/Obligations.lean ====
section
/-! DEFINITION. The statements for the provers. -/

open Sys2Proof Sys2Proof.Machine

/-! ## The queue of commands -/

/-- A step runs the command at the front of the queue on the state with the queue's rest. -/
def Obligations.StepRunsFrontCommand : Prop :=
  ∀ (c : Instr) (rest : List Instr) (s : State),
    step { s with pending := c :: rest } = exec c { s with pending := rest }

/-- Every command answers a next state with the queue as it was. -/
def Obligations.EveryCommandCompletes : Prop :=
  ∀ (c : Instr) (s : State), ∃ t, exec c s = .next t ∧ t.pending = s.pending

/-! ## Device reset -/

/-- DEVICE_RESET leaves every field at its table's value, the levels on the pins at the given ones, and each port in the
role its two strap lines name; of several strapped SUPERVISOR only the lowest-lettered one takes it.
The largest deficit is the model's field (log 17). -/
def Obligations.DeviceResetValues : Prop :=
  ∀ (lv : BitVec 24) (s : State), ∃ t, exec (.deviceReset lv) s = .next t ∧
    t.wpu = { repeatLength := 10000, tolerance := 16, position := 0, cycle := 0, direction := Direction.forward, reversal := false,
              backed := false, deficit := 0, episodeMax := 0, far := false, interval := 65535, edgeAge := 65535,
              reference := none, indexPending := .none, opening := none } ∧
    (t.mtu.state = .idle ∧ t.mtu.cycle = 0 ∧ t.mtu.armed = none ∧ t.mtu.judged = none ∧ t.mtu.last = none ∧
      t.mtu.faults = 0 ∧ t.mtu.stopCount = 0 ∧ ∀ k : ChannelId, t.mtu.hits[k] = [] ∧ t.mtu.dropped[k] = false) ∧
    (t.st.merge = 0 ∧ t.st.inspect = 0 ∧ t.st.gateLag = 0 ∧ t.st.runOpen = false ∧ t.st.ring = [] ∧
      t.st.gateClose = 1000 ∧ ∀ k : LaneId, t.st.gates[k] = .released) ∧
    (t.background = .none ∧ t.activation = none ∧ ∀ k : SlotId, t.slots[k] = none) ∧
    ((∀ h : HeadId, t.hou.heads[h] = { placement := none, device := .offline, queue := [], issued := 0, printed := 0,
                                       failed := 0, late := 0 }) ∧
      t.hou.transmit = [] ∧ t.hou.sending = none ∧ t.hou.receiver = .hunting) ∧
    (t.ij.records = [] ∧ t.ij.next = 0 ∧ t.ij.tail = none ∧ t.ij.reserved = 0 ∧ t.ij.deferred = [] ∧
      ∀ k : SlotId, t.ij.contextReserved[k] = 0) ∧
    (t.lm.stops = 0 ∧ ∀ i : LineId, t.lm.lines[i] = { function := .genIn, pullUp := true, latch := false,
                                                      level := lv.getLsbD i }) ∧
    (∀ p : PortId, t.ports[p].receiver = .hunting ∧ t.ports[p].buffer = [] ∧ t.ports[p].subscription = 0 ∧
      t.ports[p].out = [] ∧ t.ports[p].overrun = false ∧ t.ports[p].dropped = false ∧ t.ports[p].sending = none) ∧
    (let one := fun (q : PortId) => lv.getLsbD (2 * q)
     let two := fun (q : PortId) => lv.getLsbD (2 * q + 1)
     ∀ p : PortId, t.ports[p].role =
       match one p, two p with
       | false, false => .monitor
       | false, true => .inspect
       | true, false => .drive
       | true, true => if ∃ q, q < p ∧ one q = true ∧ two q = true then .monitor else .supervisor) ∧
    t.pending = s.pending

/-! ## The web -/

/-- A forward counted edge that takes no boundary raises the position by one; a gate whose release point it reaches is
released, and an open measurement follows the position. -/
def Obligations.ForwardEdgeCounts : Prop :=
  ∀ (s : State) (i j : LineId) (r : Levels),
    lineOf s .encA = some i → lineOf s .encB = some j → s.wpu.reference = some r → s.wpu.backed = false →
    s.wpu.position + 1 < s.wpu.repeatLength + (if holdsFunction s .index then s.wpu.tolerance else 0) →
    ∃ t, exec (.encoderTransition (!r.b) r.a) s = .next t ∧
      t.wpu = { s.wpu with
        position := s.wpu.position + 1, interval := s.wpu.edgeAge, edgeAge := 0,
        reversal := decide (s.wpu.direction ≠ Direction.forward), direction := Direction.forward, reference := some ⟨!r.b, r.a⟩ } ∧
      t.slots = s.slots ∧ t.hou = s.hou ∧ t.ij = s.ij ∧ t.background = s.background ∧ t.activation = s.activation ∧
      t.st = { s.st with ring := t.st.ring, gates := t.st.gates } ∧
      t.st.ring.map SetRecord.tag = s.st.ring.map SetRecord.tag ∧
      (∀ k : LaneId, t.st.gates[k] =
        match s.st.gates[k] with
        | .asserted tag (some at_) => if at_ ≤ s.wpu.position + 1 then .released else .asserted tag (some at_)
        | .asserted tag none => .asserted tag none
        | .released => .released) ∧
      t.mtu = (followMeasurement { s with wpu := t.wpu }).mtu ∧ t.pending = s.pending

/-- A forward counted edge that reaches RL plus the tolerance with INDEX held, or RL without, takes a boundary. The position
after an INDEXLESS one taken above RL is that of R36 (log 34). -/
def Obligations.ForwardEdgeTakesBoundary : Prop :=
  ∀ (s : State) (i j : LineId) (r : Levels),
    lineOf s .encA = some i → lineOf s .encB = some j → s.wpu.reference = some r → s.wpu.backed = false →
    s.wpu.repeatLength + (if holdsFunction s .index then s.wpu.tolerance else 0) ≤ s.wpu.position + 1 →
    ∃ t, exec (.encoderTransition (!r.b) r.a) s = .next t ∧
      t.wpu = { s.wpu with
        cycle := s.wpu.cycle + 1, position := s.wpu.position + 1 - s.wpu.repeatLength,
        opening := some (if holdsFunction s .index then .synthetic else .indexless),
        indexPending := if holdsFunction s .index then .afterSynthetic else .none,
        interval := s.wpu.edgeAge, edgeAge := 0, reversal := decide (s.wpu.direction ≠ Direction.forward),
        direction := Direction.forward, reference := some ⟨!r.b, r.a⟩ } ∧
      t.pending = s.pending

/-- A reverse counted edge within the cycle lowers the position; at position 0 the web becomes BACKED. That no gate is
released, though a gate of a SYNTHETIC boundary may stand past its release point, is the reading of R122 in log 18.
The largest deficit is the model's field (log 17). -/
def Obligations.ReverseEdgeCounts : Prop :=
  ∀ (s : State) (i j : LineId) (r : Levels),
    lineOf s .encA = some i → lineOf s .encB = some j → s.wpu.reference = some r → s.wpu.backed = false →
    ∃ t, exec (.encoderTransition r.b (!r.a)) s = .next t ∧
      t.wpu = (let w := { s.wpu with
          interval := s.wpu.edgeAge, edgeAge := 0, reversal := decide (s.wpu.direction ≠ Direction.reverse),
          direction := Direction.reverse, reference := some ⟨r.b, !r.a⟩ }
        if 0 < s.wpu.position then { w with position := s.wpu.position - 1 }
        else { w with backed := true, deficit := 1, episodeMax := 1, far := false }) ∧
      t.slots = s.slots ∧ t.hou = s.hou ∧ t.ij = s.ij ∧ t.st.gates = s.st.gates ∧
      t.mtu = (if 0 < s.wpu.position then (followMeasurement { s with wpu := t.wpu }).mtu else s.mtu) ∧
      t.pending = s.pending

/-- While BACKED a counted edge changes the deficit alone, and the forward edge that clears it ends BACKED.
The largest deficit is the model's field (log 17). -/
def Obligations.BackedEdgesCountDeficit : Prop :=
  ∀ (s : State) (i j : LineId) (r : Levels),
    lineOf s .encA = some i → lineOf s .encB = some j → s.wpu.reference = some r → s.wpu.backed = true →
    (∃ t, exec (.encoderTransition r.b (!r.a)) s = .next t ∧
      t.wpu = { s.wpu with
        deficit := min 65535 (s.wpu.deficit + 1), episodeMax := max s.wpu.episodeMax (min 65535 (s.wpu.deficit + 1)),
        far := decide (s.wpu.far = true ∨ 65535 ≤ s.wpu.deficit + 1),
        interval := s.wpu.edgeAge, edgeAge := 0, reversal := decide (s.wpu.direction ≠ Direction.reverse),
        direction := Direction.reverse, reference := some ⟨r.b, !r.a⟩ } ∧
      t.st = s.st ∧ t.mtu = s.mtu ∧ t.slots = s.slots ∧ t.hou = s.hou ∧ t.ij = s.ij ∧ t.pending = s.pending) ∧
    (1 < s.wpu.deficit → ∃ t, exec (.encoderTransition (!r.b) r.a) s = .next t ∧
      t.wpu = { s.wpu with
        deficit := s.wpu.deficit - 1, interval := s.wpu.edgeAge, edgeAge := 0,
        reversal := decide (s.wpu.direction ≠ Direction.forward), direction := Direction.forward, reference := some ⟨!r.b, r.a⟩ } ∧
      t.st = s.st ∧ t.mtu = s.mtu ∧ t.slots = s.slots ∧ t.hou = s.hou ∧ t.ij = s.ij ∧ t.ports = s.ports) ∧
    (s.wpu.deficit = 1 → ∃ t, exec (.encoderTransition (!r.b) r.a) s = .next t ∧
      t.wpu = { s.wpu with
        backed := false, position := 0, deficit := 0, episodeMax := 0, far := false, indexPending := .afterRecovery,
        interval := s.wpu.edgeAge, edgeAge := 0, reversal := decide (s.wpu.direction ≠ Direction.forward),
        direction := Direction.forward, reference := some ⟨!r.b, r.a⟩ } ∧
      t.st = s.st ∧ t.mtu = s.mtu ∧ t.slots = s.slots ∧ t.hou = s.hou ∧ t.ij = s.ij ∧ t.pending = s.pending)

/-- A transition of both lines is not counted: the reference follows, and each subscribed port with room gets
ENCODER_ERROR with the reference and the new levels.
Four flag bytes for the levels are the model's reading (log 15). -/
def Obligations.InvalidTransitionReported : Prop :=
  ∀ (s : State) (i j : LineId) (r : Levels),
    lineOf s .encA = some i → lineOf s .encB = some j → s.wpu.reference = some r →
    ∃ t, exec (.encoderTransition (!r.a) (!r.b)) s = .next t ∧
      t.wpu = { s.wpu with reference := some ⟨!r.a, !r.b⟩ } ∧
      t.st = s.st ∧ t.mtu = s.mtu ∧ t.slots = s.slots ∧ t.hou = s.hou ∧ t.ij = s.ij ∧ t.pending = s.pending ∧
      ∀ p : PortId, s.ports[p].subscription.getLsbD 0 = true → s.ports[p].noticeCount < 8 →
        t.ports[p].out = s.ports[p].out ++
          [{ response := false,
             body := [0xE0, 0] ++ be 4 s.wpu.cycle.toNat ++
               [flagByte r.a, flagByte r.b, flagByte (!r.a), flagByte (!r.b)] }]

/-- An index edge, taken while FORWARD and not BACKED, is judged by the rows of R41's table. Otherwise it is ignored, and
nothing changes but the level of the line that holds INDEX, which is then 1. INDEX_EDGE as a rising edge of that line is the
model's choice (log 11). A position above RL plus the tolerance, which no row of R41 covers, is left out (log 28). -/
def Obligations.IndexEdgeJudged : Prop :=
  ∀ s : State, holdsFunction s .index = true →
    (s.wpu.direction = Direction.forward → s.wpu.backed = false →
      s.wpu.repeatLength ≤ s.wpu.position + s.wpu.tolerance → s.wpu.position ≤ s.wpu.repeatLength + s.wpu.tolerance →
      ∃ t, exec .indexEdge s = .next t ∧
        t.wpu = { s.wpu with cycle := s.wpu.cycle + 1, position := 0, opening := some .normal, indexPending := .none }) ∧
    (s.wpu.direction = Direction.forward → s.wpu.backed = false →
      s.wpu.position + s.wpu.tolerance < s.wpu.repeatLength → s.wpu.position ≤ s.wpu.tolerance →
      s.wpu.indexPending ≠ .none →
      ∃ t, exec .indexEdge s = .next t ∧ t.wpu = { s.wpu with position := 0, indexPending := .none } ∧
        t.slots = s.slots ∧ t.hou = s.hou ∧ t.ij = s.ij) ∧
    (s.wpu.direction = Direction.forward → s.wpu.backed = false →
      s.wpu.position + s.wpu.tolerance < s.wpu.repeatLength →
      (s.wpu.tolerance < s.wpu.position ∨ s.wpu.indexPending = .none) →
      ∃ t, exec .indexEdge s = .next t ∧
        t.wpu = { s.wpu with cycle := s.wpu.cycle + 1, position := 0, opening := some .early, indexPending := .none }) ∧
    ((s.wpu.direction = Direction.reverse ∨ s.wpu.backed = true) →
      exec .indexEdge s = .next (showDriven .index true s))

/-- EDGE_AGE_TICK raises the edge age alone. A change of level on a line that no block hears changes that level alone; where
one block hears it, it is that block's event.
The edge commands as rising edges of the holding line are the model's choice (log 11). -/
def Obligations.LevelsAndTicks : Prop :=
  (∀ s : State, exec .edgeAgeTick s = .next { s with wpu := { s.wpu with edgeAge := min 65535 (s.wpu.edgeAge + 1) } }) ∧
  ∀ (s : State) (i : LineId) (v : Bool), LinesUnique s → s.lm.lines[i].level ≠ v →
    (s.lm.lines[i].function = .genIn ∨ s.lm.lines[i].function.isOutput = true →
      exec (.fieldLineLevelChange i v) s =
        .next { s with lm := { s.lm with lines := s.lm.lines.set i { s.lm.lines[i] with level := v } } }) ∧
    (s.lm.lines[i].function = .index → v = true → exec (.fieldLineLevelChange i v) s = exec .indexEdge s) ∧
    (∀ k : ChannelId, s.lm.lines[i].function = .mark k → v = true →
      exec (.fieldLineLevelChange i v) s = exec (.markEdge k) s) ∧
    (∀ j : LineId, s.lm.lines[i].function = .encA → s.lm.lines[j].function = .encB →
      exec (.fieldLineLevelChange i v) s = exec (.encoderTransition v s.lm.lines[j].level) s) ∧
    (∀ j : LineId, s.lm.lines[i].function = .encB → s.lm.lines[j].function = .encA →
      exec (.fieldLineLevelChange i v) s = exec (.encoderTransition s.lm.lines[j].level v) s)

/-! ## Registration -/

/-- A mark edge while FORWARD and not BACKED is placed and collected while COLLECTING, and closes the measurement when it
fills the last buffer; it is dropped when its buffer holds four, and ignored when no measurement collects.
MARK_EDGE as a rising edge of the line that holds MARK is the model's choice (log 11). -/
def Obligations.MarkEdgeCollected : Prop :=
  ∀ (s : State) (k : ChannelId), holdsFunction s (.mark k) = true →
    s.wpu.direction = Direction.forward → s.wpu.backed = false →
    let coarse := decide (s.wpu.interval = 0 ∨ s.wpu.interval = 65535 ∨ s.wpu.reversal = true)
    let place := 8 * s.wpu.position + (if coarse then 0 else min 7 (8 * s.wpu.edgeAge / s.wpu.interval))
    let raised : LineMatrix := { s.lm with
      lines := mapTable (fun l => if l.function = .mark k then { l with level := true } else l) s.lm.lines }
    (∀ a : Armed, s.mtu.state = .collecting → s.mtu.armed = some a → a.settings.channels[k].isSome = true →
      s.mtu.hits[k].length < 4 →
      let hits := s.mtu.hits.set k (s.mtu.hits[k] ++ [{ place := place, coarse := coarse }])
      let joined : State := { s with lm := raised, mtu := { s.mtu with hits := hits } }
      ((∃ (j : ChannelId) (m : ChannelMarks), a.settings.channels[j] = some m ∧ hits[j].length < m.positions.length) →
        exec (.markEdge k) s = .next joined) ∧
      ((∀ (j : ChannelId) (m : ChannelMarks), a.settings.channels[j] = some m → m.positions.length ≤ hits[j].length) →
        exec (.markEdge k) s = .next (closeMeasurement .full joined))) ∧
    (∀ a : Armed, s.mtu.state = .collecting → s.mtu.armed = some a → a.settings.channels[k].isSome = true →
      4 ≤ s.mtu.hits[k].length →
      exec (.markEdge k) s = .next { s with lm := raised, mtu := { s.mtu with dropped := s.mtu.dropped.set k true } }) ∧
    (∀ a : Armed, s.mtu.armed = some a → a.settings.channels[k] = none →
      exec (.markEdge k) s = .next { s with lm := raised }) ∧
    (s.mtu.state ≠ .collecting → exec (.markEdge k) s = .next { s with lm := raised })

/-- A channel with fewer hits than positions is MISSING, else with a dropped or left-over hit EXTRA, else with an error
outside the tolerance OUT_OF_TOLERANCE, else OK; error i is hit i less position i, folded modulo 8 RL. A channel that is
not enabled is NOT_ENABLED. -/
def Obligations.ChannelJudgement : Prop :=
  (∀ (rl : Nat) (hits : List Hit) (dropped : Bool),
    judgeChannel rl none hits dropped = { status := .notEnabled, errors := [], hits := hits.length }) ∧
  ∀ (rl : Nat) (m : ChannelMarks) (hits : List Hit) (dropped : Bool), 0 < rl →
    let c := judgeChannel rl (some m) hits dropped
    c.hits = hits.length ∧ c.errors.length = min hits.length m.positions.length ∧
    (∀ (i : Nat) (e : PairError), c.errors[i]? = some e → ∃ (h : Hit) (expected : Nat),
      hits[i]? = some h ∧ m.positions[i]? = some expected ∧ e.coarse = h.coarse ∧
      -(4 * (rl : Int)) ≤ e.error ∧ e.error < 4 * rl ∧ (e.error - ((h.place : Int) - expected)) % (8 * rl) = 0) ∧
    (hits.length < m.positions.length → c.status = .missing) ∧
    (m.positions.length ≤ hits.length → (dropped = true ∨ m.positions.length < hits.length) → c.status = .extra) ∧
    (m.positions.length = hits.length → dropped = false →
      ((∃ e ∈ c.errors, (m.tolerance : Int) < |e.error|) → c.status = .outOfTolerance) ∧
      ((∀ e ∈ c.errors, |e.error| ≤ (m.tolerance : Int)) → c.status = .ok))

/-- A close makes the registration record, passes its verdict on the judged set, moves the consecutive-fault counter, and on
a faulty close sends REG_FAULT and latches REG_RUN once the counter has reached K. An open measurement follows the position,
and closes where it reaches the close position. A boundary closes an open measurement and arms the next one from the set at
the merge point, else from the ACTIVE context.
The layout of REG_FAULT is the model's reading (log 15). -/
def Obligations.MeasurementClosesAndArms : Prop :=
  (∀ (cause : CloseCause) (s : State) (a : Armed), s.mtu.armed = some a →
    let results : Vector ChannelResult 6 := tabulate fun k =>
      judgeChannel s.wpu.repeatLength a.settings.channels[k] s.mtu.hits[k] s.mtu.dropped[k]
    let faulty := decide (∃ k : ChannelId, results[k].status ≠ .ok ∧ results[k].status ≠ .notEnabled)
    let count := if faulty then min 255 (s.mtu.faults + 1) else 0
    let record : RegRecord :=
      { cycle := s.mtu.cycle, judged := s.mtu.judged, slot := a.slot, cause := cause, channels := results, faulty := faulty,
        counterAfter := count }
    let t := closeMeasurement cause s
    t.mtu = { s.mtu with state := .closed, last := some record, faults := count } ∧
    t.st = { s.st with
      ring := s.st.ring.map fun r =>
        if s.mtu.judged = some r.tag then
          { r with
            registration := if faulty then .fault else .ok,
            lanes :=
              if faulty then
                r.lanes.map fun x =>
                  { x with reasons := x.reasons ||| 8,
                           primary := if x.reasons = 0 then some .registration else x.primary }
              else r.lanes }
        else r } ∧
    t.lm.stops =
      (if faulty = true ∧ 1 ≤ s.mtu.stopCount ∧ s.mtu.stopCount ≤ count then s.lm.stops ||| 4 else s.lm.stops) ∧
    (faulty = false → t.ports = s.ports ∧ t.lm = s.lm) ∧
    (faulty = true → ∀ p : PortId, s.ports[p].subscription.getLsbD 2 = true → s.ports[p].subscription.getLsbD 5 = false →
      s.ports[p].noticeCount < 8 →
      t.ports[p].out = s.ports[p].out ++
        [{ response := false,
           body := [0xE9, 0] ++ be 4 s.wpu.cycle.toNat ++ be 4 s.mtu.cycle.toNat ++
             (match s.mtu.judged with
               | some j => 1 :: be 4 j.toNat
               | none => [0]) ++
             (match cause with
               | .position => 0
               | .full => 1
               | .boundary => 2) :: (results.toList.map fun c => c.status.code) ++ [byte count] }]) ∧
    t.wpu = s.wpu ∧ t.slots = s.slots ∧ t.hou = s.hou ∧ t.ij = s.ij ∧ t.background = s.background ∧
      t.activation = s.activation ∧ t.pending = s.pending) ∧
  (∀ (s : State) (a : Armed), s.mtu.armed = some a → s.mtu.state = .masked ∨ s.mtu.state = .collecting →
    let moved : State := { s with mtu := { s.mtu with
      state := if a.settings.maskEnd ≤ s.wpu.position then .collecting else .masked } }
    (a.settings.closeAt < s.wpu.repeatLength → a.settings.closeAt ≤ s.wpu.position →
      followMeasurement s = closeMeasurement .position moved) ∧
    (s.wpu.repeatLength ≤ a.settings.closeAt ∨ s.wpu.position < a.settings.closeAt → followMeasurement s = moved)) ∧
  (∀ s : State, s.mtu.state = .idle ∨ s.mtu.state = .closed → followMeasurement s = s) ∧
  ∀ s : State,
    let u := if s.mtu.state = .masked ∨ s.mtu.state = .collecting then closeMeasurement .boundary s else s
    let armed : Option Armed :=
      match setAtAge u u.st.merge with
      | some r => u.slots[r.slot].map fun c => { slot := r.slot, settings := c.marks }
      | none =>
        match activeSlot u with
        | some k => u.slots[k].map fun c => { slot := k, settings := c.marks }
        | none => none
    measureBoundary s = { u with mtu := { u.mtu with
      state :=
        match armed with
        | some a =>
          if ∃ k : ChannelId, a.settings.channels[k].isSome = true then
            if u.wpu.position < a.settings.maskEnd then .masked else .collecting
          else .idle
        | none => .idle
      cycle := u.wpu.cycle, armed := armed, judged := (setAtAge u u.st.merge).map SetRecord.tag,
      hits := tabulate fun _ => [], dropped := tabulate fun _ => false } }

/-! ## Numbers -/

/-- A draw on a LIVE sequence yields V when V lies in bounds, in none of the ranges and, under M11, has a printable check;
else the first such value of V + S, V + 2S, … before the bounds, under WRAP then of F, F + S, …; else it fails. What it
yields is always such a value. An EXHAUSTED sequence fails. More passes than drawFuel change nothing: that bound is the
model's (log 21). -/
def Obligations.DrawFindsAllowedValue : Prop :=
  ∀ (q : Sequence) (ranges : List Exclusion),
    let inside := fun (c : Int) => min (q.first : Int) q.last ≤ c ∧ c ≤ max (q.first : Int) q.last
    let allowed := fun (c : Int) => (∀ r ∈ ranges, ¬((r.low : Int) ≤ c ∧ c ≤ r.high)) ∧
      ¬(q.scheme = .m11 ∧ checkM11 q.digits c.toNat = 10)
    let passed := fun (a : Int) (k : Nat) => ∀ j < k, inside (a + j * q.step) ∧ ¬allowed (a + j * q.step)
    (∀ (v : Nat) (w : Bool), q.draw ranges = .yields v w →
      q.state = .live ∧ inside v ∧ allowed v ∧ (w = true → q.policy = .wrap)) ∧
    (q.state = .exhausted → q.draw ranges = .fails) ∧
    (q.step ≠ 0 → ∀ n : Nat, q.search ranges (q.drawFuel + n) q.value false = q.search ranges q.drawFuel q.value false) ∧
    (q.state = .live → q.step ≠ 0 → ∀ k : Nat, passed q.value k →
      let c := q.value + k * q.step
      (inside c → allowed c → q.draw ranges = .yields c.toNat false) ∧
      (¬inside c → q.policy = .halt → q.draw ranges = .fails) ∧
      (¬inside c → q.policy = .wrap → ∀ m : Nat, passed q.first m →
        let d := (q.first : Int) + m * q.step
        (inside d → allowed d → q.draw ranges = .yields d.toNat true) ∧ (¬inside d → q.draw ranges = .fails)))

/-- The check characters of a value of D digits: W31 and M11 from its weighted digits, rightmost first, M7 from the value
itself; a value yielded under M11 has a check of 0 to 9. -/
def Obligations.CheckCharacters : Prop :=
  (∀ d v : Nat, d ≤ 10 →
    checkOf .w31 d v = some ((10 - (∑ i ∈ Finset.range d, (if i % 2 = 0 then 3 else 1) * (v / 10 ^ i % 10)) % 10) % 10) ∧
    checkOf .m11 d v = some ((11 - (∑ i ∈ Finset.range d, (2 + i % 6) * (v / 10 ^ i % 10)) % 11) % 11) ∧
    checkOf .m7 d v = some (v % 7) ∧ checkOf .none d v = none) ∧
  ∀ (q : Sequence) (ranges : List Exclusion) (v : Nat) (w : Bool), q.scheme = .m11 → q.draw ranges = .yields v w →
    ∃ c, checkOf .m11 q.digits v = some c ∧ c ≤ 9

/-- DEFINE_SEQUENCE, LOAD_VALUE, ADD_EXCLUSION and REMOVE_EXCLUSION. A response stands ahead of the notices its request makes
(log 12). -/
def Obligations.SequencesAndExclusionsEdited : Prop :=
  (∀ (p : PortId) (s : State) (k : SlotId) (q : SeqId) (d f l : Nat) (step : Int) (po sc : Nat) (e : EndPolicy)
      (h : CheckScheme) (c : Context),
    1 ≤ d → d ≤ 10 → f ≤ 9999999999 → l ≤ 9999999999 → step ≠ 0 → -999 ≤ step → step ≤ 999 →
    (po = 0 ∧ e = .halt ∨ po = 1 ∧ e = .wrap) →
    (sc = 0 ∧ h = .none ∨ sc = 1 ∧ h = .w31 ∨ sc = 2 ∧ h = .m11 ∨ sc = 3 ∧ h = .m7) →
    s.slots[k] = some c → c.state = .building → busySlotOf s.background ≠ some k →
    AcceptedAs p (.defineSequence p k q d f l step po sc) []
      (fun s => { s with slots := s.slots.set k (some { c with
        sequences := c.sequences.set q (some
          { state := .live, digits := d, first := f, last := l, step := step, value := f, policy := e, scheme := h,
            wraps := 0, drawn := 0, issued := 0, voided := 0, queued := 0, held := 0, queue := [] }),
        exclusions := c.exclusions.filter fun r => r.sequence ≠ q }) }) s) ∧
  (∀ (p : PortId) (s : State) (k : SlotId) (q : SeqId) (v : Int) (c : Context) (x : Sequence),
    s.slots[k] = some c → (c.state = .ready ∨ c.state = .parked) → NotPending k s →
    busySlotOf s.background ≠ some k → c.sequences[q] = some x → x.queue = [] →
    -549755813888 ≤ v → v ≤ 549755813887 → min (x.first : Int) x.last ≤ v → v ≤ max (x.first : Int) x.last →
    1 ≤ s.ij.unreserved →
    AcceptedAs p (.loadValue p k q v) []
      (fun s => journalUnreserved k c.job s.wpu.cycle (.valueLoaded q x.value v)
        { s with slots := s.slots.set k (some { c with
          sequences := c.sequences.set q (some { x with value := v, state := .live }) }) }) s) ∧
  (∀ (p : PortId) (s : State) (k : SlotId) (q : SeqId) (a b : Nat) (c : Context) (x : Sequence),
    s.slots[k] = some c → c.state ≠ .draining → c.sequences[q] = some x →
    a ≤ b → min x.first x.last ≤ a → b ≤ max x.first x.last → b ≤ 9999999999 →
    (∀ r ∈ c.exclusions, r.sequence = q → b < r.low ∨ r.high < a) → c.exclusions.length < 16 →
    (c.state = .building ∨ 1 ≤ s.ij.unreserved) →
    AcceptedAs p (.addExclusion p k q a b) []
      (fun s =>
        let s1 := if c.state = .building then s else journalUnreserved k c.job s.wpu.cycle (.exclusionAdded q a b) s
        makeStale k q { s1 with slots := s1.slots.set k (some { c with
          exclusions := insertRange { sequence := q, low := a, high := b } c.exclusions }) }) s) ∧
  (∀ (p : PortId) (s : State) (k : SlotId) (q : SeqId) (a : Nat) (c : Context) (x : Sequence) (r : Exclusion),
    s.slots[k] = some c → c.state = .building → c.sequences[q] = some x → a ≤ 9999999999 →
    c.exclusions.find? (fun r => r.sequence == q && r.low == a) = some r →
    AcceptedAs p (.removeExclusion p k q a) []
      (fun s => makeStale k q { s with slots := s.slots.set k (some { c with
        exclusions := c.exclusions.eraseP fun r => r.sequence == q && r.low == a }) }) s)

/-- Where ADD_EXCLUSION puts a range: a sorted table stays sorted by sequence and lower end and gains that range alone. Every
step keeps every slot's table sorted, its ranges apart and within their sequence's bounds, and at 16 ranges or fewer. -/
def Obligations.ExclusionTablesStaySorted : Prop :=
  (∀ (r : Exclusion) (l : List Exclusion),
    l.Pairwise (fun a b => a.sequence < b.sequence ∨ a.sequence = b.sequence ∧ a.low < b.low) →
    (∀ t ∈ l, t.sequence = r.sequence → t.low ≠ r.low) →
    (insertRange r l).Pairwise (fun a b => a.sequence < b.sequence ∨ a.sequence = b.sequence ∧ a.low < b.low) ∧
    (insertRange r l).Perm (r :: l)) ∧
  ∀ s t : State, step s = .next t → ExclusionsSound s → ExclusionsSound t

/-- WITHDRAW_REPRINT of a queued value, and of one that is not queued.
The outcome codes are free (log 16). The response stands ahead of a STOP_STATE it makes (log 12). -/
def Obligations.ReprintWithdrawn : Prop :=
  ∀ (p : PortId) (s : State) (k : SlotId) (q : SeqId) (v : Nat) (c : Context) (x : Sequence),
    s.slots[k] = some c → c.sequences[q] = some x → v ≤ 9999999999 →
    (∀ e : QueueEntry, x.queue.find? (fun e => e.value == v) = some e → 1 ≤ s.ij.unreserved →
      AcceptedAs p (.withdrawReprint p k q v)
        (Config.withdrawOutcomeCode true :: byte e.spoil :: e.reason.code :: be 4 e.tag.toNat ++
          [flagByte (decide (x.queue.length = 1))])
        (fun s => journalUnreserved k c.job s.wpu.cycle (.voidedQueued q e.value .withdrawn e.reason e.spoil)
          { s with slots := s.slots.set k (some { c with
            sequences := c.sequences.set q (some { x with
              queued := x.queued - 1, voided := x.voided + 1,
              queue := x.queue.eraseP fun e => e.value == v }) }) }) s) ∧
    ((∀ e ∈ x.queue, e.value ≠ v) →
      AcceptedAs p (.withdrawReprint p k q v) [Config.withdrawOutcomeCode false] id s)

/-! ## Background operations -/

/-- PROBE_SEQUENCE, SKIP_AHEAD and CANCEL_BACKGROUND.
The answer of CANCEL_BACKGROUND is laid out by log 27, and stands ahead of its own notice by log 12. -/
def Obligations.BackgroundStartedAndCancelled : Prop :=
  (∀ (p : PortId) (s : State) (k : SlotId) (q : SeqId) (n : Nat) (c : Context) (x : Sequence),
    1 ≤ n → n ≤ 65535 → s.slots[k] = some c → busySlotOf s.background = none → c.sequences[q] = some x →
    AcceptedAs p (.probeSequence p k q n) []
      (fun s =>
        let b : Probe := { slot := k, sequence := q, count := n, copy := x,
                           ranges := c.exclusions.filter fun r => r.sequence == q,
                           draws := 0, wraps := 0, stale := false, ended := none }
        { s with background := .probe b }) s) ∧
  (∀ (p : PortId) (s : State) (k : SlotId) (q : SeqId) (n : Nat) (c : Context) (x : Sequence),
    1 ≤ n → n ≤ 65535 → s.slots[k] = some c → (c.state = .ready ∨ c.state = .parked) → NotPending k s →
    busySlotOf s.background = none → c.sequences[q] = some x →
    AcceptedAs p (.skipAhead p k q n) []
      (fun s =>
        let b : Skip := { slot := k, sequence := q, count := n, remaining := n, voided := 0, next := x.value,
                          held := false, ended := none }
        { s with background := .skip b }) s) ∧
  (∀ (p : PortId) (s : State) (b : Probe), s.background = .probe b → b.ended = none →
    AcceptedAs p (.cancelBackground p) (backgroundBytes (.probe { b with ended := some .cancelled }))
      (fun s => notify .probeDone (probeDonePayload b .cancelled)
        { s with background := .probe { b with ended := some .cancelled } }) s) ∧
  (∀ (p : PortId) (s : State) (b : Skip), s.background = .skip b → b.ended = none →
    AcceptedAs p (.cancelBackground p)
      (backgroundBytes (.skip { b with held := false, ended := some .cancelled }))
      (fun s => notify .skipDone (skipDonePayload b .cancelled)
        { s with background := .skip { b with held := false, ended := some .cancelled } }) s)

/-- PROBE_DRAW on a RUNNING probe: one more draw on the copy, or the end COMPLETE or EXHAUSTED. -/
def Obligations.ProbeDrawsOnItsCopy : Prop :=
  ∀ (s : State) (b : Probe), s.background = .probe b → b.ended = none →
    (∀ (v : Nat) (w : Bool), b.copy.draw b.ranges = .yields v w →
      let b' := { b with
        copy := { b.copy with value := (v : Int) + b.copy.step, wraps := if w then b.copy.wraps + 1 else b.copy.wraps },
        draws := b.draws + 1, wraps := if w then b.wraps + 1 else b.wraps }
      (b.draws + 1 ≠ b.count → exec .probeDraw s = .next { s with background := .probe b' }) ∧
      (b.draws + 1 = b.count →
        exec .probeDraw s = .next (notify .probeDone (probeDonePayload b' (.complete v))
          { s with background := .probe { b' with ended := some (.complete v) } }))) ∧
    (b.copy.draw b.ranges = .fails →
      exec .probeDraw s = .next (notify .probeDone (probeDonePayload b (.exhausted b.draws))
        (let b' : Probe := { b with copy := { b.copy with state := .exhausted }, ended := some (.exhausted b.draws) }
         { s with background := .probe b' })))

/-- SKIP_DRAW on a RUNNING skip-ahead: a draw is journaled and voided, held for want of room, or ends EXHAUSTED; the last one
ends DONE.
SKIP_RESUME: a HELD skip-ahead becomes RUNNING exactly when an unreserved record is free. What the command does is log 8; a
STOP_STATE of the append ahead of SKIP_DONE is log 13. -/
def Obligations.SkipDrawsVoidValues : Prop :=
  (∀ (s : State) (b : Skip), s.background = .skip b → b.held = true → b.ended = none →
    (1 ≤ s.ij.unreserved → exec .skipResume s = .next { s with background := .skip { b with held := false } }) ∧
    (s.ij.unreserved = 0 → exec .skipResume s = .next s)) ∧
  ∀ (s : State) (b : Skip) (c : Context) (x : Sequence), s.background = .skip b → b.ended = none → b.held = false →
    s.slots[b.slot] = some c → c.sequences[b.sequence] = some x →
    let ranges := c.exclusions.filter fun r => r.sequence == b.sequence
    (∀ (v : Nat) (w : Bool), x.draw ranges = .yields v w →
      let record := RecordBody.voidRun b.sequence v v 1 x.step
      let x' : Sequence := { x with value := (v : Int) + x.step, wraps := if w then x.wraps + 1 else x.wraps,
                                    drawn := x.drawn + 1, voided := x.voided + 1 }
      let slots' := s.slots.set b.slot (some { c with sequences := c.sequences.set b.sequence (some x') })
      let b' : Skip := { b with remaining := b.remaining - 1, voided := b.voided + 1, next := (v : Int) + x.step }
      let going := fun (u : State) => ({ u with slots := slots', background := .skip b' } : State)
      let done := fun (u : State) => notify .skipDone (skipDonePayload b' .done)
        { u with slots := slots', background := .skip { b' with ended := some .done } }
      let appended := journalUnreserved b.slot c.job s.wpu.cycle record s
      (s.ij.merge b.slot c.job record = none → s.ij.unreserved = 0 →
        exec .skipDraw s = .next { s with background := .skip { b with held := true } }) ∧
      (s.ij.merge b.slot c.job record = none → 1 ≤ s.ij.unreserved →
        (2 ≤ b.remaining → exec .skipDraw s = .next (going appended)) ∧
        (b.remaining = 1 → exec .skipDraw s = .next (done appended))) ∧
      (∀ j : Journal, s.ij.merge b.slot c.job record = some j →
        (2 ≤ b.remaining → exec .skipDraw s = .next (going { s with ij := j })) ∧
        (b.remaining = 1 → exec .skipDraw s = .next (done { s with ij := j })))) ∧
    (x.draw ranges = .fails →
      let slots' := s.slots.set b.slot (some { c with
        sequences := c.sequences.set b.sequence (some { x with state := .exhausted }) })
      exec .skipDraw s = .next (notify .skipDone (skipDonePayload b .exhausted)
        { s with slots := slots', background := .skip { b with ended := some .exhausted } }))

/-! ## The press geometry -/

/-- OPEN_RUN and CLOSE_RUN in every state. SET_WEB, SET_LAGS, PLACE_HEAD, SET_REG_STOP and SET_GATE while nothing runs; with
parameters in range they are refused while a context is ACTIVE or DRAINING or an activation is pending.
An open measurement follows SET_WEB's position (log 30). -/
def Obligations.GeometrySetAndFrozen : Prop :=
  (∀ (p : PortId) (s : State),
    AcceptedAs p (.openRun p) [] (fun s => { s with st := { s.st with runOpen := true } }) s ∧
    AcceptedAs p (.closeRun p) [] (fun s => { s with st := { s.st with runOpen := false } }) s) ∧
  (∀ (p : PortId) (s : State), NothingRuns s →
    (∀ rl tol : Nat, 1000 ≤ rl → rl ≤ 60000 → tol ≤ 65535 →
      AcceptedAs p (.setWeb p rl tol) (be 2 rl ++ be 2 (min tol (rl / 4)))
        (fun s => followMeasurement { s with wpu := { s.wpu with
          repeatLength := rl, tolerance := min tol (rl / 4), position := 0, indexPending := .none, backed := false,
          deficit := 0, episodeMax := 0, far := false } }) s) ∧
    (∀ m q g : Nat, 1 ≤ m → m ≤ q → q + 2 ≤ g → g ≤ 127 →
      (∀ (h : HeadId) (x : Placement), s.hou.heads[h].placement = some x → x.lag ≤ m ∧ x.lag + 2 ≤ g) →
      AcceptedAs p (.setLags p m q g) [byte m, byte q, byte g]
        (fun s => { s with st := { s.st with merge := m, inspect := q, gateLag := g } }) s) ∧
    (∀ (h : HeadId) (l : LaneId) (ply lag : Nat), 1 ≤ ply → ply ≤ 6 → 1 ≤ lag → lag ≤ 60 →
      AcceptedAs p (.placeHead p h (some ⟨ply, l + 1, lag⟩)) [1, byte ply, byte (l + 1), byte lag]
        (fun s => { s with hou := { s.hou with
          heads := s.hou.heads.set h { s.hou.heads[h] with placement := some ⟨ply, l, lag⟩ } } }) s) ∧
    (∀ h : HeadId,
      AcceptedAs p (.placeHead p h none) [0]
        (fun s => { s with hou := { s.hou with
          heads := s.hou.heads.set h { s.hou.heads[h] with placement := none } } }) s) ∧
    (∀ n : Nat, n ≤ 15 →
      AcceptedAs p (.setRegStop p n) [byte n] (fun s => { s with mtu := { s.mtu with stopCount := n, faults := 0 } }) s) ∧
    (∀ n : Nat, 1 ≤ n → n ≤ 65535 →
      AcceptedAs p (.setGate p n) (be 2 n) (fun s => { s with st := { s.st with gateClose := n } }) s)) ∧
  (∀ (p : PortId) (s : State), ¬NothingRuns s →
    (∀ rl tol : Nat, 1000 ≤ rl → rl ≤ 60000 → tol ≤ 65535 → RefusedAs p (.setWeb p rl tol) .wrongState [] s) ∧
    (∀ m q g : Nat, 1 ≤ m → m ≤ 127 → 1 ≤ q → q ≤ 127 → 1 ≤ g → g ≤ 127 →
      RefusedAs p (.setLags p m q g) .wrongState [] s) ∧
    (∀ (h : HeadId) (l : LaneId) (ply lag : Nat), 1 ≤ ply → ply ≤ 6 → 1 ≤ lag → lag ≤ 60 →
      RefusedAs p (.placeHead p h (some ⟨ply, l + 1, lag⟩)) .wrongState [] s) ∧
    (∀ h : HeadId, RefusedAs p (.placeHead p h none) .wrongState [] s) ∧
    (∀ n : Nat, n ≤ 15 → RefusedAs p (.setRegStop p n) .wrongState [] s) ∧
    (∀ n : Nat, 1 ≤ n → n ≤ 65535 → RefusedAs p (.setGate p n) .wrongState [] s))

/-! ## Building a job -/

/-- DEFINE_ENTRY, TRIM_LIST, ASSIGN_HEAD, DEFINE_FORMAT, DEFINE_MARKS, SET_MARK_WINDOW and SET_INSPECTION on a context in
BUILDING. -/
def Obligations.BuildEdited : Prop :=
  ∀ (p : PortId) (s : State) (k : SlotId) (c : Context), s.slots[k] = some c → c.state = .building →
    (∀ (e : EntryId) (l : LaneId) (q : SeqId) (rf : Bool), (e : Nat) ≤ c.list.length →
      AcceptedAs p (.defineEntry p k e (l + 1) 0 q (if rf then 1 else 0)) []
        (fun s => { s with slots := s.slots.set k (some { c with
          list := if (e : Nat) < c.list.length then c.list.set e ⟨l, .fresh q rf⟩ else c.list ++ [⟨l, .fresh q rf⟩] }) }) s) ∧
    (∀ (e b : EntryId) (l : LaneId) (rf : Nat), (e : Nat) ≤ c.list.length →
      AcceptedAs p (.defineEntry p k e (l + 1) 1 b rf) []
        (fun s => { s with slots := s.slots.set k (some { c with
          list := if (e : Nat) < c.list.length then c.list.set e ⟨l, .repeated b⟩ else c.list ++ [⟨l, .repeated b⟩] }) }) s) ∧
    (∀ (e : EntryId) (l : LaneId) (source rf : Nat), (e : Nat) ≤ c.list.length →
      AcceptedAs p (.defineEntry p k e (l + 1) 2 source rf) []
        (fun s => { s with slots := s.slots.set k (some { c with
          list := if (e : Nat) < c.list.length then c.list.set e ⟨l, .blank⟩ else c.list ++ [⟨l, .blank⟩] }) }) s) ∧
    (∀ n : Nat, n ≤ 16 →
      AcceptedAs p (.trimList p k n) [byte (min n c.list.length)]
        (fun s => { s with slots := s.slots.set k (some { c with list := c.list.take n }) }) s) ∧
    (∀ (h : HeadId) (e : EntryId) (f : FormatId),
      AcceptedAs p (.assignHead p k h (some ⟨e, f⟩)) []
        (fun s => { s with slots := s.slots.set k (some { c with assignments := c.assignments.set h (some ⟨e, f⟩) }) }) s) ∧
    (∀ h : HeadId,
      AcceptedAs p (.assignHead p k h none) []
        (fun s => { s with slots := s.slots.set k (some { c with assignments := c.assignments.set h none }) }) s) ∧
    (∀ (f : FormatId) (raw : List RawItem) (items : List FormatItem), 1 ≤ raw.length → raw.length ≤ 6 →
      raw.map itemOf = items.map some →
      AcceptedAs p (.defineFormat p k f raw) []
        (fun s => { s with slots := s.slots.set k (some { c with formats := c.formats.set f (some items) }) }) s) ∧
    (∀ (ch : ChannelId) (ps : List Nat) (tol : Nat), 1 ≤ ps.length → ps.length ≤ 4 → (∀ x ∈ ps, x ≤ 479999) → tol ≤ 4095 →
      AcceptedAs p (.defineMarks p k (ch + 1) 1 ps tol) []
        (fun s => { s with slots := s.slots.set k (some { c with marks := { c.marks with
          channels := c.marks.channels.set ch (some ⟨ps, tol⟩) } }) }) s) ∧
    (∀ (ch : ChannelId) (ps : List Nat) (tol : Nat),
      AcceptedAs p (.defineMarks p k (ch + 1) 0 ps tol) []
        (fun s => { s with slots := s.slots.set k (some { c with marks := { c.marks with
          channels := c.marks.channels.set ch none } }) }) s) ∧
    (∀ m cl : Nat, m ≤ 65535 → 1 ≤ cl → cl ≤ 65535 →
      AcceptedAs p (.setMarkWindow p k m cl) []
        (fun s => { s with slots := s.slots.set k (some { c with marks := { c.marks with maskEnd := m, closeAt := cl } }) }) s) ∧
    (∀ (l : LaneId) (e : EntryId),
      AcceptedAs p (.setInspection p k (l + 1) e) []
        (fun s => { s with slots := s.slots.set k (some { c with inspection := c.inspection.set l (some e) }) }) s) ∧
    (∀ l : LaneId,
      AcceptedAs p (.setInspection p k (l + 1) 255) []
        (fun s => { s with slots := s.slots.set k (some { c with inspection := c.inspection.set l none }) }) s)

/-! ## Sets: reads, defects and rejections -/

/-- REPORT_READ and REPORT_DEFECT reach the lane of the set whose window is open.
The outcome codes are free (log 16). The response stands ahead of DEFECT_REPORTED (log 12). -/
def Obligations.ReadsAndDefectsReported : Prop :=
  ∀ (p : PortId) (s : State) (l : LaneId) (r : SetRecord) (part : LanePart),
    setAtAge s s.st.inspect = some r → r.lanes[(l : Nat)]? = some part →
    let write := fun (x : LanePart) (s : State) => modifySet r.tag (SetRecord.modifyLane l fun _ => x) s
    let outcome := fun (k : Fin 4) => be 4 r.tag.toNat ++ [byte (l + 1), Config.readOutcomeCode k]
    (∀ (ds : List Byte) (ch : Nat) (chk : Option Nat), 1 ≤ ds.length → ds.length ≤ 10 →
      (∀ b ∈ ds, 0x30 ≤ b.toNat ∧ b.toNat ≤ 0x39) → (ch = 0 ∧ chk = none ∨ ∃ d, d ≤ 9 ∧ ch = 0x30 + d ∧ chk = some d) →
      let good := ∃ n, inspectedNumber s r l = some n ∧ n.value = digitsValue ds ∧ n.check = chk
      let bad : LanePart := { inspection := .misread, reasons := part.reasons ||| 16,
                              primary := if part.reasons = 0 then some .misread else part.primary }
      (part.inspection = .notRequired → AcceptedAs p (.reportRead p (l + 1) ds ch) (outcome 0) (write part) s) ∧
      (part.inspection = .awaiting → good →
        AcceptedAs p (.reportRead p (l + 1) ds ch) (outcome 1) (write { part with inspection := .readOk }) s) ∧
      (part.inspection = .readOk → good → AcceptedAs p (.reportRead p (l + 1) ds ch) (outcome 3) (write part) s) ∧
      (part.inspection = .awaiting ∨ part.inspection = .readOk → ¬good →
        AcceptedAs p (.reportRead p (l + 1) ds ch) (outcome 2) (write bad) s) ∧
      (part.inspection = .misread → AcceptedAs p (.reportRead p (l + 1) ds ch) (outcome 2) (write part) s)) ∧
    (∀ d : Nat, 1 ≤ d → d ≤ 255 →
      AcceptedAs p (.reportDefect p (l + 1) d) (be 4 r.tag.toNat ++ [byte (l + 1)])
        (fun s => notify .defectReported (be 4 r.tag.toNat ++ [byte (l + 1), byte d])
          (modifySet r.tag
            (SetRecord.modifyLane l fun x => { x with
              reasons := x.reasons ||| 64, primary := if x.reasons = 0 then some .defect else x.primary }) s)) s)

/-- REJECT_SETS marks the named lanes of the sets of the ring whose tags are among those named, or is too late. -/
def Obligations.SetsRejectedByTag : Prop :=
  ∀ (p : PortId) (s : State) (first count mask : Nat), 1 ≤ count → mask % 16 ≠ 0 →
    let isNamed := fun (r : SetRecord) => decide ((r.tag - BitVec.ofNat 32 first).toNat < min count 128)
    let found := (s.st.ring.filter isNamed).length
    (1 ≤ found →
      AcceptedAs p (.rejectSets p first count mask) [byte found]
        (fun s => { s with st := { s.st with
          ring := s.st.ring.map fun r =>
            if isNamed r then
              { r with lanes := r.lanes.mapIdx fun i x =>
                  if mask.testBit i then
                    { x with reasons := x.reasons ||| 256,
                             primary := if x.reasons = 0 then some .operator else x.primary }
                  else x }
            else r } }) s) ∧
    (found = 0 → RefusedAs p (.rejectSets p first count mask) .tooLate [] s)

/-! ## The boundary -/

/-- Index edges and counted edges take a boundary of their kind. A boundary, whatever its kind, raises the cycle counter and
settles which context is ACTIVE: the pending one when its cycle has come, else the ACTIVE one unless it is suspended. With
the run gate OPEN that context's cycle gets one set, the newest; the set at age G leaves the ring; and a context that ran and
no longer does is DRAINING while it has sets left and PARKED without. The position after an INDEXLESS boundary taken above
RL is that of R36 (log 34). That INDEX_EDGE leaves the level 1 and ENCODER_TRANSITION stores its levels is log 11, that the
edge does the boundary alone is log 19, and the payload of INDEX_SLIP is log 15. -/
def Obligations.BoundaryAllocatesAndRetires : Prop :=
  (∀ s : State, holdsFunction s .index = true → s.wpu.direction = .forward → s.wpu.backed = false →
    let p := s.wpu.position
    let rl := s.wpu.repeatLength
    let tol := s.wpu.tolerance
    let raised := showDriven .index true s
    (rl ≤ p + tol → p ≤ rl + tol → exec .indexEdge s = .next (boundary .normal 0 none raised)) ∧
    (p + tol < rl → (tol < p ∨ s.wpu.indexPending = .none) →
      exec .indexEdge s = .next (boundary .early 0
        (some { kind := .indexSlip, payload := beSigned 2 (if rl ≤ 2 * p then (p : Int) - rl else p) }) raised))) ∧
  (∀ (s : State) (i j : LineId) (r : Levels),
    lineOf s .encA = some i → lineOf s .encB = some j → s.wpu.reference = some r → s.wpu.backed = false →
    let moved : State := { showDriven .encB r.a (showDriven .encA (!r.b) s) with wpu := { s.wpu with
      interval := s.wpu.edgeAge, edgeAge := 0, reversal := decide (s.wpu.direction ≠ Direction.forward),
      direction := Direction.forward, reference := some ⟨!r.b, r.a⟩ } }
    let p := s.wpu.position + 1
    let rl := s.wpu.repeatLength
    (holdsFunction s .index = true → rl + s.wpu.tolerance ≤ p →
      exec (.encoderTransition (!r.b) r.a) s =
        .next (boundary .synthetic (p - rl) (some { kind := .indexMissing, payload := [] }) moved)) ∧
    (holdsFunction s .index = false → rl ≤ p →
      exec (.encoderTransition (!r.b) r.a) s = .next (boundary .indexless (p - rl) none moved))) ∧
  ∀ (o : Opening) (pos : Nat) (n : Option WebNotice) (s : State), RunSound s →
    let x := s.wpu.cycle + 1
    let t := boundary o pos n s
    let comes := fun (j : SlotId) => ∃ a : Activation, s.activation = some a ∧ a.effective = x ∧ a.slot = j
    let runs := fun (j : SlotId) => comes j ∨
      (∀ i, ¬comes i) ∧ ∃ c : Context, s.slots[j] = some c ∧ c.state = .active ∧ c.suspend = false
    let stay := s.st.ring.filter fun r => r.tag ≠ x - BitVec.ofNat 32 s.st.gateLag
    t.wpu = { s.wpu with
      cycle := x, opening := some o, position := pos,
      indexPending := if o = .synthetic then .afterSynthetic else .none } ∧
    ((∃ i, comes i) → t.activation = none) ∧ ((∀ i, ¬comes i) → t.activation = s.activation) ∧
    (∀ (j : SlotId) (c : Context), s.st.runOpen = true → runs j → s.slots[j] = some c →
      ∃ r, t.st.ring.map SetRecord.tag = stay.map SetRecord.tag ++ [x] ∧ t.st.ring.getLast? = some r ∧ r.slot = j ∧
        r.entries.map EntryPart.lane = c.list.map AllocEntry.lane ∧ r.lanes.length = min c.lanes 4) ∧
    ((s.st.runOpen = false ∨ ∀ j, ¬runs j) → t.st.ring.map SetRecord.tag = stay.map SetRecord.tag) ∧
    ∀ j : SlotId,
      (s.slots[j] = none → t.slots[j] = none) ∧
      ∀ c : Context, s.slots[j] = some c →
        (runs j → slotState t j = some .active) ∧
        (¬runs j → c.state = .active ∨ c.state = .draining →
          slotState t j = some (if stay.any (fun r => r.slot == j) then .draining else .parked)) ∧
        (¬runs j → c.state ≠ .active → c.state ≠ .draining → slotState t j = some c.state)

/-- With records for its FRESH entries a set reserves them and fills its entries in order: a queued reprint or a fresh draw
for FRESH, a copy of its base for REPEAT, nothing for BLANK; a draw that fails leaves its entry UNNUMBERED, returns its
record and latches SEQ_EXHAUSTED. The set then holds its entries, PENDING heads and each lane's inspection state, with the
reason UNNUMBERED where an entry of the lane is. A probe that a failed draw makes STALE is log 20, what a returned record
releases ahead of the STOP_STATE is log 13. -/
def Obligations.EntriesFilled : Prop :=
  (∀ (k : SlotId) (e : AllocEntry) (a : Filling) (c : Context), a.state.slots[k] = some c →
    let put := fun (u : State) (q : Option SeqId) (st : EntryState) (left : Nat) =>
      ({ state := u, parts := a.parts ++ [{ lane := e.lane, sequence := q, state := st }], left := left } : Filling)
    let with_ := fun (q : SeqId) (x : Sequence) =>
      ({ a.state with slots := a.state.slots.set k (some { c with sequences := c.sequences.set q (some x) }) } : State)
    (e.mode = .blank → fillEntry k a e = put a.state none .blank a.left) ∧
    (∀ (b : EntryId) (part : EntryPart), e.mode = .repeated b → a.parts[(b : Nat)]? = some part →
      (∀ n : Number, part.state = .numbered n →
        fillEntry k a e = put a.state none (.numbered { n with origin := .repeated b (match n.origin with
          | .fresh => .fresh
          | .reprint => .reprint
          | .repeated _ root => root) }) a.left) ∧
      (part.state = .unnumbered → fillEntry k a e = put a.state none .unnumbered a.left)) ∧
    (∀ (q : SeqId) (rf : Bool) (x : Sequence), e.mode = .fresh q rf → c.sequences[q] = some x →
      let ranges := c.exclusions.filter fun r => r.sequence == q
      (∀ (o : QueueEntry) (rest : List QueueEntry), rf = true → x.queue = o :: rest →
        fillEntry k a e = put (with_ q { x with queued := x.queued - 1, held := x.held + 1, queue := rest }) (some q)
          (.numbered { value := o.value, check := checkOf x.scheme x.digits o.value, origin := .reprint,
                       spoil := o.spoil }) a.left) ∧
      (rf = false ∨ x.queue = [] →
        (∀ (v : Nat) (w : Bool), x.draw ranges = .yields v w →
          fillEntry k a e =
            put (makeStale k q (with_ q { x with
                value := (v : Int) + x.step, wraps := if w then x.wraps + 1 else x.wraps, drawn := x.drawn + 1,
                held := x.held + 1 })) (some q)
              (.numbered { value := v, check := checkOf x.scheme x.digits v, origin := .fresh, spoil := 0 }) a.left) ∧
        (x.draw ranges = .fails →
          let u := makeStale k q (with_ q { x with state := .exhausted })
          fillEntry k a e =
            put (latchStop .seqExhausted (afterRaise { u with ij := { u.ij with reserved := u.ij.reserved - 1 } }))
              (some q) .unnumbered (a.left - 1))))) ∧
  ∀ (s : State) (k : SlotId) (c : Context), s.st.runOpen = true → activeSlot s = some k → s.slots[k] = some c →
    let n := (c.list.filter fun e => e.mode.sequence?.isSome).length
    n ≤ s.ij.unreserved →
    let reserved := if n = 0 then s else testThreshold { s with ij := { s.ij with reserved := s.ij.reserved + n } }
    let a := c.list.foldl (fillEntry k) { state := reserved, parts := [], left := n }
    ∃ r, allocate s = { a.state with
        st := { a.state.st with ring := a.state.st.ring ++ [r] },
        slots := a.state.slots.set k (a.state.slots[k].map fun d => { d with inFlight := d.inFlight + 1 }) } ∧
      r.tag = s.wpu.cycle ∧ r.slot = k ∧ r.entries = a.parts ∧ r.reservation = a.left ∧ r.registration = .notMeasured ∧
      (∀ h : HeadId, r.heads[h] = if c.assignments[h].isSome then .pending else .unused) ∧
      r.lanes.length = min c.lanes 4 ∧
      ∀ l : LaneId, (l : Nat) < c.lanes →
        let short := a.parts.any fun e => e.lane == l && e.state == .unnumbered
        r.lanes[(l : Nat)]? = some
          { inspection := if c.inspection[l].any (fun e => (a.parts[(e : Nat)]?.bind EntryPart.number).isSome) then .awaiting
              else .notRequired
            reasons := if short then 128 else 0
            primary := if short then some .unnumbered else none }

/-- With fewer unreserved records than FRESH entries the set is allocated degraded: nothing is drawn or reserved, BLANK
entries stay BLANK and the others are UNNUMBERED, and each lane that holds one of those is rejected for it. -/
def Obligations.ShortJournalDegradesSet : Prop :=
  ∀ (s : State) (k : SlotId) (c : Context), s.st.runOpen = true → activeSlot s = some k → s.slots[k] = some c →
    s.ij.unreserved < (c.list.filter fun e => e.mode.sequence?.isSome).length →
    ∃ r, allocate s = { s with
        st := { s.st with ring := s.st.ring ++ [r] },
        slots := s.slots.set k (some { c with inFlight := c.inFlight + 1 }) } ∧
      r.tag = s.wpu.cycle ∧ r.slot = k ∧ r.reservation = 0 ∧ r.registration = .notMeasured ∧
      r.lanes.length = min c.lanes 4 ∧
      (∀ (i : Nat) (e : AllocEntry), c.list[i]? = some e → ∃ part, r.entries[i]? = some part ∧ part.lane = e.lane ∧
        part.state = (if e.mode = .blank then .blank else .unnumbered)) ∧
      (∀ (i : Nat) (e : AllocEntry), c.list[i]? = some e → e.mode ≠ .blank → (e.lane : Nat) < c.lanes →
        r.lanes[(e.lane : Nat)]? =
          some { inspection := .notRequired, reasons := 128, primary := some .unnumbered })

/-- The changeover, the suspension and the parking of contexts, each with its journal record and JOB_STATE notices. A context
record is appended at once when none waits before it and its space is there, and waits at the end of the deferred list
otherwise. The order of the notices of one event, as SET_REJECTED before JOB_STATE, is log 13; the lanes of SET_REJECTED as a
list with a count are log 15. -/
def Obligations.JobsChangeAtBoundary : Prop :=
  (∀ (d : Deferred) (s : State),
    let appended := s.ij.append d.slot d.job d.stamp (match d.activated with
      | some resumed => .jobActivated resumed
      | none => .jobSuspended)
    (s.ij.deferred = [] → d.activated.isSome = true → 1 ≤ s.ij.unreserved →
      contextRecord d s = testThreshold { s with ij := appended }) ∧
    (s.ij.deferred = [] → d.activated = none →
      contextRecord d s = { s with ij := { appended with
        reserved := s.ij.reserved - 1,
        contextReserved := s.ij.contextReserved.set d.slot (s.ij.contextReserved[d.slot] - 1) } }) ∧
    (s.ij.deferred ≠ [] ∨ d.activated.isSome = true ∧ s.ij.unreserved = 0 →
      contextRecord d s = { s with ij := { s.ij with deferred := s.ij.deferred ++ [d] } })) ∧
  (∀ (s : State) (a : Activation) (c : Context), s.activation = some a → s.slots[a.slot] = some c →
    (a.effective ≠ s.wpu.cycle → changeover s = s) ∧
    (a.effective = s.wpu.cycle →
      let started := contextRecord
        { activated := some (decide (a.origin = .parked)), slot := a.slot, job := c.job, stamp := s.wpu.cycle }
        { s with activation := none, slots := s.slots.set a.slot (some { c with state := .active, suspend := false }) }
      let began := fun (u : State) => notifyJob a.slot (some c.job) (some a.origin.state) (some .active) u
      (activeSlot s = none → changeover s = began started) ∧
      ∀ (k : SlotId) (d : Context), activeSlot s = some k → s.slots[k] = some d → k ≠ a.slot →
        (1 ≤ d.inFlight →
          changeover s = notifyJob k (some d.job) (some .active) (some .draining) (began { started with
            slots := started.slots.set k (some { d with state := .draining, suspend := false }) })) ∧
        (d.inFlight = 0 →
          changeover s = notifyJob k (some d.job) (some .active) (some .parked) (began (contextRecord
            { activated := none, slot := k, job := d.job, stamp := s.wpu.cycle }
            { started with slots := started.slots.set k (some { d with state := .parked, suspend := false }) }))))) ∧
  (∀ s : State, s.activation = none → changeover s = s) ∧
  (∀ s : State,
    (activeSlot s = none → suspension s = s) ∧
    ∀ (k : SlotId) (c : Context), activeSlot s = some k → s.slots[k] = some c →
      (c.suspend = false → suspension s = s) ∧
      (c.suspend = true →
        suspension s = notifyJob k (some c.job) (some .active) (some .draining)
          { s with slots := s.slots.set k (some { c with state := .draining, suspend := false }) })) ∧
  ∀ (r : SetRecord) (a : Settling) (c : Context), a.state.slots[r.slot] = some c →
    let gone : State := { a.state with
      st := { a.state.st with ring := a.state.st.ring.filter fun x => x.tag != r.tag },
      slots := a.state.slots.set r.slot (some { c with inFlight := c.inFlight - 1 }) }
    let returned := if a.left = 0 then gone
      else afterRaise { gone with ij := { gone.ij with reserved := gone.ij.reserved - a.left } }
    let told := if ∃ x ∈ r.lanes, x.reasons ≠ 0 then
        notify .setRejected (be 4 r.tag.toNat ++ byte r.slot :: be 3 c.job ++ listBytes rejectedLaneBytes r.lanes) returned
      else returned
    (c.state ≠ .draining ∨ 2 ≤ c.inFlight → removeSet r a = told) ∧
    (c.state = .draining → c.inFlight = 1 →
      removeSet r a = notifyJob r.slot (some c.job) (some .draining) (some .parked) (contextRecord
        { activated := none, slot := r.slot, job := c.job, stamp := a.state.wpu.cycle }
        { told with slots := told.slots.set r.slot (some { c with
          state := .parked, suspend := false, inFlight := 0 }) }))

/-- A head's rule for a boundary is its expiry and then its issue; a lag-1 head issues on the hand-over. An order due is
settled at issue by the first case that matches: a head state no longer PENDING, a head that is not READY, a reference to an
UNNUMBERED entry, else ORDERED, joining the head's queue and the transmit queue ahead of the higher heads of its boundary.
The items of a format give the characters of R81. ORDER_DEADLINE as one head's expiry step is log 7. The heads take a
boundary in some order, and the lag-1 heads issue on the hand-over in some order; orders may be chosen and frames may end
at any place of either, but among the heads the arbiter chooses orders of older boundaries alone (logs 5 and 36). -/
def Obligations.OrdersIssued : Prop :=
  (∀ (s : State) (h : HeadId) (p : Placement), s.hou.heads[h].placement = some p →
    (p.lag = 1 → exec (.orderDeadline h) s = .next (headBoundary s h)) ∧
    (p.lag ≠ 1 → ∀ t, exec (.orderDeadline h) s = .next t → headBoundary s h = issueHead h t) ∧
    (setAtAge s (p.lag - 1) = none → issueHead h s = s) ∧
    ∀ (r : SetRecord) (c : Context) (a : Assignment) (own : AllocEntry), setAtAge s (p.lag - 1) = some r →
      s.slots[r.slot] = some c → c.assignments[h] = some a → c.list[(a.entry : Nat)]? = some own →
      let items := c.formats[a.format].getD []
      let outcome := fun (f : SetRecord → SetRecord) =>
        ({ s.st with ring := s.st.ring.map fun x => if x.tag = r.tag then f x else x } : Tracker)
      let unnumbered := ∃ i ∈ items, ∃ (ref : EntryRef) (part : EntryPart),
        (i = .check ref ∨ ∃ fill, i = .number ref fill) ∧
        r.entries[((ref.resolve a.entry : EntryId) : Nat)]? = some part ∧ part.state = .unnumbered
      (r.heads[h] ≠ .pending → issueHead h s = s) ∧
      (r.heads[h] = .pending →
        (s.hou.heads[h].device ≠ .ready →
          issueHead h s = { s with st := outcome (settledSet s h .notReady .headNotReady) }) ∧
        (s.hou.heads[h].device = .ready → unnumbered →
          issueHead h s = { s with st := outcome fun x => { x with heads := x.heads.set h .notIssued } }) ∧
        (s.hou.heads[h].device = .ready → ¬unnumbered →
          let o : Order := { tag := r.tag, text := items.flatMap (itemText c r a.entry own.lane p.ply) }
          ∃ older later : List WaitingOrder, s.hou.transmit = older ++ later ∧
            (∀ w ∈ older, ¬(w.boundary = s.wpu.cycle ∧ h < w.head)) ∧
            (∀ w, later.head? = some w → w.boundary = s.wpu.cycle ∧ h < w.head) ∧
            issueHead h s = { s with
              st := outcome fun x => { x with heads := x.heads.set h .ordered },
              hou := { s.hou with
                heads := s.hou.heads.set h { s.hou.heads[h] with
                  queue := s.hou.heads[h].queue ++ [o], issued := s.hou.heads[h].issued + 1 },
                transmit := older ++ { boundary := s.wpu.cycle, head := h, order := o } :: later } }))) ∧
  (∀ s : State,
    (∀ h : HeadId, headStep s (.head h) = headBoundary s h) ∧
    (∀ (h : HeadId) (p : Placement), s.hou.heads[h].placement = some p →
      handStep s (.head h) = if p.lag = 1 then issueHead h s else s) ∧
    (∀ h : HeadId, s.hou.heads[h].placement = none → handStep s (.head h) = s) ∧
    exec .orderSend s = .next (handStep s (.link .chooses)) ∧
    ((∃ w, s.hou.transmit.head? = some w ∧ w.boundary = s.wpu.cycle) → headStep s (.link .chooses) = s) ∧
    ((∀ w, s.hou.transmit.head? = some w → w.boundary ≠ s.wpu.cycle) →
      exec .orderSend s = .next (headStep s (.link .chooses))) ∧
    exec .orderFrameEnd s = .next (headStep s (.link .ends)) ∧
    exec .orderFrameEnd s = .next (handStep s (.link .ends))) ∧
  (let steps := fun (link : List LinkStep) => (List.finRange 24).map HouStep.head ++ link.map HouStep.link
   (∀ (o : BoundaryOrder) (s : State),
     (∃ l : List HouStep, l.Perm (steps o.amongHeads) ∧ takeHeads o s = l.foldl headStep s) ∧
     ∃ l : List HouStep, l.Perm (steps o.inHandOver) ∧ handOver o s = l.foldl handStep s) ∧
   ∀ (link : List LinkStep) (l : List HouStep), l.Perm (steps link) →
     ∃ code, ∀ (o : BoundaryOrder) (s : State),
       (o.heads = code → o.amongHeads = link → takeHeads o s = l.foldl headStep s) ∧
       (o.handOver = code → o.inHandOver = link → handOver o s = l.foldl handStep s)) ∧
  ∀ (c : Context) (r : SetRecord) (own : EntryId) (lane : LaneId) (ply : Nat),
    let text := itemText c r own lane ply
    let digit := fun (d v i : Nat) => byte (0x30 + v / 10 ^ (d - 1 - i) % 10)
    (∀ t, text (.literal t) = t) ∧ text .lane = [byte (0x31 + lane)] ∧ text .ply = [byte (0x30 + ply)] ∧
    text .job = (List.range 5).map (digit 5 c.job) ∧
    ∀ (ref : EntryRef) (n : Number), r.numberOf (ref.resolve own) = some n →
      (∀ d, n.check = some d → text (.check ref) = [byte (0x30 + d)]) ∧ (n.check = none → text (.check ref) = []) ∧
      ∀ x : Sequence, c.rootOf (ref.resolve own) = some x →
        text (.number ref .zero) = (List.range x.digits).map (digit x.digits n.value) ∧
        text (.number ref .blank) = (List.range x.digits).map fun i =>
          if i + 1 < x.digits ∧ n.value / 10 ^ (x.digits - 1 - i) % 10 ^ (i + 1) = 0 then 0x20
          else digit x.digits n.value i

/-- At a boundary the window of the set at age Q + 1 closes: each of its AWAITING lanes becomes UNREAD and gains the reason
UNREAD, and every other lane of it and every other set keeps its inspection states. -/
def Obligations.WindowClosed : Prop :=
  (∀ s : State,
    closeWindow s = { s with st := { s.st with
      ring := s.st.ring.map fun r =>
        if r.tag = s.wpu.cycle - BitVec.ofNat 32 (s.st.inspect + 1) then
          { r with lanes := r.lanes.map fun x =>
              if x.inspection = .awaiting then
                { x with inspection := .unread, reasons := x.reasons ||| 32,
                         primary := if x.reasons = 0 then some .unread else x.primary }
              else x }
        else r } }) ∧
  ∀ (o : Opening) (pos : Nat) (n : Option WebNotice) (s : State) (r : SetRecord), RunSound s → r ∈ s.st.ring →
    r.tag ≠ s.wpu.cycle + 1 - BitVec.ofNat 32 s.st.gateLag →
    ∃ u ∈ (boundary o pos n s).st.ring, u.tag = r.tag ∧ u.lanes.length = r.lanes.length ∧
      ∀ (i : Nat) (x : LanePart), r.lanes[i]? = some x → ∃ y, u.lanes[i]? = some y ∧
        if r.tag = s.wpu.cycle - BitVec.ofNat 32 s.st.inspect ∧ x.inspection = .awaiting then
          y.inspection = .unread ∧ y.reasons.getLsbD 5 = true
        else y.inspection = x.inspection

/-- The gate step of a retirement: the gate of each rejected lane of the retiring set is asserted with the set's tag, and
every other gate is released. It comes before the lanes are settled, and a gate's line moves only where the gate goes from
released to asserted or back. That a new drive shows on the line at once, and that a line whose gate record does not change
keeps the level it shows, is log 10. -/
def Obligations.GatesFollowRetiringSet : Prop :=
  (∀ s : State,
    (setAtAge s s.st.gateLag = none → retire s = gateStep none s) ∧
    ∀ r : SetRecord, setAtAge s s.st.gateLag = some r →
      retire s = removeSet r
        ([0, 1, 2, 3].foldl (settleLane r) { state := gateStep (some r) s, left := r.reservation })) ∧
  ∀ (due : Option SetRecord) (s : State),
    let t := gateStep due s
    let rejected := fun (k : LaneId) => ∃ r, due = some r ∧ ∃ x, r.lanes[(k : Nat)]? = some x ∧ x.reasons ≠ 0
    (∀ (k : LaneId) (r : SetRecord), due = some r → rejected k →
      t.st.gates[k] = .asserted r.tag (if s.st.gateClose < s.wpu.repeatLength then some s.st.gateClose else none)) ∧
    (∀ k : LaneId, ¬rejected k → t.st.gates[k] = .released) ∧
    (∀ (i : LineId) (k : LaneId), s.lm.lines[i].function = .gate k →
      (rejected k → s.st.gates[k] = .released → t.lm.lines[i] = { s.lm.lines[i] with level := true }) ∧
      (¬rejected k → s.st.gates[k] ≠ .released → t.lm.lines[i] = { s.lm.lines[i] with level := false }) ∧
      ((rejected k ↔ s.st.gates[k] ≠ .released) → t.lm.lines[i] = s.lm.lines[i])) ∧
    (∀ i : LineId, (∀ k : LaneId, s.lm.lines[i].function ≠ .gate k) → t.lm.lines[i] = s.lm.lines[i]) ∧
    t = { s with st := { s.st with gates := t.st.gates }, lm := { s.lm with lines := t.lm.lines } }

/-- A numbered entry of a good lane is journaled, ISSUED_RUN for a fresh number and REISSUED for a reprint: it merges into the
open tail and takes no record, or is appended from the set's reservation. It moves from held to issued. A REPEAT, BLANK or
UNNUMBERED entry, and an entry of another lane, is handed nowhere. A run merges exactly into an OPEN tail of its own slot,
job, kind, sequence and step whose last value is one step before. -/
def Obligations.GoodNumberIssued : Prop :=
  (∀ (r : SetRecord) (l : LaneId) (part : LanePart) (a : Settling) (e : EntryPart),
    (e.lane ≠ l → settleEntry r l part a e = a) ∧
    (e.state = .blank ∨ e.state = .unnumbered → settleEntry r l part a e = a) ∧
    (∀ (n : Number) (b : EntryId) (root : RootOrigin), e.state = .numbered n → n.origin = .repeated b root →
      settleEntry r l part a e = a) ∧
    (∀ (n : Number) (q : SeqId) (c : Context) (x : Sequence), e.lane = l → e.state = .numbered n → e.sequence = some q →
      part.reasons = 0 → a.state.slots[r.slot] = some c → c.sequences[q] = some x →
      let slots := a.state.slots.set r.slot (some { c with sequences := c.sequences.set q (some { x with
        held := x.held - 1, issued := x.issued + 1 }) })
      let lanes : BitVec 4 := (1 : BitVec 4) <<< (l : Nat)
      let appended := fun (b : RecordBody) =>
        ({ state := { a.state with
             ij := { a.state.ij.append r.slot c.job a.state.wpu.cycle b with reserved := a.state.ij.reserved - 1 },
             slots := slots },
           left := a.left - 1 } : Settling)
      (n.origin = .reprint → settleEntry r l part a e = appended (.reissued q l n.value n.spoil)) ∧
      (n.origin = .fresh →
        let run := RecordBody.issuedRun q lanes n.value n.value 1 x.step
        (∀ j : Journal, a.state.ij.merge r.slot c.job run = some j →
          settleEntry r l part a e = { state := { a.state with ij := j, slots := slots }, left := a.left }) ∧
        (a.state.ij.merge r.slot c.job run = none → settleEntry r l part a e = appended run)))) ∧
  ∀ (j : Journal) (k : SlotId) (job : Nat) (q : SeqId) (ls : BitVec 4) (v : Nat) (step : Int),
    let tailIs := fun (old : RecordBody) (t : Tail) (r : Record) =>
      j.tail = some t ∧ t.isOpen = true ∧ t.slot = k ∧ j.records.getLast? = some r ∧ r.job = job ∧ r.body = old
    let grown := fun (t : Tail) (r : Record) (b : RecordBody) (n : Nat) =>
      ({ j with
         records := j.records.dropLast ++ [{ r with body := b }],
         tail := some { t with isOpen := decide (n + 1 < 65535) } } : Journal)
    (∀ (t : Tail) (r : Record) (old : BitVec 4) (first last n : Nat), tailIs (.issuedRun q old first last n step) t r →
      (v : Int) = last + step → n < 65535 →
      j.merge k job (.issuedRun q ls v v 1 step) = some (grown t r (.issuedRun q (old ||| ls) first v (n + 1) step) n)) ∧
    (∀ (t : Tail) (r : Record) (first last n : Nat), tailIs (.voidRun q first last n step) t r →
      (v : Int) = last + step → n < 65535 →
      j.merge k job (.voidRun q v v 1 step) = some (grown t r (.voidRun q first v (n + 1) step) n)) ∧
    ((∀ (t : Tail) (r : Record) (old : BitVec 4) (first last n : Nat), tailIs (.issuedRun q old first last n step) t r →
        (v : Int) = last + step → ¬n < 65535) →
      j.merge k job (.issuedRun q ls v v 1 step) = none) ∧
    ((∀ (t : Tail) (r : Record) (first last n : Nat), tailIs (.voidRun q first last n step) t r →
        (v : Int) = last + step → ¬n < 65535) →
      j.merge k job (.voidRun q v v 1 step) = none)

/-- An entry of a rejected lane that carries a number of its own is spoiled for the lane's primary reason. A spoiled number
takes the first disposition of the table that matches, with its spoil count raised by one, and leaves one SPOILED record in
the set's reservation. -/
def Obligations.SpoiledNumberDisposed : Prop :=
  (∀ (r : SetRecord) (l : LaneId) (part : LanePart) (a : Settling) (e : EntryPart) (n : Number) (q : SeqId) (why : Reason),
    e.lane = l → e.state = .numbered n → e.sequence = some q → n.origin = .fresh ∨ n.origin = .reprint →
    part.reasons ≠ 0 → part.primary = some why →
    settleEntry r l part a e = spoilNumber r.slot q l why r.tag n a) ∧
  ∀ (k : SlotId) (q : SeqId) (l : LaneId) (why : Reason) (tag : Cycle) (n : Number) (a : Settling) (c : Context)
    (x : Sequence),
    a.state.slots[k] = some c → c.sequences[q] = some x →
    let spoil := n.spoil + 1
    let d : Disposition :=
      if c.policy = .void then .voided
      else if c.limit < spoil then .voidedLimit
      else if x.queue.length ≥ 32 ∨ ∃ e ∈ x.queue, e.value = n.value then .voidedQueueFull
      else .requeued
    let x' : Sequence :=
      if d = .requeued then
        { x with held := x.held - 1, queued := x.queued + 1,
                 queue := x.queue ++ [{ value := n.value, spoil := spoil, reason := why, tag := tag }] }
      else { x with held := x.held - 1, voided := x.voided + 1 }
    let body := RecordBody.spoiled q l n.value d why spoil
    spoilNumber k q l why tag n a =
      { state := { a.state with
          ij := { a.state.ij.append k c.job a.state.wpu.cycle body with reserved := a.state.ij.reserved - 1 },
          slots := a.state.slots.set k (some { c with sequences := c.sequences.set q (some x') }) },
        left := a.left - 1 }

/-! ## The journal -/

/-- READ_JOURNAL from a held record, or from the next index, delivers what fits, marks it READ and closes the tail when it
is among it; from any other index it answers NOT_FOUND. RELEASE_JOURNAL frees the READ records at the front, up to the limit
its through index sets; its response stands ahead of the notices it makes (log 12). -/
def Obligations.JournalReadAndReleased : Prop :=
  (∀ (p : PortId) (s : State) (n : Nat), 1 ≤ n → s.ij.indexed → s.ij.records.length ≤ 1024 →
    let fields := fun (k : Nat) =>
      be 2 s.ij.records.length ++ be 4 (((s.ij.records.head?.map Record.index).getD 0).toNat) ++ be 4 s.ij.next.toNat ++
        be 2 (1024 - (s.ij.records.length + s.ij.reserved)) ++ [byte k]
    (∀ (i : Nat) (r : Record), s.ij.records[i]? = some r →
      let rs := fitting 108 ((s.ij.records.drop i).take (min n 4))
      AcceptedAs p (.readJournal p r.index.toNat n) (fields rs.length ++ rs.flatMap recordBytes)
        (fun s => { s with ij := { s.ij with
          records := s.ij.records.mapIdx fun j x => if i ≤ j ∧ j < i + rs.length then { x with read := true } else x,
          tail := if 1 ≤ rs.length ∧ s.ij.records.length ≤ i + rs.length then
              s.ij.tail.map fun t => { t with isOpen := false }
            else s.ij.tail } }) s) ∧
    AcceptedAs p (.readJournal p s.ij.next.toNat n) (fields 0) id s ∧
    (∀ i : Nat, i < 2 ^ 32 → (∀ r ∈ s.ij.records, r.index.toNat ≠ i) → s.ij.next.toNat ≠ i →
      RefusedAs p (.readJournal p i n) .notFound (fields 0) s)) ∧
  ∀ (p : PortId) (s : State) (through : Nat),
    let limit :=
      match s.ij.records with
      | [] => 0
      | o :: _ =>
        let d := (BitVec.ofNat 32 through - o.index).toNat
        if d < s.ij.records.length then d + 1 else if d < 2 ^ 31 then s.ij.records.length else 0
    let n := ((s.ij.records.take limit).takeWhile Record.read).length
    let effect := fun (s : State) =>
      if n = 0 then s
      else afterRaise { s with ij := { s.ij with
        records := s.ij.records.drop n, tail := if s.ij.records.length ≤ n then none else s.ij.tail } }
    let after := (effect (takenOn p s)).ij
    AcceptedAs p (.releaseJournal p through)
      (be 2 n ++ optBytes (fun x => be 4 x.toNat) (after.records.head?.map Record.index) ++ be 4 after.next.toNat ++
        be 2 after.unreserved)
      effect s

/-! ## Job contexts -/

/-- OPEN_CONTEXT, DISCARD, CLOSE_BUILD and REOPEN. Each response stands ahead of its JOB_STATE (log 12). -/
def Obligations.ContextBuilt : Prop :=
  ∀ (p : PortId) (s : State) (k : SlotId),
    (∀ (job lanes po lim : Nat) (pol : SpoilPolicy), job ≤ 99999 → 1 ≤ lanes → lanes ≤ 4 → 1 ≤ lim → lim ≤ 7 →
      (po = 0 ∧ pol = .reprint ∨ po = 1 ∧ pol = .void) → s.slots[k] = none →
      (∀ (j : SlotId) (c : Context), j ≠ k → s.slots[j] = some c → c.job ≠ job) →
      let c : Context :=
        { state := .building, job := job, lanes := lanes, policy := pol, limit := lim, suspend := false, inFlight := 0,
          sequences := tabulate fun _ => none, exclusions := [], list := [], assignments := tabulate fun _ => none,
          formats := tabulate fun _ => none,
          marks := { channels := tabulate fun _ => none, maskEnd := 0, closeAt := 65535 },
          inspection := tabulate fun _ => none }
      AcceptedAs p (.openContext p k job lanes po lim) []
        (fun s => notifyJob k (some job) none (some .building) { s with slots := s.slots.set k (some c) }) s) ∧
    (∀ c : Context, s.slots[k] = some c → c.state = .building → busySlotOf s.background ≠ some k →
      AcceptedAs p (.discard p k) []
        (fun s => notifyJob k none (some .building) none { s with slots := s.slots.set k none }) s) ∧
    (∀ c : Context, s.slots[k] = some c → c.state = .building →
      (c.buildFailure = none →
        AcceptedAs p (.closeBuild p k) []
          (fun s => notifyJob k (some c.job) (some .building) (some .ready)
            { s with slots := s.slots.set k (some { c with state := .ready, suspend := false }) }) s) ∧
      (∀ number item : Nat, c.buildFailure = some (number, item) →
        RefusedAs p (.closeBuild p k) .badValue [byte number, byte item] s)) ∧
    (∀ c : Context, s.slots[k] = some c → c.state = .ready → NotPending k s → busySlotOf s.background ≠ some k →
      AcceptedAs p (.reopen p k) []
        (fun s => notifyJob k (some c.job) (some .ready) (some .building)
          { s with slots := s.slots.set k (some { c with state := .building, suspend := false }) }) s)

/-- The checks of CLOSE_BUILD all pass exactly when the eleven conditions of R164 hold, and the checks of ACTIVATE against
the press exactly when the eight conditions of R166's check 4 hold. -/
def Obligations.BuildAndPressChecks : Prop :=
  (∀ c : Context,
    let prints := fun (e : Nat) (l : LaneId) =>
      ∃ d : AllocEntry, c.list[e]? = some d ∧ d.lane = l ∧ d.mode ≠ .blank
    c.buildFailure = none ↔
      (∀ e ∈ c.list, (e.lane : Nat) < c.lanes) ∧
      (∀ (i : Nat) (e : AllocEntry) (b : EntryId), c.list[i]? = some e → e.mode = .repeated b →
        (b : Nat) < i ∧ prints b e.lane) ∧
      (∀ e ∈ c.list, ∀ (q : SeqId) (rf : Bool), e.mode = .fresh q rf → c.sequences[q].isSome = true) ∧
      (∀ (q : SeqId) (x : Sequence), c.sequences[q] = some x →
        x.first < 10 ^ x.digits ∧ x.last < 10 ^ x.digits ∧ (0 < x.step → x.first ≤ x.last) ∧
        (x.step ≤ 0 → x.last ≤ x.first) ∧ min (x.first : Int) x.last ≤ x.value ∧ x.value ≤ max (x.first : Int) x.last) ∧
      (∀ (h : HeadId) (a : Assignment), c.assignments[h] = some a → (a.entry : Nat) < c.list.length) ∧
      (∀ (h : HeadId) (a : Assignment), c.assignments[h] = some a → c.formats[a.format].isSome = true) ∧
      (∀ (h : HeadId) (a : Assignment) (items : List FormatItem) (ref : EntryRef) (own : AllocEntry),
        c.assignments[h] = some a → c.formats[a.format] = some items → c.list[(a.entry : Nat)]? = some own →
        (FormatItem.check ref ∈ items ∨ ∃ fill, FormatItem.number ref fill ∈ items) →
        prints (ref.resolve a.entry) own.lane) ∧
      (∀ (h : HeadId) (a : Assignment) (items : List FormatItem),
        c.assignments[h] = some a → c.formats[a.format] = some items →
        (items.map fun i =>
          match i with
          | .literal t => t.length
          | .number ref _ => ((c.rootOf (ref.resolve a.entry)).map Sequence.digits).getD 0
          | .check ref => if (c.rootOf (ref.resolve a.entry)).any fun x => x.scheme != .none then 1 else 0
          | .lane => 1
          | .ply => 1
          | .job => 5).sum ≤ 20) ∧
      (∀ (l : LaneId) (e : EntryId), (l : Nat) < c.lanes → c.inspection[l] = some e → prints e l) ∧
      (∀ (k : ChannelId) (m : ChannelMarks), c.marks.channels[k] = some m → m.positions.Pairwise (· < ·)) ∧
      c.marks.maskEnd < c.marks.closeAt) ∧
  ∀ (s : State) (c : Context),
    let placedSo := fun (p : HeadId → AllocEntry → Placement → Prop) =>
      ∀ (h : HeadId) (a : Assignment), c.assignments[h] = some a → ∃ (own : AllocEntry) (x : Placement),
        c.list[(a.entry : Nat)]? = some own ∧ s.hou.heads[h].placement = some x ∧ p h own x
    let holds := fun (f : LineFunction) => ∃ i : LineId, s.lm.lines[i].function = f
    pressFailure s c = none ↔
      (1 ≤ s.st.merge ∧ 1 ≤ s.st.inspect ∧ 1 ≤ s.st.gateLag) ∧
      placedSo (fun _ own x => x.lane = own.lane ∧ x.lag ≤ s.st.merge ∧ x.lag + 2 ≤ s.st.gateLag) ∧
      (holds .encA ∧ holds .encB) ∧
      (∀ k : ChannelId, c.marks.channels[k].isSome = true → holds (.mark k)) ∧
      (∀ l : LaneId, (l : Nat) < c.lanes → holds (.gate l))

/-- ACTIVATE makes an activation pending and reserves one record for it; CANCEL_ACTIVATION withdraws it. Each response stands
ahead of its notices (log 12), and those stand in the order of the work (log 13). -/
def Obligations.ActivationPendingAndWithdrawn : Prop :=
  (∀ (p : PortId) (s : State) (k : SlotId) (c : Context) (w : Option Nat) (x : Cycle),
    s.slots[k] = some c → (c.state = .ready ∨ c.state = .parked) → busySlotOf s.background ≠ some k →
    (∀ j : SlotId, slotState s j ≠ some .draining) → s.activation = none → pressFailure s c = none →
    1 ≤ s.ij.unreserved →
    (w = none ∧ x = s.wpu.cycle + 1 ∨
      w = some x.toNat ∧ 1 ≤ (x - s.wpu.cycle).toNat ∧ (x - s.wpu.cycle).toNat < 2 ^ 31) →
    AcceptedAs p (.activate p k w) (be 4 x.toNat)
      (fun s =>
        let s1 := testThreshold { s with ij := { s.ij with
          reserved := s.ij.reserved + 1,
          contextReserved := s.ij.contextReserved.set k (s.ij.contextReserved[k] + 1) } }
        let a : Activation :=
          { slot := k, effective := x, origin := if c.state = .parked then .parked else .ready }
        notifyJob k (some c.job) (some c.state) (some c.state) { s1 with activation := some a }) s) ∧
  (∀ (p : PortId) (s : State) (a : Activation), s.activation = some a →
    AcceptedAs p (.cancelActivation p) (byte a.slot :: be 4 a.effective.toNat)
      (fun s => notifyJob a.slot (s.slots[a.slot].map Context.job) (slotState s a.slot) (slotState s a.slot)
        (afterRaise { s with
          activation := none,
          ij := { s.ij with
            reserved := s.ij.reserved - 1,
            contextReserved := s.ij.contextReserved.set a.slot (s.ij.contextReserved[a.slot] - 1) } })) s) ∧
  (∀ (p : PortId) (s : State), s.activation = none → RefusedAs p (.cancelActivation p) .wrongState [] s)

/-- SUSPEND parks an ACTIVE context with no set in flight, or sets its suspend flag; FLUSH marks every set of a running
context. The response stands ahead of the notices its request makes (log 12), and those stand in the order of the work
(log 13). -/
def Obligations.SuspendAndFlush : Prop :=
  ∀ (p : PortId) (s : State) (k : SlotId) (c : Context), s.slots[k] = some c →
    (c.state = .active → c.inFlight = 0 →
      AcceptedAs p (.suspend p k) [5]
        (fun s => notifyJob k (some c.job) (some .active) (some .parked)
          (contextRecord { activated := none, slot := k, job := c.job, stamp := s.wpu.cycle }
            { s with slots := s.slots.set k (some { c with state := .parked, suspend := false }) })) s) ∧
    (c.state = .active → 1 ≤ c.inFlight → (∀ j : SlotId, j ≠ k → slotState s j ≠ some .draining) →
      AcceptedAs p (.suspend p k) [3]
        (fun s => { s with slots := s.slots.set k (some { c with suspend := true }) }) s) ∧
    (∀ j : SlotId, c.state = .active → 1 ≤ c.inFlight → j ≠ k → slotState s j = some .draining →
      RefusedAs p (.suspend p k) .busy [] s) ∧
    (c.state = .active ∨ c.state = .draining → 1 ≤ s.ij.unreserved →
      let n := (s.st.ring.filter fun r => r.slot == k).length
      AcceptedAs p (.flush p k) [byte n]
        (fun s => journalUnreserved k c.job s.wpu.cycle (.flushed n)
          { s with st := { s.st with
            ring := s.st.ring.map fun r =>
              if r.slot = k then
                { r with
                  lanes := r.lanes.map fun x =>
                    { x with reasons := x.reasons ||| 512,
                             primary := if x.reasons = 0 then some .flushed else x.primary },
                  heads := mapTable (fun h => if h = .pending then .cancelled else h) r.heads }
              else r } }) s)

/-- END_JOB voids and journals every queued number, sequence by sequence and oldest first, then writes JOB_ENDED with the
final counters and empties the slot. -/
def Obligations.JobEnded : Prop :=
  ∀ (p : PortId) (s : State) (k : SlotId) (c : Context),
    s.slots[k] = some c → (c.state = .ready ∨ c.state = .parked) → NotPending k s → busySlotOf s.background ≠ some k →
    c.queuedCount + 1 ≤ s.ij.unreserved → AtFront p (.endJob p k) s → Admitted p (.endJob p k) s →
    let queue := fun (q : SeqId) => (c.sequences[q].map Sequence.queue).getD []
    let voids := (List.finRange 8).flatMap fun q =>
      (queue q).map fun e => RecordBody.voidedQueued q e.value .ended e.reason e.spoil
    let finals : Vector (Option FinalCounters) 8 := tabulate fun q => c.sequences[q].map fun x =>
      { drawn := x.drawn, issued := x.issued, voided := x.voided + BitVec.ofNat 48 x.queue.length,
        queued := x.queued - BitVec.ofNat 48 x.queue.length, held := x.held }
    ∃ t, exec (.endJob p k) s = .next t ∧
      t.slots = s.slots.set k none ∧
      t.ij.records.map Record.body = s.ij.records.map Record.body ++ voids ++ [.jobEnded finals] ∧
      t.ij.records.take s.ij.records.length = s.ij.records ∧
      t.ij.next = s.ij.next + BitVec.ofNat 32 (c.queuedCount + 1) ∧ t.ij.tail = some { isOpen := false, slot := k } ∧
      t.ij.reserved = s.ij.reserved ∧ t.ij.contextReserved = s.ij.contextReserved ∧ t.ij.deferred = s.ij.deferred ∧
      t.wpu = s.wpu ∧ t.mtu = s.mtu ∧ t.st = s.st ∧ t.hou = s.hou ∧ t.background = s.background ∧
      t.activation = s.activation ∧ t.pending = s.pending

/-! ## Lines, stop causes and ports -/

/-- ASSIGN_LINE gives a line its function and pull-up; an output whose drive is as it was keeps the level it shows, and a new
drive shows. WRITE_LINES writes the named GEN_OUT lines. That a held output keeps its level, and that no block hears a
transition when the level on a line it holds changes within the request, is log 10. -/
def Obligations.LinesAssignedAndWritten : Prop :=
  (∀ (p : PortId) (s : State) (i : LineId) (f : LineFunction) (u : Bool),
    (s.lm.lines[i].function = f ∨ s.lm.lines[i].function.isFrozen = false ∧ f.isFrozen = false ∨ NothingRuns s) →
    (f.isGeneral = true ∨ ∀ j : LineId, j ≠ i → s.lm.lines[j].function ≠ f) →
    AtFront p (.assignLine p i f.place (if u then 1 else 0)) s →
    Admitted p (.assignLine p i f.place (if u then 1 else 0)) s →
    ∃ t, exec (.assignLine p i f.place (if u then 1 else 0)) s = .next t ∧
      t.lm.lines[i].function = f ∧ t.lm.lines[i].pullUp = u ∧ t.lm.lines[i].latch = s.lm.lines[i].latch ∧
      (∀ v, lineDrive t i = some v →
        t.lm.lines[i].level = if lineDrive s i = some v then s.lm.lines[i].level else v) ∧
      (∀ j : LineId, j ≠ i → t.lm.lines[j] = s.lm.lines[j]) ∧ t.lm.stops = s.lm.stops ∧
      t.wpu = { s.wpu with
        reference := encoderLevels t,
        indexPending := if holdsFunction t .index = holdsFunction s .index then s.wpu.indexPending else .none } ∧
      t.slots = s.slots ∧ t.hou = s.hou ∧ t.ij = s.ij ∧ t.st = s.st ∧ t.mtu = s.mtu ∧ t.background = s.background ∧
      t.activation = s.activation ∧ t.pending = s.pending) ∧
  (∀ (p : PortId) (s : State) (mask levels : Nat),
    let written := fun (i : LineId) => mask.testBit i && s.lm.lines[i].function == .genOut
    AcceptedAs p (.writeLines p mask levels)
      (be 3 (((List.finRange 24).map fun i => if written i then 2 ^ (i : Nat) else 0).sum))
      (fun s => { s with lm := { s.lm with
        lines := tabulate fun i =>
          if written i then
            { s.lm.lines[i] with
              latch := levels.testBit i,
              level := if s.lm.lines[i].latch = levels.testBit i then s.lm.lines[i].level else levels.testBit i }
          else s.lm.lines[i] } }) s)

/-- SET_STOP latches OPERATOR_STOP. CLEAR_STOP clears a LATCHED cause whose condition holds, refuses one whose condition
does not, and leaves a CLEAR cause. STOP_STATE writes LATCHED as 0 and CLEAR as 1 (log 15), and stands behind the response
of its own request (log 12). -/
def Obligations.StopCausesSetAndCleared : Prop :=
  ∀ (p : PortId) (s : State),
    let change := fun (now : StopSet) (body : List Byte) (s : State) =>
      notify .stopState (body ++ [byte now.toNat])
        (let s1 : State := { s with lm := { s.lm with stops := now } }
         if (s.lm.stops != 0) = (now != 0) then s1 else showDriven .stopReq (now != 0) s1)
    (s.lm.stops.getLsbD 4 = true → AcceptedAs p (.setStop p) [] id s) ∧
    (s.lm.stops.getLsbD 4 = false → AcceptedAs p (.setStop p) [] (change (s.lm.stops ||| 16) [4, 0]) s) ∧
    (∀ (n : Nat) (c : StopCause), StopCause.ofCode n = some c →
      let may : Prop :=
        match c with
        | .journalHigh => 128 ≤ s.ij.unreserved
        | .headFault => ∀ (k : SlotId) (x : Context) (h : HeadId), activeSlot s = some k → s.slots[k] = some x →
            x.assignments[h].isSome = true → s.hou.heads[h].device ≠ .faulted
        | .seqExhausted => ∀ (k : SlotId) (x : Context) (q : SeqId) (y : Sequence), activeSlot s = some k →
            s.slots[k] = some x → x.sequences[q] = some y → y.state = .live
        | .regRun | .operatorStop => True
      (s.lm.stops.getLsbD n = false → AcceptedAs p (.clearStop p n) [] id s) ∧
      (s.lm.stops.getLsbD n = true → ¬may → RefusedAs p (.clearStop p n) .wrongState [] s) ∧
      (s.lm.stops.getLsbD n = true → may →
        AcceptedAs p (.clearStop p n) []
          (fun s => change (s.lm.stops &&& ~~~((1 : StopSet) <<< n)) [byte n, 1]
            (if c = .regRun then { s with mtu := { s.mtu with faults := 0 } } else s)) s))

/-- SET_ROLE gives another port a role other than SUPERVISOR while no context is ACTIVE or DRAINING; SET_NOTICES writes the
port's own subscription. -/
def Obligations.RolesAndNoticesSet : Prop :=
  ∀ (p : PortId) (s : State),
    (∀ (n : PortId) (r : Role), n ≠ p → r ≠ .supervisor →
      (∀ k : SlotId, slotState s k ≠ some .active ∧ slotState s k ≠ some .draining) →
      AcceptedAs p (.setRole p n r.code.toNat)
        ((List.finRange 4).map fun i => (if i = n then r else s.ports[i].role).code)
        (fun s => { s with ports := s.ports.set n { s.ports[n] with role := r } }) s) ∧
    (∀ c : Nat, c < 64 →
      AcceptedAs p (.setNotices p c) [byte c]
        (fun s => { s with ports := s.ports.set p { s.ports[p] with subscription := BitVec.ofNat 6 c } }) s)

/-- The reads answer with what they name and change nothing.
Layouts the rules leave open are the model's reading (log 15). -/
def Obligations.ReadsAnswerAndChangeNothing : Prop :=
  ∀ (p : PortId) (s : State),
    (AcceptedAs p (.readStatus p) (statusBytes p s) id s ∧ (statusBytes p s).length ≤ 121) ∧
    (∀ (t : Nat) (pg : Option Nat),
      (∀ r : SetRecord, setTagged s (BitVec.ofNat 32 t) = some r →
        AcceptedAs p (.readSet p t pg) (if pg.getD 0 = 0 then setFixedBytes s r else setPageBytes s r (pg.getD 0)) id s) ∧
      (setTagged s (BitVec.ofNat 32 t) = none → RefusedAs p (.readSet p t pg) .notFound [] s)) ∧
    (∀ (k : SlotId) (q : SeqId) (pg : Option Nat) (c : Context), s.slots[k] = some c →
      (∀ x : Sequence, c.sequences[q] = some x →
        AcceptedAs p (.readSequence p k q pg)
          (sequenceBytes x ++ listBytes (fun r => be 5 r.low ++ be 5 r.high) (pageOf 6 (pg.getD 0) (c.rangesOf q))) id s ∧
        AcceptedAs p (.readQueue p k q pg)
          ([c.policy.code, byte c.limit, byte x.queue.length, byte (pg.getD 0)] ++
            listBytes queueEntryBytes (pageOf 8 (pg.getD 0) x.queue)) id s) ∧
      (c.sequences[q] = none →
        AcceptedAs p (.readSequence p k q pg) [0] id s ∧ RefusedAs p (.readQueue p k q pg) .notFound [] s)) ∧
    (∀ (k : SlotId) (c : Context), s.slots[k] = some c →
      AcceptedAs p (.readContext p k 0 none) (summaryBytes s k c) id s ∧
      AcceptedAs p (.readContext p k 1 none) (listBytes allocEntryBytes c.list) id s ∧
      AcceptedAs p (.readContext p k 2 none) (c.assignments.toList.flatMap assignmentBytes) id s ∧
      (∀ f : FormatId, AcceptedAs p (.readContext p k 3 (some f)) (formatBytes c.formats[f]) id s) ∧
      AcceptedAs p (.readContext p k 4 none) (marksBytes c.marks) id s ∧
      AcceptedAs p (.readContext p k 5 none)
        (c.inspection.toList.map fun o => (o.map fun e => byte (e : Nat)).getD 0xFF) id s) ∧
    (∀ k : SlotId, s.slots[k] = none →
      AcceptedAs p (.readContext p k 0 none) [0] id s ∧ RefusedAs p (.readContext p k 1 none) .wrongState [] s) ∧
    (∀ h : HeadId, AcceptedAs p (.readHead p h) (headBytes s h) id s) ∧
    (∀ pg : Option Nat, AcceptedAs p (.readRegistration p pg) (regBytes s.mtu (pg.getD 0)) id s) ∧
    AcceptedAs p (.readLines p) (s.lm.lines.toList.flatMap lineBytes) id s ∧
    AcceptedAs p (.readBackground p) (backgroundBytes s.background) id s

/-! ## The head link -/

/-- ORDER_DEADLINE: the order of a head for the set x - L - 1 becomes LATE and leaves both queues; without such an order
nothing changes. The command stands for that head's expiry step at the present cycle (log 7). COMPLETION settles the order
with its tag as PRINTED or FAILED; without one it is stale and sends HEAD_STALE. -/
def Obligations.OrdersSettled : Prop :=
  (∀ (s : State) (h : HeadId),
    (s.hou.heads[h].placement = none → exec (.orderDeadline h) s = .next s) ∧
    (∀ pl : Placement, s.hou.heads[h].placement = some pl →
      let t := s.wpu.cycle - BitVec.ofNat 32 (pl.lag + 1)
      ((∀ o ∈ s.hou.heads[h].queue, o.tag ≠ t) → exec (.orderDeadline h) s = .next s) ∧
      ((∃ o ∈ s.hou.heads[h].queue, o.tag = t) →
        exec (.orderDeadline h) s = .next { s with
          st := { s.st with
            ring := s.st.ring.map fun r => if r.tag = t then settledSet s h .late .headLate r else r },
          hou := { s.hou with
            heads := s.hou.heads.set h { s.hou.heads[h] with
              queue := s.hou.heads[h].queue.filter fun o => o.tag != t, late := s.hou.heads[h].late + 1 },
            transmit := s.hou.transmit.filter fun w => !(w.head == h && w.order.tag == t) } }))) ∧
  ∀ (s : State) (h : HeadId) (t : Cycle),
    let queue := s.hou.heads[h].queue.filter fun o => o.tag != t
    let transmit := s.hou.transmit.filter fun w => !(w.head == h && w.order.tag == t)
    ((∃ o ∈ s.hou.heads[h].queue, o.tag = t) →
      exec (.completion h t .printed) s = .next { s with
        st := { s.st with
          ring := s.st.ring.map fun r => if r.tag = t then { r with heads := r.heads.set h .printed } else r },
        hou := { s.hou with
          heads := s.hou.heads.set h { s.hou.heads[h] with queue := queue, printed := s.hou.heads[h].printed + 1 },
          transmit := transmit } } ∧
      exec (.completion h t .failed) s = .next { s with
        st := { s.st with
          ring := s.st.ring.map fun r => if r.tag = t then settledSet s h .failed .headFailed r else r },
        hou := { s.hou with
          heads := s.hou.heads.set h { s.hou.heads[h] with queue := queue, failed := s.hou.heads[h].failed + 1 },
          transmit := transmit } }) ∧
    ((∀ o ∈ s.hou.heads[h].queue, o.tag ≠ t) →
      exec (.completion h t .printed) s = .next (notify .headStale (byte h :: be 4 t.toNat ++ [0]) s) ∧
      exec (.completion h t .failed) s = .next (notify .headStale (byte h :: be 4 t.toNat ++ [1]) s))

/-- STATE(READY) makes a head READY. STATE(FAULT) makes it FAULTED, fails every order of it, and latches HEAD_FAULT when the
head is assigned in the ACTIVE context. -/
def Obligations.HeadReportsTaken : Prop :=
  ∀ (s : State) (h : HeadId),
    (s.hou.heads[h].device = .ready → exec (.stateMessage h .ready) s = .next s) ∧
    (s.hou.heads[h].device ≠ .ready →
      exec (.stateMessage h .ready) s = .next (notify .headState [byte h, 1]
        { s with hou := { s.hou with
          heads := s.hou.heads.set h { s.hou.heads[h] with device := .ready } } })) ∧
    (∃ t, exec (.stateMessage h .fault) s = .next t ∧
      t.hou = { s.hou with
        heads := s.hou.heads.set h { s.hou.heads[h] with
          device := .faulted, queue := [],
          failed := s.hou.heads[h].failed + BitVec.ofNat 32 s.hou.heads[h].queue.length },
        transmit := s.hou.transmit.filter fun w =>
          !(w.head == h && s.hou.heads[h].queue.any fun o => o.tag == w.order.tag) } ∧
      t.st = { s.st with
        ring := s.st.ring.map fun r =>
          if s.hou.heads[h].queue.any (fun o => o.tag == r.tag) then settledSet s h .failed .headFailed r
          else r } ∧
      t.lm.stops = (if assignedInActive s h then s.lm.stops ||| 8 else s.lm.stops) ∧
      t.wpu = s.wpu ∧ t.mtu = s.mtu ∧ t.slots = s.slots ∧ t.ij = s.ij ∧ t.background = s.background ∧
      t.activation = s.activation ∧ t.pending = s.pending)

/-- The head link's receiver: it takes a byte within a frame; a sound COMPLETION or STATE frame is that command, anything
else that ends is discarded; a discard, a gap or a bad stop bit returns it to HUNTING. That a STATE with a value above 1 is
discarded is log 33; what HEAD_FRAME_DISCARD and a bad stop bit stand for is log 31. -/
def Obligations.HeadLinkReceives : Prop :=
  ∀ s : State,
    let hunting : State := { s with hou := { s.hou with receiver := .hunting } }
    exec .headFrameDiscard s = .next hunting ∧ exec .headLinkGapTimeout s = .next hunting ∧
    exec .headLinkBadStopBit s = .next hunting ∧
    ∀ b : Byte,
      (∀ r : Receiver, s.hou.receiver.step b = .within r →
        exec (.headLinkByteReceived b) s = .next { s with hou := { s.hou with receiver := r } }) ∧
      (s.hou.receiver.step b = .ended .garbled → exec (.headLinkByteReceived b) s = .next hunting) ∧
      (∀ body : List Byte, s.hou.receiver.step b = .ended (.sound body) →
        (∀ (h : HeadId) (t : Cycle) (res : PrintResult),
          body = 2 :: byte h :: be 4 t.toNat ++ [if res = .printed then 0 else 1] →
          exec (.headLinkByteReceived b) s = exec (.completion h t res) hunting) ∧
        (∀ (h : HeadId) (rep : HeadReport), body = [3, byte h, if rep = .ready then 0 else 1] →
          exec (.headLinkByteReceived b) s = exec (.stateMessage h rep) hunting) ∧
        ((∀ (h : HeadId) (t : Cycle) (res : PrintResult),
            body ≠ 2 :: byte h :: be 4 t.toNat ++ [if res = .printed then 0 else 1]) →
          (∀ (h : HeadId) (rep : HeadReport), body ≠ [3, byte h, if rep = .ready then 0 else 1]) →
          exec (.headLinkByteReceived b) s = .next hunting))

/-- ORDER_SEND and FRAME_SEND_START start the oldest waiting frame on a free line; ORDER_FRAME_END and FRAME_SEND_END free
the line, and the end of a response frees its place in the receive buffer. That frames start at commands of their own, but
for what the head link does within a boundary, is logs 32 and 36, that such a command does nothing on a busy line or an empty
queue is log 23, and that a response keeps or has lost its place is log 29. The order of the transmit queue is OrdersStayInOrder. -/
def Obligations.FramesSentInOrder : Prop :=
  (∀ s : State,
    (∀ (w : WaitingOrder) (rest : List WaitingOrder), s.hou.sending = none → s.hou.transmit = w :: rest →
      exec .orderSend s = .next { s with hou := { s.hou with
        transmit := rest,
        sending := some (frameBytes ([1, byte w.head] ++ be 4 w.order.tag.toNat ++
          [byte w.order.text.length] ++ w.order.text)) } }) ∧
    ((s.hou.sending ≠ none ∨ s.hou.transmit = []) → exec .orderSend s = .next s) ∧
    exec .orderFrameEnd s = .next { s with hou := { s.hou with sending := none } }) ∧
  (∀ (s : State) (p : PortId),
    let q := s.ports[p]
    (∀ (f : OutFrame) (rest : List OutFrame), q.sending = none → q.out = f :: rest →
      let flags : Byte := (if f.response && q.overrun then 1 else 0) ||| (if q.dropped then 2 else 0)
      exec (.frameSendStart p) s = .next { s with ports := s.ports.set p { q with
        out := rest,
        sending := some { bytes := frameBytes (f.body.set (if f.response then 2 else 1) flags), holdsPlace := f.response },
        overrun := if f.response then false else q.overrun, dropped := false } }) ∧
    ((q.sending ≠ none ∨ q.out = []) → exec (.frameSendStart p) s = .next s) ∧
    (∀ f : SentFrame, q.sending = some f →
      exec (.frameSendEnd p) s = .next { s with ports := s.ports.set p { q with
        sending := none,
        buffer := if f.holdsPlace then q.buffer.eraseP BufferedFrame.taken else q.buffer } }) ∧
    (q.sending = none → exec (.frameSendEnd p) s = .next s))

/-! ## The ports -/

/-- A frame that ends joins the buffer or, behind two, is discarded with the overrun flag; a gap or a bad stop bit ends a
frame in progress garbled; a break resets the port and keeps its role and the frame on its transmit line, which holds no
place any more (log 29). What a bad stop bit is beside a break is log 31. -/
def Obligations.PortReceives : Prop :=
  ∀ (s : State) (p : PortId),
    let q := s.ports[p]
    let ended := fun (f : RxFrame) => ({ s with ports := s.ports.set p (
      if q.buffer.length < 2 then { q with receiver := .hunting, buffer := q.buffer ++ [{ frame := f, taken := false }] }
      else { q with receiver := .hunting, overrun := true }) } : State)
    (∀ body : List Byte, 1 ≤ body.length → body.length ≤ 128 →
      exec (.portFrameReceived p (.sound body)) s = .next (ended (.sound body))) ∧
    exec (.portFrameReceived p .garbled) s = .next (ended .garbled) ∧
    (∀ (b : Byte) (r : Receiver), q.receiver.step b = .within r →
      exec (.portByteReceived p b) s = .next { s with ports := s.ports.set p { q with receiver := r } }) ∧
    (∀ (b : Byte) (f : RxFrame), q.receiver.step b = .ended f → exec (.portByteReceived p b) s = .next (ended f)) ∧
    (q.receiver = .hunting → exec (.frameGapTimeout p) s = .next s ∧ exec (.badStopBit p) s = .next s) ∧
    (q.receiver ≠ .hunting →
      exec (.frameGapTimeout p) s = .next (ended .garbled) ∧ exec (.badStopBit p) s = .next (ended .garbled)) ∧
    (let r : Port :=
      { role := q.role, receiver := .hunting, buffer := [], subscription := 0, out := [], overrun := false,
        dropped := false, sending := q.sending.map fun f => { f with holdsPlace := false } }
     exec (.portReset p) s = .next { s with ports := s.ports.set p r })

/-- A garbled frame is answered GARBLED with code 80h. A body that is no request is answered BAD_VALUE, or ROLE_DENIED when its
code is a request's that the port's role does not admit (log 3). A request at the front of a port whose role does not include
it is answered ROLE_DENIED and has no other effect. -/
def Obligations.BadFramesAndRolesAnswered : Prop :=
  (∀ (s : State) (p : PortId),
    let q := s.ports[p]
    let answer := fun (code st : Byte) => ({ s with ports := s.ports.set p { q with
      buffer := markTaken q.buffer,
      out := q.out ++ [{ response := true, body := [code, st, 0] ++ be 4 s.wpu.cycle.toNat }] } } : State)
    (nextFrame q.buffer = some .garbled → exec (.garbledFrame p) s = .next (answer 0x80 0x09)) ∧
    (∀ (c : Byte) (rest : List Byte), nextFrame q.buffer = some (.sound (c :: rest)) → rest.length ≤ 127 →
      parseRequest p (c :: rest) = none →
      (isRequestCode c.toNat = false ∨ q.role.admits c.toNat = true →
        exec (.unknownRequestCode p (c :: rest)) s = .next (answer (c ||| 0x80) 0x03)) ∧
      (isRequestCode c.toNat = true → q.role.admits c.toNat = false →
        exec (.unknownRequestCode p (c :: rest)) s = .next (answer (c ||| 0x80) 0x01)))) ∧
  ∀ (c : Instr) (p : PortId) (s : State) (code : Nat),
    portOf c = some p → requestCode c = some code → AtFront p c s →
    (match s.ports[p].role with
      | .supervisor => code = 0x15 ∨ code = 0x16
      | .drive => code < 0x30 ∧ code ∉ [0x0A, 0x0B, 0x17, 0x25, 0x27, 0x29]
      | .inspect => code < 0x30 ∧ code ∉ [0x15, 0x16, 0x29]
      | .monitor => code < 0x30 ∧ code ≠ 0x29) →
    exec c s = .next (refused p c .roleDenied [] s)

/-- A request command whose frame is not at the front: behind another frame it arrives and waits or is lost, and with no
frame waiting it arrives and is taken at once. One whose body is longer than a frame's 128 bytes arrives as a garbled frame.
This is the model's choice (log 2). Between its retirement and its allocation, in either order, a boundary takes waiting
READ_QUEUEs, WITHDRAW_REPRINTs and other reads, but for READ_STATUS, READ_SET, READ_HEAD and READ_REGISTRATION, with the effect of their
commands, and no other frame; which ports' turns come there is free (log 36). -/
def Obligations.RequestsWaitTheirTurn : Prop :=
  ∀ (c : Instr) (p : PortId) (s : State), portOf c = some p →
    let arrived := fun (f : RxFrame) => ({ s with ports := s.ports.set p (
      if s.ports[p].buffer.length < 2 then
        { s.ports[p] with buffer := s.ports[p].buffer ++ [{ frame := f, taken := false }] }
      else { s.ports[p] with overrun := true }) } : State)
    let own := arrived (.sound (encodeRequest c))
    ((encodeRequest c).length ≤ 128 →
      (∀ g : RxFrame, nextFrame s.ports[p].buffer = some g → g ≠ .sound (encodeRequest c) → exec c s = .next own) ∧
      (nextFrame s.ports[p].buffer = none → 2 ≤ s.ports[p].buffer.length → exec c s = .next own) ∧
      (nextFrame s.ports[p].buffer = none → s.ports[p].buffer.length < 2 → exec c s = exec c own)) ∧
    (128 < (encodeRequest c).length → exec c s = .next (arrived .garbled)) ∧
    (c.wf = true → AtFront p c s → ∀ code : Nat, requestCode c = some code →
      (code ∈ [0x19, 0x32, 0x33, 0x34, 0x37, 0x38, 0x39] → exec c s = .next (takeWithin s p)) ∧
      (code ∉ [0x19, 0x32, 0x33, 0x34, 0x37, 0x38, 0x39] → takeWithin s p = s)) ∧
    ((∀ body : List Byte, nextFrame s.ports[p].buffer = some (.sound body) → parseRequest p body = none) →
      takeWithin s p = s) ∧
    ∀ o : BoundaryOrder,
      let begun := suspension (changeover s)
      (o.retirementFirst = true → trackBoundary o s = allocate (o.requests.foldl takeWithin (retire begun))) ∧
      (o.retirementFirst = false → trackBoundary o s = retire (o.requests.foldl takeWithin (allocate begun)))

/-! ## Frames and encodings -/

/-- Reading a well-formed request's body gives the request back, with every parameter. -/
def Obligations.RequestRoundTrip : Prop :=
  ∀ (c : Instr) (p : PortId), portOf c = some p → c.wf = true → parseRequest p (encodeRequest c) = some c

/-- The bytes of a frame, received one by one by a port that is HUNTING, put exactly its body into the receive buffer. -/
def Obligations.FrameReceivedWhole : Prop :=
  ∀ (p : PortId) (body : List Byte) (s : State), 1 ≤ body.length → body.length ≤ 128 →
    s.ports[p].receiver = .hunting →
    (frameBytes body).foldl
      (fun (o : Host.Outcome State Fault Refusal) b =>
        match o with
        | .next t => exec (.portByteReceived p b) t
        | .fault f => .fault f
        | .refused r => .refused r) (.next s) =
    exec (.portFrameReceived p (.sound body)) s

/-! ## What every step keeps -/

/-- The counters of every sequence stay in balance and every reprint queue stays sound. -/
def Obligations.NumbersStayAccounted : Prop :=
  ∀ s t : State, step s = .next t →
    (CountersBalance s → CountersBalance t) ∧ (QueuesSound s → QueuesSound t)

/-- No input or output function is held twice, one port at most is SUPERVISOR, buffers, receivers and notice queues keep their
bounds, and the WPU's fields stay in range. -/
def Obligations.PressAndPortsStaySound : Prop :=
  ∀ s t : State, step s = .next t →
    (LinesUnique s → LinesUnique t) ∧ (OneSupervisor s → OneSupervisor t) ∧ (PortsBounded s → PortsBounded t) ∧
    (WebInRange s → WebInRange t) ∧ (s.hou.receiver.sound → t.hou.receiver.sound)

/-- The journal's records keep consecutive indices, and an OPEN tail stays an UNREAD run that can grow. Its held and reserved
records stay within 1024, and the reserved count stays the sum of the sets' and the contexts' reservations. -/
def Obligations.JournalStaysSound : Prop :=
  ∀ s t : State, step s = .next t →
    (JournalSound s → JournalSound t) ∧ (RunSound s → SpaceSound s → SpaceSound t)

/-- The contexts and the ring stay in agreement: at most one context ACTIVE and one DRAINING, sets in flight counting the
slot's sets, and the ring's sets oldest first; so no two sets have one tag and the ring holds at most 128. -/
def Obligations.ContextsAndRingStaySound : Prop :=
  (∀ s t : State, step s = .next t → RunSound s → RunSound t) ∧
  ∀ s : State, RunSound s → (s.st.ring.map SetRecord.tag).Nodup ∧ s.st.ring.length ≤ 128

/-- Each head's orders and the transmit queue stay in order: waiting orders stand by issue boundary and then by head number;
so a head has at most 2 orders outstanding and at most 48 wait. -/
def Obligations.OrdersStayInOrder : Prop :=
  (∀ s t : State, step s = .next t → RunSound s → OrdersSound s → OrdersSound t) ∧
  ∀ s : State, OrdersSound s →
    (∀ h : HeadId, s.hou.heads[h].queue.length ≤ 2) ∧ s.hou.transmit.length ≤ 48

/-- Every output line shows the level it drives, after every command but one that forces a line's level from outside.
Holding an output from outside is log 10. -/
def Obligations.OutputsShowTheirDrive : Prop :=
  ∀ (c : Instr) (s t : State), (∀ (i : LineId) (v : Bool), c ≠ .fieldLineLevelChange i v) →
    (∀ (i : LineId) (v : Bool), lineDrive s i = some v → s.lm.lines[i].level = v) → exec c s = .next t →
    ∀ (i : LineId) (v : Bool), lineDrive t i = some v → t.lm.lines[i].level = v

/-- What every step keeps holds right after reset.
The levels on the pins are the model's (log 9). -/
def Obligations.InvariantsHoldAtReset : Prop :=
  CountersBalance State.reset ∧ QueuesSound State.reset ∧ LinesUnique State.reset ∧ OneSupervisor State.reset ∧
    PortsBounded State.reset ∧ WebInRange State.reset ∧ JournalSound State.reset ∧ ExclusionsSound State.reset ∧
    RunSound State.reset ∧ SpaceSound State.reset ∧ OrdersSound State.reset ∧ State.reset.hou.receiver.sound ∧
    ∀ (i : LineId) (v : Bool), lineDrive State.reset i = some v → State.reset.lm.lines[i].level = v
end

