-- ==== Sys2Proof/Laws/State.lean ====
section
/-! SUPPORT. One lemma for each field and each update of the state: what the update leaves as it was. -/

namespace Sys2Proof.Machine

/-! ### notify -/

@[simp] theorem notify_wpu (k : NoticeKind) (b : List Byte) (s : State) : (notify k b s).wpu = s.wpu := rfl
@[simp] theorem notify_mtu (k : NoticeKind) (b : List Byte) (s : State) : (notify k b s).mtu = s.mtu := rfl
@[simp] theorem notify_st (k : NoticeKind) (b : List Byte) (s : State) : (notify k b s).st = s.st := rfl
@[simp] theorem notify_background (k : NoticeKind) (b : List Byte) (s : State) : (notify k b s).background = s.background := rfl
@[simp] theorem notify_slots (k : NoticeKind) (b : List Byte) (s : State) : (notify k b s).slots = s.slots := rfl
@[simp] theorem notify_activation (k : NoticeKind) (b : List Byte) (s : State) : (notify k b s).activation = s.activation := rfl
@[simp] theorem notify_hou (k : NoticeKind) (b : List Byte) (s : State) : (notify k b s).hou = s.hou := rfl
@[simp] theorem notify_ij (k : NoticeKind) (b : List Byte) (s : State) : (notify k b s).ij = s.ij := rfl
@[simp] theorem notify_lm (k : NoticeKind) (b : List Byte) (s : State) : (notify k b s).lm = s.lm := rfl
@[simp] theorem notify_pending (k : NoticeKind) (b : List Byte) (s : State) : (notify k b s).pending = s.pending := rfl
@[simp] theorem notify_choices (k : NoticeKind) (b : List Byte) (s : State) : (notify k b s).choices = s.choices := rfl

/-! ### showDriven -/

@[simp] theorem showDriven_wpu (f : LineFunction) (v : Bool) (s : State) : (showDriven f v s).wpu = s.wpu := rfl
@[simp] theorem showDriven_mtu (f : LineFunction) (v : Bool) (s : State) : (showDriven f v s).mtu = s.mtu := rfl
@[simp] theorem showDriven_st (f : LineFunction) (v : Bool) (s : State) : (showDriven f v s).st = s.st := rfl
@[simp] theorem showDriven_background (f : LineFunction) (v : Bool) (s : State) : (showDriven f v s).background = s.background := rfl
@[simp] theorem showDriven_slots (f : LineFunction) (v : Bool) (s : State) : (showDriven f v s).slots = s.slots := rfl
@[simp] theorem showDriven_activation (f : LineFunction) (v : Bool) (s : State) : (showDriven f v s).activation = s.activation := rfl
@[simp] theorem showDriven_hou (f : LineFunction) (v : Bool) (s : State) : (showDriven f v s).hou = s.hou := rfl
@[simp] theorem showDriven_ij (f : LineFunction) (v : Bool) (s : State) : (showDriven f v s).ij = s.ij := rfl
@[simp] theorem showDriven_ports (f : LineFunction) (v : Bool) (s : State) : (showDriven f v s).ports = s.ports := rfl
@[simp] theorem showDriven_pending (f : LineFunction) (v : Bool) (s : State) : (showDriven f v s).pending = s.pending := rfl
@[simp] theorem showDriven_choices (f : LineFunction) (v : Bool) (s : State) : (showDriven f v s).choices = s.choices := rfl

/-! ### modifyContext -/

@[simp] theorem modifyContext_wpu (k : SlotId) (f : Context → Context) (s : State) : (modifyContext k f s).wpu = s.wpu := rfl
@[simp] theorem modifyContext_mtu (k : SlotId) (f : Context → Context) (s : State) : (modifyContext k f s).mtu = s.mtu := rfl
@[simp] theorem modifyContext_st (k : SlotId) (f : Context → Context) (s : State) : (modifyContext k f s).st = s.st := rfl
@[simp] theorem modifyContext_background (k : SlotId) (f : Context → Context) (s : State) : (modifyContext k f s).background = s.background := rfl
@[simp] theorem modifyContext_activation (k : SlotId) (f : Context → Context) (s : State) : (modifyContext k f s).activation = s.activation := rfl
@[simp] theorem modifyContext_hou (k : SlotId) (f : Context → Context) (s : State) : (modifyContext k f s).hou = s.hou := rfl
@[simp] theorem modifyContext_ij (k : SlotId) (f : Context → Context) (s : State) : (modifyContext k f s).ij = s.ij := rfl
@[simp] theorem modifyContext_lm (k : SlotId) (f : Context → Context) (s : State) : (modifyContext k f s).lm = s.lm := rfl
@[simp] theorem modifyContext_ports (k : SlotId) (f : Context → Context) (s : State) : (modifyContext k f s).ports = s.ports := rfl
@[simp] theorem modifyContext_pending (k : SlotId) (f : Context → Context) (s : State) : (modifyContext k f s).pending = s.pending := rfl
@[simp] theorem modifyContext_choices (k : SlotId) (f : Context → Context) (s : State) : (modifyContext k f s).choices = s.choices := rfl

/-! ### modifySequence -/

@[simp] theorem modifySequence_wpu (k : SlotId) (q : SeqId) (f : Sequence → Sequence) (s : State) : (modifySequence k q f s).wpu = s.wpu := rfl
@[simp] theorem modifySequence_mtu (k : SlotId) (q : SeqId) (f : Sequence → Sequence) (s : State) : (modifySequence k q f s).mtu = s.mtu := rfl
@[simp] theorem modifySequence_st (k : SlotId) (q : SeqId) (f : Sequence → Sequence) (s : State) : (modifySequence k q f s).st = s.st := rfl
@[simp] theorem modifySequence_background (k : SlotId) (q : SeqId) (f : Sequence → Sequence) (s : State) : (modifySequence k q f s).background = s.background := rfl
@[simp] theorem modifySequence_activation (k : SlotId) (q : SeqId) (f : Sequence → Sequence) (s : State) : (modifySequence k q f s).activation = s.activation := rfl
@[simp] theorem modifySequence_hou (k : SlotId) (q : SeqId) (f : Sequence → Sequence) (s : State) : (modifySequence k q f s).hou = s.hou := rfl
@[simp] theorem modifySequence_ij (k : SlotId) (q : SeqId) (f : Sequence → Sequence) (s : State) : (modifySequence k q f s).ij = s.ij := rfl
@[simp] theorem modifySequence_lm (k : SlotId) (q : SeqId) (f : Sequence → Sequence) (s : State) : (modifySequence k q f s).lm = s.lm := rfl
@[simp] theorem modifySequence_ports (k : SlotId) (q : SeqId) (f : Sequence → Sequence) (s : State) : (modifySequence k q f s).ports = s.ports := rfl
@[simp] theorem modifySequence_pending (k : SlotId) (q : SeqId) (f : Sequence → Sequence) (s : State) : (modifySequence k q f s).pending = s.pending := rfl
@[simp] theorem modifySequence_choices (k : SlotId) (q : SeqId) (f : Sequence → Sequence) (s : State) : (modifySequence k q f s).choices = s.choices := rfl

/-! ### setSlot -/

@[simp] theorem setSlot_wpu (k : SlotId) (c : Option Context) (s : State) : (setSlot k c s).wpu = s.wpu := rfl
@[simp] theorem setSlot_mtu (k : SlotId) (c : Option Context) (s : State) : (setSlot k c s).mtu = s.mtu := rfl
@[simp] theorem setSlot_st (k : SlotId) (c : Option Context) (s : State) : (setSlot k c s).st = s.st := rfl
@[simp] theorem setSlot_background (k : SlotId) (c : Option Context) (s : State) : (setSlot k c s).background = s.background := rfl
@[simp] theorem setSlot_activation (k : SlotId) (c : Option Context) (s : State) : (setSlot k c s).activation = s.activation := rfl
@[simp] theorem setSlot_hou (k : SlotId) (c : Option Context) (s : State) : (setSlot k c s).hou = s.hou := rfl
@[simp] theorem setSlot_ij (k : SlotId) (c : Option Context) (s : State) : (setSlot k c s).ij = s.ij := rfl
@[simp] theorem setSlot_lm (k : SlotId) (c : Option Context) (s : State) : (setSlot k c s).lm = s.lm := rfl
@[simp] theorem setSlot_ports (k : SlotId) (c : Option Context) (s : State) : (setSlot k c s).ports = s.ports := rfl
@[simp] theorem setSlot_pending (k : SlotId) (c : Option Context) (s : State) : (setSlot k c s).pending = s.pending := rfl
@[simp] theorem setSlot_choices (k : SlotId) (c : Option Context) (s : State) : (setSlot k c s).choices = s.choices := rfl

/-! ### modifySet -/

@[simp] theorem modifySet_wpu (t : Cycle) (f : SetRecord → SetRecord) (s : State) : (modifySet t f s).wpu = s.wpu := rfl
@[simp] theorem modifySet_mtu (t : Cycle) (f : SetRecord → SetRecord) (s : State) : (modifySet t f s).mtu = s.mtu := rfl
@[simp] theorem modifySet_background (t : Cycle) (f : SetRecord → SetRecord) (s : State) : (modifySet t f s).background = s.background := rfl
@[simp] theorem modifySet_slots (t : Cycle) (f : SetRecord → SetRecord) (s : State) : (modifySet t f s).slots = s.slots := rfl
@[simp] theorem modifySet_activation (t : Cycle) (f : SetRecord → SetRecord) (s : State) : (modifySet t f s).activation = s.activation := rfl
@[simp] theorem modifySet_hou (t : Cycle) (f : SetRecord → SetRecord) (s : State) : (modifySet t f s).hou = s.hou := rfl
@[simp] theorem modifySet_ij (t : Cycle) (f : SetRecord → SetRecord) (s : State) : (modifySet t f s).ij = s.ij := rfl
@[simp] theorem modifySet_lm (t : Cycle) (f : SetRecord → SetRecord) (s : State) : (modifySet t f s).lm = s.lm := rfl
@[simp] theorem modifySet_ports (t : Cycle) (f : SetRecord → SetRecord) (s : State) : (modifySet t f s).ports = s.ports := rfl
@[simp] theorem modifySet_pending (t : Cycle) (f : SetRecord → SetRecord) (s : State) : (modifySet t f s).pending = s.pending := rfl
@[simp] theorem modifySet_choices (t : Cycle) (f : SetRecord → SetRecord) (s : State) : (modifySet t f s).choices = s.choices := rfl

/-! ### modifySets -/

@[simp] theorem modifySets_wpu (n : SetRecord → Bool) (f : SetRecord → SetRecord) (s : State) : (modifySets n f s).wpu = s.wpu := rfl
@[simp] theorem modifySets_mtu (n : SetRecord → Bool) (f : SetRecord → SetRecord) (s : State) : (modifySets n f s).mtu = s.mtu := rfl
@[simp] theorem modifySets_background (n : SetRecord → Bool) (f : SetRecord → SetRecord) (s : State) : (modifySets n f s).background = s.background := rfl
@[simp] theorem modifySets_slots (n : SetRecord → Bool) (f : SetRecord → SetRecord) (s : State) : (modifySets n f s).slots = s.slots := rfl
@[simp] theorem modifySets_activation (n : SetRecord → Bool) (f : SetRecord → SetRecord) (s : State) : (modifySets n f s).activation = s.activation := rfl
@[simp] theorem modifySets_hou (n : SetRecord → Bool) (f : SetRecord → SetRecord) (s : State) : (modifySets n f s).hou = s.hou := rfl
@[simp] theorem modifySets_ij (n : SetRecord → Bool) (f : SetRecord → SetRecord) (s : State) : (modifySets n f s).ij = s.ij := rfl
@[simp] theorem modifySets_lm (n : SetRecord → Bool) (f : SetRecord → SetRecord) (s : State) : (modifySets n f s).lm = s.lm := rfl
@[simp] theorem modifySets_ports (n : SetRecord → Bool) (f : SetRecord → SetRecord) (s : State) : (modifySets n f s).ports = s.ports := rfl
@[simp] theorem modifySets_pending (n : SetRecord → Bool) (f : SetRecord → SetRecord) (s : State) : (modifySets n f s).pending = s.pending := rfl
@[simp] theorem modifySets_choices (n : SetRecord → Bool) (f : SetRecord → SetRecord) (s : State) : (modifySets n f s).choices = s.choices := rfl

/-! ### modifyTracker -/

@[simp] theorem modifyTracker_wpu (f : Tracker → Tracker) (s : State) : (modifyTracker f s).wpu = s.wpu := rfl
@[simp] theorem modifyTracker_mtu (f : Tracker → Tracker) (s : State) : (modifyTracker f s).mtu = s.mtu := rfl
@[simp] theorem modifyTracker_background (f : Tracker → Tracker) (s : State) : (modifyTracker f s).background = s.background := rfl
@[simp] theorem modifyTracker_slots (f : Tracker → Tracker) (s : State) : (modifyTracker f s).slots = s.slots := rfl
@[simp] theorem modifyTracker_activation (f : Tracker → Tracker) (s : State) : (modifyTracker f s).activation = s.activation := rfl
@[simp] theorem modifyTracker_hou (f : Tracker → Tracker) (s : State) : (modifyTracker f s).hou = s.hou := rfl
@[simp] theorem modifyTracker_ij (f : Tracker → Tracker) (s : State) : (modifyTracker f s).ij = s.ij := rfl
@[simp] theorem modifyTracker_lm (f : Tracker → Tracker) (s : State) : (modifyTracker f s).lm = s.lm := rfl
@[simp] theorem modifyTracker_ports (f : Tracker → Tracker) (s : State) : (modifyTracker f s).ports = s.ports := rfl
@[simp] theorem modifyTracker_pending (f : Tracker → Tracker) (s : State) : (modifyTracker f s).pending = s.pending := rfl
@[simp] theorem modifyTracker_choices (f : Tracker → Tracker) (s : State) : (modifyTracker f s).choices = s.choices := rfl

/-! ### modifyHead -/

@[simp] theorem modifyHead_wpu (h : HeadId) (f : Head → Head) (s : State) : (modifyHead h f s).wpu = s.wpu := rfl
@[simp] theorem modifyHead_mtu (h : HeadId) (f : Head → Head) (s : State) : (modifyHead h f s).mtu = s.mtu := rfl
@[simp] theorem modifyHead_st (h : HeadId) (f : Head → Head) (s : State) : (modifyHead h f s).st = s.st := rfl
@[simp] theorem modifyHead_background (h : HeadId) (f : Head → Head) (s : State) : (modifyHead h f s).background = s.background := rfl
@[simp] theorem modifyHead_slots (h : HeadId) (f : Head → Head) (s : State) : (modifyHead h f s).slots = s.slots := rfl
@[simp] theorem modifyHead_activation (h : HeadId) (f : Head → Head) (s : State) : (modifyHead h f s).activation = s.activation := rfl
@[simp] theorem modifyHead_ij (h : HeadId) (f : Head → Head) (s : State) : (modifyHead h f s).ij = s.ij := rfl
@[simp] theorem modifyHead_lm (h : HeadId) (f : Head → Head) (s : State) : (modifyHead h f s).lm = s.lm := rfl
@[simp] theorem modifyHead_ports (h : HeadId) (f : Head → Head) (s : State) : (modifyHead h f s).ports = s.ports := rfl
@[simp] theorem modifyHead_pending (h : HeadId) (f : Head → Head) (s : State) : (modifyHead h f s).pending = s.pending := rfl
@[simp] theorem modifyHead_choices (h : HeadId) (f : Head → Head) (s : State) : (modifyHead h f s).choices = s.choices := rfl

/-! ### modifyWpu -/

@[simp] theorem modifyWpu_mtu (f : Wpu → Wpu) (s : State) : (modifyWpu f s).mtu = s.mtu := rfl
@[simp] theorem modifyWpu_st (f : Wpu → Wpu) (s : State) : (modifyWpu f s).st = s.st := rfl
@[simp] theorem modifyWpu_background (f : Wpu → Wpu) (s : State) : (modifyWpu f s).background = s.background := rfl
@[simp] theorem modifyWpu_slots (f : Wpu → Wpu) (s : State) : (modifyWpu f s).slots = s.slots := rfl
@[simp] theorem modifyWpu_activation (f : Wpu → Wpu) (s : State) : (modifyWpu f s).activation = s.activation := rfl
@[simp] theorem modifyWpu_hou (f : Wpu → Wpu) (s : State) : (modifyWpu f s).hou = s.hou := rfl
@[simp] theorem modifyWpu_ij (f : Wpu → Wpu) (s : State) : (modifyWpu f s).ij = s.ij := rfl
@[simp] theorem modifyWpu_lm (f : Wpu → Wpu) (s : State) : (modifyWpu f s).lm = s.lm := rfl
@[simp] theorem modifyWpu_ports (f : Wpu → Wpu) (s : State) : (modifyWpu f s).ports = s.ports := rfl
@[simp] theorem modifyWpu_pending (f : Wpu → Wpu) (s : State) : (modifyWpu f s).pending = s.pending := rfl
@[simp] theorem modifyWpu_choices (f : Wpu → Wpu) (s : State) : (modifyWpu f s).choices = s.choices := rfl

/-! ### modifyPort -/

@[simp] theorem modifyPort_wpu (p : PortId) (f : Port → Port) (s : State) : (modifyPort p f s).wpu = s.wpu := rfl
@[simp] theorem modifyPort_mtu (p : PortId) (f : Port → Port) (s : State) : (modifyPort p f s).mtu = s.mtu := rfl
@[simp] theorem modifyPort_st (p : PortId) (f : Port → Port) (s : State) : (modifyPort p f s).st = s.st := rfl
@[simp] theorem modifyPort_background (p : PortId) (f : Port → Port) (s : State) : (modifyPort p f s).background = s.background := rfl
@[simp] theorem modifyPort_slots (p : PortId) (f : Port → Port) (s : State) : (modifyPort p f s).slots = s.slots := rfl
@[simp] theorem modifyPort_activation (p : PortId) (f : Port → Port) (s : State) : (modifyPort p f s).activation = s.activation := rfl
@[simp] theorem modifyPort_hou (p : PortId) (f : Port → Port) (s : State) : (modifyPort p f s).hou = s.hou := rfl
@[simp] theorem modifyPort_ij (p : PortId) (f : Port → Port) (s : State) : (modifyPort p f s).ij = s.ij := rfl
@[simp] theorem modifyPort_lm (p : PortId) (f : Port → Port) (s : State) : (modifyPort p f s).lm = s.lm := rfl
@[simp] theorem modifyPort_pending (p : PortId) (f : Port → Port) (s : State) : (modifyPort p f s).pending = s.pending := rfl
@[simp] theorem modifyPort_choices (p : PortId) (f : Port → Port) (s : State) : (modifyPort p f s).choices = s.choices := rfl

/-! ### answerAt -/

@[simp] theorem answerAt_wpu (p : PortId) (n c : Nat) (st : Status) (b : List Byte) (s : State) : (answerAt p n c st b s).wpu = s.wpu := rfl
@[simp] theorem answerAt_mtu (p : PortId) (n c : Nat) (st : Status) (b : List Byte) (s : State) : (answerAt p n c st b s).mtu = s.mtu := rfl
@[simp] theorem answerAt_st (p : PortId) (n c : Nat) (st : Status) (b : List Byte) (s : State) : (answerAt p n c st b s).st = s.st := rfl
@[simp] theorem answerAt_background (p : PortId) (n c : Nat) (st : Status) (b : List Byte) (s : State) : (answerAt p n c st b s).background = s.background := rfl
@[simp] theorem answerAt_slots (p : PortId) (n c : Nat) (st : Status) (b : List Byte) (s : State) : (answerAt p n c st b s).slots = s.slots := rfl
@[simp] theorem answerAt_activation (p : PortId) (n c : Nat) (st : Status) (b : List Byte) (s : State) : (answerAt p n c st b s).activation = s.activation := rfl
@[simp] theorem answerAt_hou (p : PortId) (n c : Nat) (st : Status) (b : List Byte) (s : State) : (answerAt p n c st b s).hou = s.hou := rfl
@[simp] theorem answerAt_ij (p : PortId) (n c : Nat) (st : Status) (b : List Byte) (s : State) : (answerAt p n c st b s).ij = s.ij := rfl
@[simp] theorem answerAt_lm (p : PortId) (n c : Nat) (st : Status) (b : List Byte) (s : State) : (answerAt p n c st b s).lm = s.lm := rfl
@[simp] theorem answerAt_pending (p : PortId) (n c : Nat) (st : Status) (b : List Byte) (s : State) : (answerAt p n c st b s).pending = s.pending := rfl
@[simp] theorem answerAt_choices (p : PortId) (n c : Nat) (st : Status) (b : List Byte) (s : State) : (answerAt p n c st b s).choices = s.choices := rfl

/-! ### setProbe -/

@[simp] theorem setProbe_wpu (p : Probe) (s : State) : (setProbe p s).wpu = s.wpu := rfl
@[simp] theorem setProbe_mtu (p : Probe) (s : State) : (setProbe p s).mtu = s.mtu := rfl
@[simp] theorem setProbe_st (p : Probe) (s : State) : (setProbe p s).st = s.st := rfl
@[simp] theorem setProbe_slots (p : Probe) (s : State) : (setProbe p s).slots = s.slots := rfl
@[simp] theorem setProbe_activation (p : Probe) (s : State) : (setProbe p s).activation = s.activation := rfl
@[simp] theorem setProbe_hou (p : Probe) (s : State) : (setProbe p s).hou = s.hou := rfl
@[simp] theorem setProbe_ij (p : Probe) (s : State) : (setProbe p s).ij = s.ij := rfl
@[simp] theorem setProbe_lm (p : Probe) (s : State) : (setProbe p s).lm = s.lm := rfl
@[simp] theorem setProbe_ports (p : Probe) (s : State) : (setProbe p s).ports = s.ports := rfl
@[simp] theorem setProbe_pending (p : Probe) (s : State) : (setProbe p s).pending = s.pending := rfl
@[simp] theorem setProbe_choices (p : Probe) (s : State) : (setProbe p s).choices = s.choices := rfl

/-! ### setSkip -/

@[simp] theorem setSkip_wpu (k : Skip) (s : State) : (setSkip k s).wpu = s.wpu := rfl
@[simp] theorem setSkip_mtu (k : Skip) (s : State) : (setSkip k s).mtu = s.mtu := rfl
@[simp] theorem setSkip_st (k : Skip) (s : State) : (setSkip k s).st = s.st := rfl
@[simp] theorem setSkip_slots (k : Skip) (s : State) : (setSkip k s).slots = s.slots := rfl
@[simp] theorem setSkip_activation (k : Skip) (s : State) : (setSkip k s).activation = s.activation := rfl
@[simp] theorem setSkip_hou (k : Skip) (s : State) : (setSkip k s).hou = s.hou := rfl
@[simp] theorem setSkip_ij (k : Skip) (s : State) : (setSkip k s).ij = s.ij := rfl
@[simp] theorem setSkip_lm (k : Skip) (s : State) : (setSkip k s).lm = s.lm := rfl
@[simp] theorem setSkip_ports (k : Skip) (s : State) : (setSkip k s).ports = s.ports := rfl
@[simp] theorem setSkip_pending (k : Skip) (s : State) : (setSkip k s).pending = s.pending := rfl
@[simp] theorem setSkip_choices (k : Skip) (s : State) : (setSkip k s).choices = s.choices := rfl

/-! ### setFunctionLevel -/

@[simp] theorem setFunctionLevel_wpu (f : LineFunction) (v : Bool) (s : State) : (setFunctionLevel f v s).wpu = s.wpu := rfl
@[simp] theorem setFunctionLevel_mtu (f : LineFunction) (v : Bool) (s : State) : (setFunctionLevel f v s).mtu = s.mtu := rfl
@[simp] theorem setFunctionLevel_st (f : LineFunction) (v : Bool) (s : State) : (setFunctionLevel f v s).st = s.st := rfl
@[simp] theorem setFunctionLevel_background (f : LineFunction) (v : Bool) (s : State) : (setFunctionLevel f v s).background = s.background := rfl
@[simp] theorem setFunctionLevel_slots (f : LineFunction) (v : Bool) (s : State) : (setFunctionLevel f v s).slots = s.slots := rfl
@[simp] theorem setFunctionLevel_activation (f : LineFunction) (v : Bool) (s : State) : (setFunctionLevel f v s).activation = s.activation := rfl
@[simp] theorem setFunctionLevel_hou (f : LineFunction) (v : Bool) (s : State) : (setFunctionLevel f v s).hou = s.hou := rfl
@[simp] theorem setFunctionLevel_ij (f : LineFunction) (v : Bool) (s : State) : (setFunctionLevel f v s).ij = s.ij := rfl
@[simp] theorem setFunctionLevel_ports (f : LineFunction) (v : Bool) (s : State) : (setFunctionLevel f v s).ports = s.ports := rfl
@[simp] theorem setFunctionLevel_pending (f : LineFunction) (v : Bool) (s : State) : (setFunctionLevel f v s).pending = s.pending := rfl
@[simp] theorem setFunctionLevel_choices (f : LineFunction) (v : Bool) (s : State) : (setFunctionLevel f v s).choices = s.choices := rfl

/-! ### notifyJob -/

@[simp] theorem notifyJob_wpu (k : SlotId) (j : Option Nat) (a b : Option JobState) (s : State) : (notifyJob k j a b s).wpu = s.wpu := rfl
@[simp] theorem notifyJob_mtu (k : SlotId) (j : Option Nat) (a b : Option JobState) (s : State) : (notifyJob k j a b s).mtu = s.mtu := rfl
@[simp] theorem notifyJob_st (k : SlotId) (j : Option Nat) (a b : Option JobState) (s : State) : (notifyJob k j a b s).st = s.st := rfl
@[simp] theorem notifyJob_background (k : SlotId) (j : Option Nat) (a b : Option JobState) (s : State) : (notifyJob k j a b s).background = s.background := rfl
@[simp] theorem notifyJob_slots (k : SlotId) (j : Option Nat) (a b : Option JobState) (s : State) : (notifyJob k j a b s).slots = s.slots := rfl
@[simp] theorem notifyJob_activation (k : SlotId) (j : Option Nat) (a b : Option JobState) (s : State) : (notifyJob k j a b s).activation = s.activation := rfl
@[simp] theorem notifyJob_hou (k : SlotId) (j : Option Nat) (a b : Option JobState) (s : State) : (notifyJob k j a b s).hou = s.hou := rfl
@[simp] theorem notifyJob_ij (k : SlotId) (j : Option Nat) (a b : Option JobState) (s : State) : (notifyJob k j a b s).ij = s.ij := rfl
@[simp] theorem notifyJob_lm (k : SlotId) (j : Option Nat) (a b : Option JobState) (s : State) : (notifyJob k j a b s).lm = s.lm := rfl
@[simp] theorem notifyJob_pending (k : SlotId) (j : Option Nat) (a b : Option JobState) (s : State) : (notifyJob k j a b s).pending = s.pending := rfl
@[simp] theorem notifyJob_choices (k : SlotId) (j : Option Nat) (a b : Option JobState) (s : State) : (notifyJob k j a b s).choices = s.choices := rfl

/-! ### dropOrder -/

@[simp] theorem dropOrder_wpu (h : HeadId) (t : Cycle) (s : State) : (dropOrder h t s).wpu = s.wpu := rfl
@[simp] theorem dropOrder_mtu (h : HeadId) (t : Cycle) (s : State) : (dropOrder h t s).mtu = s.mtu := rfl
@[simp] theorem dropOrder_st (h : HeadId) (t : Cycle) (s : State) : (dropOrder h t s).st = s.st := rfl
@[simp] theorem dropOrder_background (h : HeadId) (t : Cycle) (s : State) : (dropOrder h t s).background = s.background := rfl
@[simp] theorem dropOrder_slots (h : HeadId) (t : Cycle) (s : State) : (dropOrder h t s).slots = s.slots := rfl
@[simp] theorem dropOrder_activation (h : HeadId) (t : Cycle) (s : State) : (dropOrder h t s).activation = s.activation := rfl
@[simp] theorem dropOrder_ij (h : HeadId) (t : Cycle) (s : State) : (dropOrder h t s).ij = s.ij := rfl
@[simp] theorem dropOrder_lm (h : HeadId) (t : Cycle) (s : State) : (dropOrder h t s).lm = s.lm := rfl
@[simp] theorem dropOrder_ports (h : HeadId) (t : Cycle) (s : State) : (dropOrder h t s).ports = s.ports := rfl
@[simp] theorem dropOrder_pending (h : HeadId) (t : Cycle) (s : State) : (dropOrder h t s).pending = s.pending := rfl
@[simp] theorem dropOrder_choices (h : HeadId) (t : Cycle) (s : State) : (dropOrder h t s).choices = s.choices := rfl

/-! ### markOutcome -/

@[simp] theorem markOutcome_wpu (h : HeadId) (t : Cycle) (o : HeadOutcome) (w : Option Reason) (s : State) : (markOutcome h t o w s).wpu = s.wpu := rfl
@[simp] theorem markOutcome_mtu (h : HeadId) (t : Cycle) (o : HeadOutcome) (w : Option Reason) (s : State) : (markOutcome h t o w s).mtu = s.mtu := rfl
@[simp] theorem markOutcome_background (h : HeadId) (t : Cycle) (o : HeadOutcome) (w : Option Reason) (s : State) : (markOutcome h t o w s).background = s.background := rfl
@[simp] theorem markOutcome_slots (h : HeadId) (t : Cycle) (o : HeadOutcome) (w : Option Reason) (s : State) : (markOutcome h t o w s).slots = s.slots := rfl
@[simp] theorem markOutcome_activation (h : HeadId) (t : Cycle) (o : HeadOutcome) (w : Option Reason) (s : State) : (markOutcome h t o w s).activation = s.activation := rfl
@[simp] theorem markOutcome_hou (h : HeadId) (t : Cycle) (o : HeadOutcome) (w : Option Reason) (s : State) : (markOutcome h t o w s).hou = s.hou := rfl
@[simp] theorem markOutcome_ij (h : HeadId) (t : Cycle) (o : HeadOutcome) (w : Option Reason) (s : State) : (markOutcome h t o w s).ij = s.ij := rfl
@[simp] theorem markOutcome_lm (h : HeadId) (t : Cycle) (o : HeadOutcome) (w : Option Reason) (s : State) : (markOutcome h t o w s).lm = s.lm := rfl
@[simp] theorem markOutcome_ports (h : HeadId) (t : Cycle) (o : HeadOutcome) (w : Option Reason) (s : State) : (markOutcome h t o w s).ports = s.ports := rfl
@[simp] theorem markOutcome_pending (h : HeadId) (t : Cycle) (o : HeadOutcome) (w : Option Reason) (s : State) : (markOutcome h t o w s).pending = s.pending := rfl
@[simp] theorem markOutcome_choices (h : HeadId) (t : Cycle) (o : HeadOutcome) (w : Option Reason) (s : State) : (markOutcome h t o w s).choices = s.choices := rfl

/-! ### headLinkHunting -/

@[simp] theorem headLinkHunting_wpu  (s : State) : (headLinkHunting s).wpu = s.wpu := rfl
@[simp] theorem headLinkHunting_mtu  (s : State) : (headLinkHunting s).mtu = s.mtu := rfl
@[simp] theorem headLinkHunting_st  (s : State) : (headLinkHunting s).st = s.st := rfl
@[simp] theorem headLinkHunting_background  (s : State) : (headLinkHunting s).background = s.background := rfl
@[simp] theorem headLinkHunting_slots  (s : State) : (headLinkHunting s).slots = s.slots := rfl
@[simp] theorem headLinkHunting_activation  (s : State) : (headLinkHunting s).activation = s.activation := rfl
@[simp] theorem headLinkHunting_ij  (s : State) : (headLinkHunting s).ij = s.ij := rfl
@[simp] theorem headLinkHunting_lm  (s : State) : (headLinkHunting s).lm = s.lm := rfl
@[simp] theorem headLinkHunting_ports  (s : State) : (headLinkHunting s).ports = s.ports := rfl
@[simp] theorem headLinkHunting_pending  (s : State) : (headLinkHunting s).pending = s.pending := rfl
@[simp] theorem headLinkHunting_choices  (s : State) : (headLinkHunting s).choices = s.choices := rfl

/-! ### takenOn -/

@[simp] theorem takenOn_wpu (p : PortId) (s : State) : (takenOn p s).wpu = s.wpu := rfl
@[simp] theorem takenOn_mtu (p : PortId) (s : State) : (takenOn p s).mtu = s.mtu := rfl
@[simp] theorem takenOn_st (p : PortId) (s : State) : (takenOn p s).st = s.st := rfl
@[simp] theorem takenOn_background (p : PortId) (s : State) : (takenOn p s).background = s.background := rfl
@[simp] theorem takenOn_slots (p : PortId) (s : State) : (takenOn p s).slots = s.slots := rfl
@[simp] theorem takenOn_activation (p : PortId) (s : State) : (takenOn p s).activation = s.activation := rfl
@[simp] theorem takenOn_hou (p : PortId) (s : State) : (takenOn p s).hou = s.hou := rfl
@[simp] theorem takenOn_ij (p : PortId) (s : State) : (takenOn p s).ij = s.ij := rfl
@[simp] theorem takenOn_lm (p : PortId) (s : State) : (takenOn p s).lm = s.lm := rfl
@[simp] theorem takenOn_pending (p : PortId) (s : State) : (takenOn p s).pending = s.pending := rfl
@[simp] theorem takenOn_choices (p : PortId) (s : State) : (takenOn p s).choices = s.choices := rfl

/-! ### What the updates change -/

@[simp] theorem modifyWpu_wpu (f : Wpu → Wpu) (s : State) : (modifyWpu f s).wpu = f s.wpu := rfl
@[simp] theorem modifyPort_ports (p : PortId) (f : Port → Port) (s : State) :
    (modifyPort p f s).ports = updateAt s.ports p f := rfl
@[simp] theorem modifyContext_slots (k : SlotId) (f : Context → Context) (s : State) :
    (modifyContext k f s).slots = updateAt s.slots k (Option.map f) := rfl
@[simp] theorem setSlot_slots (k : SlotId) (c : Option Context) (s : State) :
    (setSlot k c s).slots = s.slots.set k c := rfl
@[simp] theorem modifyTracker_st (f : Tracker → Tracker) (s : State) : (modifyTracker f s).st = f s.st := rfl
@[simp] theorem modifyHead_heads (h : HeadId) (f : Head → Head) (s : State) :
    (modifyHead h f s).hou.heads = updateAt s.hou.heads h f := rfl
@[simp] theorem setProbe_background (p : Probe) (s : State) : (setProbe p s).background = .probe p := rfl
@[simp] theorem setSkip_background (k : Skip) (s : State) : (setSkip k s).background = .skip k := rfl

end Sys2Proof.Machine
end

