-- ==== Sys2Proof/Laws/Ops.lean ====
section
/-! SUPPORT. The frames of the shared operations: the fields each one leaves as they were. -/

namespace Sys2Proof.Machine

/-- What every step of a fold keeps, the fold keeps. -/
theorem foldl_keeps {σ α β : Type} (f : σ → β) {g : σ → α → σ} (h : ∀ s x, f (g s x) = f s) (l : List α) (s : σ) :
    f (l.foldl g s) = f s := by
  induction l generalizing s with
  | nil => rfl
  | cons x xs ih => simp [ih, h]

/-! ### changeStops: the stop causes, their line and STOP_STATE -/

@[simp] theorem changeStops_wpu (c : StopCause) (n : StopSet) (b : Byte) (s : State) : (changeStops c n b s).wpu = s.wpu := by
  unfold changeStops; (repeat' split) <;> simp
@[simp] theorem changeStops_mtu (c : StopCause) (n : StopSet) (b : Byte) (s : State) : (changeStops c n b s).mtu = s.mtu := by
  unfold changeStops; (repeat' split) <;> simp
@[simp] theorem changeStops_st (c : StopCause) (n : StopSet) (b : Byte) (s : State) : (changeStops c n b s).st = s.st := by
  unfold changeStops; (repeat' split) <;> simp
@[simp] theorem changeStops_background (c : StopCause) (n : StopSet) (b : Byte) (s : State) : (changeStops c n b s).background = s.background := by
  unfold changeStops; (repeat' split) <;> simp
@[simp] theorem changeStops_slots (c : StopCause) (n : StopSet) (b : Byte) (s : State) : (changeStops c n b s).slots = s.slots := by
  unfold changeStops; (repeat' split) <;> simp
@[simp] theorem changeStops_activation (c : StopCause) (n : StopSet) (b : Byte) (s : State) : (changeStops c n b s).activation = s.activation := by
  unfold changeStops; (repeat' split) <;> simp
@[simp] theorem changeStops_hou (c : StopCause) (n : StopSet) (b : Byte) (s : State) : (changeStops c n b s).hou = s.hou := by
  unfold changeStops; (repeat' split) <;> simp
@[simp] theorem changeStops_ij (c : StopCause) (n : StopSet) (b : Byte) (s : State) : (changeStops c n b s).ij = s.ij := by
  unfold changeStops; (repeat' split) <;> simp
@[simp] theorem changeStops_pending (c : StopCause) (n : StopSet) (b : Byte) (s : State) : (changeStops c n b s).pending = s.pending := by
  unfold changeStops; (repeat' split) <;> simp
@[simp] theorem changeStops_choices (c : StopCause) (n : StopSet) (b : Byte) (s : State) : (changeStops c n b s).choices = s.choices := by
  unfold changeStops; (repeat' split) <;> simp

@[simp] theorem latchStop_wpu (c : StopCause) (s : State) : (latchStop c s).wpu = s.wpu := by
  unfold latchStop; (repeat' split) <;> simp
@[simp] theorem latchStop_mtu (c : StopCause) (s : State) : (latchStop c s).mtu = s.mtu := by
  unfold latchStop; (repeat' split) <;> simp
@[simp] theorem latchStop_st (c : StopCause) (s : State) : (latchStop c s).st = s.st := by
  unfold latchStop; (repeat' split) <;> simp
@[simp] theorem latchStop_background (c : StopCause) (s : State) : (latchStop c s).background = s.background := by
  unfold latchStop; (repeat' split) <;> simp
@[simp] theorem latchStop_slots (c : StopCause) (s : State) : (latchStop c s).slots = s.slots := by
  unfold latchStop; (repeat' split) <;> simp
@[simp] theorem latchStop_activation (c : StopCause) (s : State) : (latchStop c s).activation = s.activation := by
  unfold latchStop; (repeat' split) <;> simp
@[simp] theorem latchStop_hou (c : StopCause) (s : State) : (latchStop c s).hou = s.hou := by
  unfold latchStop; (repeat' split) <;> simp
@[simp] theorem latchStop_ij (c : StopCause) (s : State) : (latchStop c s).ij = s.ij := by
  unfold latchStop; (repeat' split) <;> simp
@[simp] theorem latchStop_pending (c : StopCause) (s : State) : (latchStop c s).pending = s.pending := by
  unfold latchStop; (repeat' split) <;> simp
@[simp] theorem latchStop_choices (c : StopCause) (s : State) : (latchStop c s).choices = s.choices := by
  unfold latchStop; (repeat' split) <;> simp

@[simp] theorem clearCause_wpu (c : StopCause) (s : State) : (clearCause c s).wpu = s.wpu := by
  simp [clearCause]
@[simp] theorem clearCause_mtu (c : StopCause) (s : State) : (clearCause c s).mtu = s.mtu := by
  simp [clearCause]
@[simp] theorem clearCause_st (c : StopCause) (s : State) : (clearCause c s).st = s.st := by
  simp [clearCause]
@[simp] theorem clearCause_background (c : StopCause) (s : State) : (clearCause c s).background = s.background := by
  simp [clearCause]
@[simp] theorem clearCause_slots (c : StopCause) (s : State) : (clearCause c s).slots = s.slots := by
  simp [clearCause]
@[simp] theorem clearCause_activation (c : StopCause) (s : State) : (clearCause c s).activation = s.activation := by
  simp [clearCause]
@[simp] theorem clearCause_hou (c : StopCause) (s : State) : (clearCause c s).hou = s.hou := by
  simp [clearCause]
@[simp] theorem clearCause_ij (c : StopCause) (s : State) : (clearCause c s).ij = s.ij := by
  simp [clearCause]
@[simp] theorem clearCause_pending (c : StopCause) (s : State) : (clearCause c s).pending = s.pending := by
  simp [clearCause]
@[simp] theorem clearCause_choices (c : StopCause) (s : State) : (clearCause c s).choices = s.choices := by
  simp [clearCause]

/-! ### setGateRecord: a gate and its line -/

@[simp] theorem setGateRecord_wpu (k : LaneId) (g : Gate) (s : State) : (setGateRecord k g s).wpu = s.wpu := by
  unfold setGateRecord; (repeat' split) <;> simp
@[simp] theorem setGateRecord_mtu (k : LaneId) (g : Gate) (s : State) : (setGateRecord k g s).mtu = s.mtu := by
  unfold setGateRecord; (repeat' split) <;> simp
@[simp] theorem setGateRecord_background (k : LaneId) (g : Gate) (s : State) : (setGateRecord k g s).background = s.background := by
  unfold setGateRecord; (repeat' split) <;> simp
@[simp] theorem setGateRecord_slots (k : LaneId) (g : Gate) (s : State) : (setGateRecord k g s).slots = s.slots := by
  unfold setGateRecord; (repeat' split) <;> simp
@[simp] theorem setGateRecord_activation (k : LaneId) (g : Gate) (s : State) : (setGateRecord k g s).activation = s.activation := by
  unfold setGateRecord; (repeat' split) <;> simp
@[simp] theorem setGateRecord_hou (k : LaneId) (g : Gate) (s : State) : (setGateRecord k g s).hou = s.hou := by
  unfold setGateRecord; (repeat' split) <;> simp
@[simp] theorem setGateRecord_ij (k : LaneId) (g : Gate) (s : State) : (setGateRecord k g s).ij = s.ij := by
  unfold setGateRecord; (repeat' split) <;> simp
@[simp] theorem setGateRecord_ports (k : LaneId) (g : Gate) (s : State) : (setGateRecord k g s).ports = s.ports := by
  unfold setGateRecord; (repeat' split) <;> simp
@[simp] theorem setGateRecord_pending (k : LaneId) (g : Gate) (s : State) : (setGateRecord k g s).pending = s.pending := by
  unfold setGateRecord; (repeat' split) <;> simp
@[simp] theorem setGateRecord_choices (k : LaneId) (g : Gate) (s : State) : (setGateRecord k g s).choices = s.choices := by
  unfold setGateRecord; (repeat' split) <;> simp

/-! ### makeStale: only a probe -/

@[simp] theorem makeStale_wpu (k : SlotId) (q : SeqId) (s : State) : (makeStale k q s).wpu = s.wpu := by
  unfold makeStale; (repeat' split) <;> simp
@[simp] theorem makeStale_mtu (k : SlotId) (q : SeqId) (s : State) : (makeStale k q s).mtu = s.mtu := by
  unfold makeStale; (repeat' split) <;> simp
@[simp] theorem makeStale_st (k : SlotId) (q : SeqId) (s : State) : (makeStale k q s).st = s.st := by
  unfold makeStale; (repeat' split) <;> simp
@[simp] theorem makeStale_slots (k : SlotId) (q : SeqId) (s : State) : (makeStale k q s).slots = s.slots := by
  unfold makeStale; (repeat' split) <;> simp
@[simp] theorem makeStale_activation (k : SlotId) (q : SeqId) (s : State) : (makeStale k q s).activation = s.activation := by
  unfold makeStale; (repeat' split) <;> simp
@[simp] theorem makeStale_hou (k : SlotId) (q : SeqId) (s : State) : (makeStale k q s).hou = s.hou := by
  unfold makeStale; (repeat' split) <;> simp
@[simp] theorem makeStale_ij (k : SlotId) (q : SeqId) (s : State) : (makeStale k q s).ij = s.ij := by
  unfold makeStale; (repeat' split) <;> simp
@[simp] theorem makeStale_lm (k : SlotId) (q : SeqId) (s : State) : (makeStale k q s).lm = s.lm := by
  unfold makeStale; (repeat' split) <;> simp
@[simp] theorem makeStale_ports (k : SlotId) (q : SeqId) (s : State) : (makeStale k q s).ports = s.ports := by
  unfold makeStale; (repeat' split) <;> simp
@[simp] theorem makeStale_pending (k : SlotId) (q : SeqId) (s : State) : (makeStale k q s).pending = s.pending := by
  unfold makeStale; (repeat' split) <;> simp
@[simp] theorem makeStale_choices (k : SlotId) (q : SeqId) (s : State) : (makeStale k q s).choices = s.choices := by
  unfold makeStale; (repeat' split) <;> simp

/-! ### testThreshold: JOURNAL_HIGH only -/

@[simp] theorem testThreshold_wpu (s : State) : (testThreshold s).wpu = s.wpu := by
  unfold testThreshold; (repeat' split) <;> simp
@[simp] theorem testThreshold_mtu (s : State) : (testThreshold s).mtu = s.mtu := by
  unfold testThreshold; (repeat' split) <;> simp
@[simp] theorem testThreshold_st (s : State) : (testThreshold s).st = s.st := by
  unfold testThreshold; (repeat' split) <;> simp
@[simp] theorem testThreshold_background (s : State) : (testThreshold s).background = s.background := by
  unfold testThreshold; (repeat' split) <;> simp
@[simp] theorem testThreshold_slots (s : State) : (testThreshold s).slots = s.slots := by
  unfold testThreshold; (repeat' split) <;> simp
@[simp] theorem testThreshold_activation (s : State) : (testThreshold s).activation = s.activation := by
  unfold testThreshold; (repeat' split) <;> simp
@[simp] theorem testThreshold_hou (s : State) : (testThreshold s).hou = s.hou := by
  unfold testThreshold; (repeat' split) <;> simp
@[simp] theorem testThreshold_ij (s : State) : (testThreshold s).ij = s.ij := by
  unfold testThreshold; (repeat' split) <;> simp
@[simp] theorem testThreshold_pending (s : State) : (testThreshold s).pending = s.pending := by
  unfold testThreshold; (repeat' split) <;> simp
@[simp] theorem testThreshold_choices (s : State) : (testThreshold s).choices = s.choices := by
  unfold testThreshold; (repeat' split) <;> simp

/-! ### journalUnreserved: the journal and JOURNAL_HIGH -/

@[simp] theorem journalUnreserved_wpu (k : SlotId) (j : Nat) (t : Cycle) (b : RecordBody) (s : State) : (journalUnreserved k j t b s).wpu = s.wpu := by
  simp [journalUnreserved]
@[simp] theorem journalUnreserved_mtu (k : SlotId) (j : Nat) (t : Cycle) (b : RecordBody) (s : State) : (journalUnreserved k j t b s).mtu = s.mtu := by
  simp [journalUnreserved]
@[simp] theorem journalUnreserved_st (k : SlotId) (j : Nat) (t : Cycle) (b : RecordBody) (s : State) : (journalUnreserved k j t b s).st = s.st := by
  simp [journalUnreserved]
@[simp] theorem journalUnreserved_background (k : SlotId) (j : Nat) (t : Cycle) (b : RecordBody) (s : State) : (journalUnreserved k j t b s).background = s.background := by
  simp [journalUnreserved]
@[simp] theorem journalUnreserved_slots (k : SlotId) (j : Nat) (t : Cycle) (b : RecordBody) (s : State) : (journalUnreserved k j t b s).slots = s.slots := by
  simp [journalUnreserved]
@[simp] theorem journalUnreserved_activation (k : SlotId) (j : Nat) (t : Cycle) (b : RecordBody) (s : State) : (journalUnreserved k j t b s).activation = s.activation := by
  simp [journalUnreserved]
@[simp] theorem journalUnreserved_hou (k : SlotId) (j : Nat) (t : Cycle) (b : RecordBody) (s : State) : (journalUnreserved k j t b s).hou = s.hou := by
  simp [journalUnreserved]
@[simp] theorem journalUnreserved_pending (k : SlotId) (j : Nat) (t : Cycle) (b : RecordBody) (s : State) : (journalUnreserved k j t b s).pending = s.pending := by
  simp [journalUnreserved]
@[simp] theorem journalUnreserved_choices (k : SlotId) (j : Nat) (t : Cycle) (b : RecordBody) (s : State) : (journalUnreserved k j t b s).choices = s.choices := by
  simp [journalUnreserved]

@[simp] theorem appendContextRecord_wpu (d : Deferred) (s : State) : (appendContextRecord d s).wpu = s.wpu := by
  unfold appendContextRecord; (repeat' split) <;> simp
@[simp] theorem appendContextRecord_mtu (d : Deferred) (s : State) : (appendContextRecord d s).mtu = s.mtu := by
  unfold appendContextRecord; (repeat' split) <;> simp
@[simp] theorem appendContextRecord_st (d : Deferred) (s : State) : (appendContextRecord d s).st = s.st := by
  unfold appendContextRecord; (repeat' split) <;> simp
@[simp] theorem appendContextRecord_background (d : Deferred) (s : State) : (appendContextRecord d s).background = s.background := by
  unfold appendContextRecord; (repeat' split) <;> simp
@[simp] theorem appendContextRecord_slots (d : Deferred) (s : State) : (appendContextRecord d s).slots = s.slots := by
  unfold appendContextRecord; (repeat' split) <;> simp
@[simp] theorem appendContextRecord_activation (d : Deferred) (s : State) : (appendContextRecord d s).activation = s.activation := by
  unfold appendContextRecord; (repeat' split) <;> simp
@[simp] theorem appendContextRecord_hou (d : Deferred) (s : State) : (appendContextRecord d s).hou = s.hou := by
  unfold appendContextRecord; (repeat' split) <;> simp
@[simp] theorem appendContextRecord_pending (d : Deferred) (s : State) : (appendContextRecord d s).pending = s.pending := by
  unfold appendContextRecord; (repeat' split) <;> simp
@[simp] theorem appendContextRecord_choices (d : Deferred) (s : State) : (appendContextRecord d s).choices = s.choices := by
  unfold appendContextRecord; (repeat' split) <;> simp

@[simp] theorem contextRecord_wpu (d : Deferred) (s : State) : (contextRecord d s).wpu = s.wpu := by
  unfold contextRecord; (repeat' split) <;> simp
@[simp] theorem contextRecord_mtu (d : Deferred) (s : State) : (contextRecord d s).mtu = s.mtu := by
  unfold contextRecord; (repeat' split) <;> simp
@[simp] theorem contextRecord_st (d : Deferred) (s : State) : (contextRecord d s).st = s.st := by
  unfold contextRecord; (repeat' split) <;> simp
@[simp] theorem contextRecord_background (d : Deferred) (s : State) : (contextRecord d s).background = s.background := by
  unfold contextRecord; (repeat' split) <;> simp
@[simp] theorem contextRecord_slots (d : Deferred) (s : State) : (contextRecord d s).slots = s.slots := by
  unfold contextRecord; (repeat' split) <;> simp
@[simp] theorem contextRecord_activation (d : Deferred) (s : State) : (contextRecord d s).activation = s.activation := by
  unfold contextRecord; (repeat' split) <;> simp
@[simp] theorem contextRecord_hou (d : Deferred) (s : State) : (contextRecord d s).hou = s.hou := by
  unfold contextRecord; (repeat' split) <;> simp
@[simp] theorem contextRecord_pending (d : Deferred) (s : State) : (contextRecord d s).pending = s.pending := by
  unfold contextRecord; (repeat' split) <;> simp
@[simp] theorem contextRecord_choices (d : Deferred) (s : State) : (contextRecord d s).choices = s.choices := by
  unfold contextRecord; (repeat' split) <;> simp

@[simp] theorem appendDeferred_wpu (l : List Deferred) (s : State) : (appendDeferred l s).wpu = s.wpu := by
  induction l generalizing s with
  | nil => rfl
  | cons d ds ih => unfold appendDeferred; split <;> simp [ih]
@[simp] theorem appendDeferred_mtu (l : List Deferred) (s : State) : (appendDeferred l s).mtu = s.mtu := by
  induction l generalizing s with
  | nil => rfl
  | cons d ds ih => unfold appendDeferred; split <;> simp [ih]
@[simp] theorem appendDeferred_st (l : List Deferred) (s : State) : (appendDeferred l s).st = s.st := by
  induction l generalizing s with
  | nil => rfl
  | cons d ds ih => unfold appendDeferred; split <;> simp [ih]
@[simp] theorem appendDeferred_background (l : List Deferred) (s : State) : (appendDeferred l s).background = s.background := by
  induction l generalizing s with
  | nil => rfl
  | cons d ds ih => unfold appendDeferred; split <;> simp [ih]
@[simp] theorem appendDeferred_slots (l : List Deferred) (s : State) : (appendDeferred l s).slots = s.slots := by
  induction l generalizing s with
  | nil => rfl
  | cons d ds ih => unfold appendDeferred; split <;> simp [ih]
@[simp] theorem appendDeferred_activation (l : List Deferred) (s : State) : (appendDeferred l s).activation = s.activation := by
  induction l generalizing s with
  | nil => rfl
  | cons d ds ih => unfold appendDeferred; split <;> simp [ih]
@[simp] theorem appendDeferred_hou (l : List Deferred) (s : State) : (appendDeferred l s).hou = s.hou := by
  induction l generalizing s with
  | nil => rfl
  | cons d ds ih => unfold appendDeferred; split <;> simp [ih]
@[simp] theorem appendDeferred_pending (l : List Deferred) (s : State) : (appendDeferred l s).pending = s.pending := by
  induction l generalizing s with
  | nil => rfl
  | cons d ds ih => unfold appendDeferred; split <;> simp [ih]
@[simp] theorem appendDeferred_choices (l : List Deferred) (s : State) : (appendDeferred l s).choices = s.choices := by
  induction l generalizing s with
  | nil => rfl
  | cons d ds ih => unfold appendDeferred; split <;> simp [ih]

@[simp] theorem resumeSkip_wpu (s : State) : (resumeSkip s).wpu = s.wpu := by
  unfold resumeSkip; (repeat' split) <;> simp
@[simp] theorem resumeSkip_mtu (s : State) : (resumeSkip s).mtu = s.mtu := by
  unfold resumeSkip; (repeat' split) <;> simp
@[simp] theorem resumeSkip_st (s : State) : (resumeSkip s).st = s.st := by
  unfold resumeSkip; (repeat' split) <;> simp
@[simp] theorem resumeSkip_slots (s : State) : (resumeSkip s).slots = s.slots := by
  unfold resumeSkip; (repeat' split) <;> simp
@[simp] theorem resumeSkip_activation (s : State) : (resumeSkip s).activation = s.activation := by
  unfold resumeSkip; (repeat' split) <;> simp
@[simp] theorem resumeSkip_hou (s : State) : (resumeSkip s).hou = s.hou := by
  unfold resumeSkip; (repeat' split) <;> simp
@[simp] theorem resumeSkip_ij (s : State) : (resumeSkip s).ij = s.ij := by
  unfold resumeSkip; (repeat' split) <;> simp
@[simp] theorem resumeSkip_lm (s : State) : (resumeSkip s).lm = s.lm := by
  unfold resumeSkip; (repeat' split) <;> simp
@[simp] theorem resumeSkip_ports (s : State) : (resumeSkip s).ports = s.ports := by
  unfold resumeSkip; (repeat' split) <;> simp
@[simp] theorem resumeSkip_pending (s : State) : (resumeSkip s).pending = s.pending := by
  unfold resumeSkip; (repeat' split) <;> simp
@[simp] theorem resumeSkip_choices (s : State) : (resumeSkip s).choices = s.choices := by
  unfold resumeSkip; (repeat' split) <;> simp

@[simp] theorem afterRaise_wpu (s : State) : (afterRaise s).wpu = s.wpu := by
  simp [afterRaise]
@[simp] theorem afterRaise_mtu (s : State) : (afterRaise s).mtu = s.mtu := by
  simp [afterRaise]
@[simp] theorem afterRaise_st (s : State) : (afterRaise s).st = s.st := by
  simp [afterRaise]
@[simp] theorem afterRaise_slots (s : State) : (afterRaise s).slots = s.slots := by
  simp [afterRaise]
@[simp] theorem afterRaise_activation (s : State) : (afterRaise s).activation = s.activation := by
  simp [afterRaise]
@[simp] theorem afterRaise_hou (s : State) : (afterRaise s).hou = s.hou := by
  simp [afterRaise]
@[simp] theorem afterRaise_pending (s : State) : (afterRaise s).pending = s.pending := by
  simp [afterRaise]
@[simp] theorem afterRaise_choices (s : State) : (afterRaise s).choices = s.choices := by
  simp [afterRaise]

@[simp] theorem returnReserved_wpu (n : Nat) (s : State) : (returnReserved n s).wpu = s.wpu := by
  unfold returnReserved; (repeat' split) <;> simp
@[simp] theorem returnReserved_mtu (n : Nat) (s : State) : (returnReserved n s).mtu = s.mtu := by
  unfold returnReserved; (repeat' split) <;> simp
@[simp] theorem returnReserved_st (n : Nat) (s : State) : (returnReserved n s).st = s.st := by
  unfold returnReserved; (repeat' split) <;> simp
@[simp] theorem returnReserved_slots (n : Nat) (s : State) : (returnReserved n s).slots = s.slots := by
  unfold returnReserved; (repeat' split) <;> simp
@[simp] theorem returnReserved_activation (n : Nat) (s : State) : (returnReserved n s).activation = s.activation := by
  unfold returnReserved; (repeat' split) <;> simp
@[simp] theorem returnReserved_hou (n : Nat) (s : State) : (returnReserved n s).hou = s.hou := by
  unfold returnReserved; (repeat' split) <;> simp
@[simp] theorem returnReserved_pending (n : Nat) (s : State) : (returnReserved n s).pending = s.pending := by
  unfold returnReserved; (repeat' split) <;> simp
@[simp] theorem returnReserved_choices (n : Nat) (s : State) : (returnReserved n s).choices = s.choices := by
  unfold returnReserved; (repeat' split) <;> simp

@[simp] theorem reserveRecords_wpu (n : Nat) (s : State) : (reserveRecords n s).wpu = s.wpu := by
  unfold reserveRecords; (repeat' split) <;> simp
@[simp] theorem reserveRecords_mtu (n : Nat) (s : State) : (reserveRecords n s).mtu = s.mtu := by
  unfold reserveRecords; (repeat' split) <;> simp
@[simp] theorem reserveRecords_st (n : Nat) (s : State) : (reserveRecords n s).st = s.st := by
  unfold reserveRecords; (repeat' split) <;> simp
@[simp] theorem reserveRecords_background (n : Nat) (s : State) : (reserveRecords n s).background = s.background := by
  unfold reserveRecords; (repeat' split) <;> simp
@[simp] theorem reserveRecords_slots (n : Nat) (s : State) : (reserveRecords n s).slots = s.slots := by
  unfold reserveRecords; (repeat' split) <;> simp
@[simp] theorem reserveRecords_activation (n : Nat) (s : State) : (reserveRecords n s).activation = s.activation := by
  unfold reserveRecords; (repeat' split) <;> simp
@[simp] theorem reserveRecords_hou (n : Nat) (s : State) : (reserveRecords n s).hou = s.hou := by
  unfold reserveRecords; (repeat' split) <;> simp
@[simp] theorem reserveRecords_pending (n : Nat) (s : State) : (reserveRecords n s).pending = s.pending := by
  unfold reserveRecords; (repeat' split) <;> simp
@[simp] theorem reserveRecords_choices (n : Nat) (s : State) : (reserveRecords n s).choices = s.choices := by
  unfold reserveRecords; (repeat' split) <;> simp

@[simp] theorem parkContext_wpu (k : SlotId) (s : State) : (parkContext k s).wpu = s.wpu := by
  unfold parkContext; (repeat' split) <;> simp
@[simp] theorem parkContext_mtu (k : SlotId) (s : State) : (parkContext k s).mtu = s.mtu := by
  unfold parkContext; (repeat' split) <;> simp
@[simp] theorem parkContext_st (k : SlotId) (s : State) : (parkContext k s).st = s.st := by
  unfold parkContext; (repeat' split) <;> simp
@[simp] theorem parkContext_background (k : SlotId) (s : State) : (parkContext k s).background = s.background := by
  unfold parkContext; (repeat' split) <;> simp
@[simp] theorem parkContext_activation (k : SlotId) (s : State) : (parkContext k s).activation = s.activation := by
  unfold parkContext; (repeat' split) <;> simp
@[simp] theorem parkContext_hou (k : SlotId) (s : State) : (parkContext k s).hou = s.hou := by
  unfold parkContext; (repeat' split) <;> simp
@[simp] theorem parkContext_pending (k : SlotId) (s : State) : (parkContext k s).pending = s.pending := by
  unfold parkContext; (repeat' split) <;> simp
@[simp] theorem parkContext_choices (k : SlotId) (s : State) : (parkContext k s).choices = s.choices := by
  unfold parkContext; (repeat' split) <;> simp

/-! ### settleLate: the set and the head -/

@[simp] theorem settleLate_wpu (h : HeadId) (t : Cycle) (s : State) : (settleLate h t s).wpu = s.wpu := by
  simp [settleLate]
@[simp] theorem settleLate_mtu (h : HeadId) (t : Cycle) (s : State) : (settleLate h t s).mtu = s.mtu := by
  simp [settleLate]
@[simp] theorem settleLate_background (h : HeadId) (t : Cycle) (s : State) : (settleLate h t s).background = s.background := by
  simp [settleLate]
@[simp] theorem settleLate_slots (h : HeadId) (t : Cycle) (s : State) : (settleLate h t s).slots = s.slots := by
  simp [settleLate]
@[simp] theorem settleLate_activation (h : HeadId) (t : Cycle) (s : State) : (settleLate h t s).activation = s.activation := by
  simp [settleLate]
@[simp] theorem settleLate_ij (h : HeadId) (t : Cycle) (s : State) : (settleLate h t s).ij = s.ij := by
  simp [settleLate]
@[simp] theorem settleLate_lm (h : HeadId) (t : Cycle) (s : State) : (settleLate h t s).lm = s.lm := by
  simp [settleLate]
@[simp] theorem settleLate_ports (h : HeadId) (t : Cycle) (s : State) : (settleLate h t s).ports = s.ports := by
  simp [settleLate]
@[simp] theorem settleLate_pending (h : HeadId) (t : Cycle) (s : State) : (settleLate h t s).pending = s.pending := by
  simp [settleLate]
@[simp] theorem settleLate_choices (h : HeadId) (t : Cycle) (s : State) : (settleLate h t s).choices = s.choices := by
  simp [settleLate]

@[simp] theorem settleFailed_wpu (h : HeadId) (t : Cycle) (s : State) : (settleFailed h t s).wpu = s.wpu := by
  simp [settleFailed]
@[simp] theorem settleFailed_mtu (h : HeadId) (t : Cycle) (s : State) : (settleFailed h t s).mtu = s.mtu := by
  simp [settleFailed]
@[simp] theorem settleFailed_background (h : HeadId) (t : Cycle) (s : State) : (settleFailed h t s).background = s.background := by
  simp [settleFailed]
@[simp] theorem settleFailed_slots (h : HeadId) (t : Cycle) (s : State) : (settleFailed h t s).slots = s.slots := by
  simp [settleFailed]
@[simp] theorem settleFailed_activation (h : HeadId) (t : Cycle) (s : State) : (settleFailed h t s).activation = s.activation := by
  simp [settleFailed]
@[simp] theorem settleFailed_ij (h : HeadId) (t : Cycle) (s : State) : (settleFailed h t s).ij = s.ij := by
  simp [settleFailed]
@[simp] theorem settleFailed_lm (h : HeadId) (t : Cycle) (s : State) : (settleFailed h t s).lm = s.lm := by
  simp [settleFailed]
@[simp] theorem settleFailed_ports (h : HeadId) (t : Cycle) (s : State) : (settleFailed h t s).ports = s.ports := by
  simp [settleFailed]
@[simp] theorem settleFailed_pending (h : HeadId) (t : Cycle) (s : State) : (settleFailed h t s).pending = s.pending := by
  simp [settleFailed]
@[simp] theorem settleFailed_choices (h : HeadId) (t : Cycle) (s : State) : (settleFailed h t s).choices = s.choices := by
  simp [settleFailed]

@[simp] theorem settlePrinted_wpu (h : HeadId) (t : Cycle) (s : State) : (settlePrinted h t s).wpu = s.wpu := by
  simp [settlePrinted]
@[simp] theorem settlePrinted_mtu (h : HeadId) (t : Cycle) (s : State) : (settlePrinted h t s).mtu = s.mtu := by
  simp [settlePrinted]
@[simp] theorem settlePrinted_background (h : HeadId) (t : Cycle) (s : State) : (settlePrinted h t s).background = s.background := by
  simp [settlePrinted]
@[simp] theorem settlePrinted_slots (h : HeadId) (t : Cycle) (s : State) : (settlePrinted h t s).slots = s.slots := by
  simp [settlePrinted]
@[simp] theorem settlePrinted_activation (h : HeadId) (t : Cycle) (s : State) : (settlePrinted h t s).activation = s.activation := by
  simp [settlePrinted]
@[simp] theorem settlePrinted_ij (h : HeadId) (t : Cycle) (s : State) : (settlePrinted h t s).ij = s.ij := by
  simp [settlePrinted]
@[simp] theorem settlePrinted_lm (h : HeadId) (t : Cycle) (s : State) : (settlePrinted h t s).lm = s.lm := by
  simp [settlePrinted]
@[simp] theorem settlePrinted_ports (h : HeadId) (t : Cycle) (s : State) : (settlePrinted h t s).ports = s.ports := by
  simp [settlePrinted]
@[simp] theorem settlePrinted_pending (h : HeadId) (t : Cycle) (s : State) : (settlePrinted h t s).pending = s.pending := by
  simp [settlePrinted]
@[simp] theorem settlePrinted_choices (h : HeadId) (t : Cycle) (s : State) : (settlePrinted h t s).choices = s.choices := by
  simp [settlePrinted]

@[simp] theorem expireHead_wpu (h : HeadId) (s : State) : (expireHead h s).wpu = s.wpu := by
  unfold expireHead; split
  · rfl
  · simp only []; split <;> simp
@[simp] theorem expireHead_mtu (h : HeadId) (s : State) : (expireHead h s).mtu = s.mtu := by
  unfold expireHead; split
  · rfl
  · simp only []; split <;> simp
@[simp] theorem expireHead_background (h : HeadId) (s : State) : (expireHead h s).background = s.background := by
  unfold expireHead; split
  · rfl
  · simp only []; split <;> simp
@[simp] theorem expireHead_slots (h : HeadId) (s : State) : (expireHead h s).slots = s.slots := by
  unfold expireHead; split
  · rfl
  · simp only []; split <;> simp
@[simp] theorem expireHead_activation (h : HeadId) (s : State) : (expireHead h s).activation = s.activation := by
  unfold expireHead; split
  · rfl
  · simp only []; split <;> simp
@[simp] theorem expireHead_ij (h : HeadId) (s : State) : (expireHead h s).ij = s.ij := by
  unfold expireHead; split
  · rfl
  · simp only []; split <;> simp
@[simp] theorem expireHead_lm (h : HeadId) (s : State) : (expireHead h s).lm = s.lm := by
  unfold expireHead; split
  · rfl
  · simp only []; split <;> simp
@[simp] theorem expireHead_ports (h : HeadId) (s : State) : (expireHead h s).ports = s.ports := by
  unfold expireHead; split
  · rfl
  · simp only []; split <;> simp
@[simp] theorem expireHead_pending (h : HeadId) (s : State) : (expireHead h s).pending = s.pending := by
  unfold expireHead; split
  · rfl
  · simp only []; split <;> simp
@[simp] theorem expireHead_choices (h : HeadId) (s : State) : (expireHead h s).choices = s.choices := by
  unfold expireHead; split
  · rfl
  · simp only []; split <;> simp

@[simp] theorem issueOrder_wpu (h : HeadId) (p : Placement) (r : SetRecord) (s : State) : (issueOrder h p r s).wpu = s.wpu := by
  unfold issueOrder; (repeat' split) <;> simp only [] <;> (repeat' split) <;> simp
@[simp] theorem issueOrder_mtu (h : HeadId) (p : Placement) (r : SetRecord) (s : State) : (issueOrder h p r s).mtu = s.mtu := by
  unfold issueOrder; (repeat' split) <;> simp only [] <;> (repeat' split) <;> simp
@[simp] theorem issueOrder_background (h : HeadId) (p : Placement) (r : SetRecord) (s : State) : (issueOrder h p r s).background = s.background := by
  unfold issueOrder; (repeat' split) <;> simp only [] <;> (repeat' split) <;> simp
@[simp] theorem issueOrder_slots (h : HeadId) (p : Placement) (r : SetRecord) (s : State) : (issueOrder h p r s).slots = s.slots := by
  unfold issueOrder; (repeat' split) <;> simp only [] <;> (repeat' split) <;> simp
@[simp] theorem issueOrder_activation (h : HeadId) (p : Placement) (r : SetRecord) (s : State) : (issueOrder h p r s).activation = s.activation := by
  unfold issueOrder; (repeat' split) <;> simp only [] <;> (repeat' split) <;> simp
@[simp] theorem issueOrder_ij (h : HeadId) (p : Placement) (r : SetRecord) (s : State) : (issueOrder h p r s).ij = s.ij := by
  unfold issueOrder; (repeat' split) <;> simp only [] <;> (repeat' split) <;> simp
@[simp] theorem issueOrder_lm (h : HeadId) (p : Placement) (r : SetRecord) (s : State) : (issueOrder h p r s).lm = s.lm := by
  unfold issueOrder; (repeat' split) <;> simp only [] <;> (repeat' split) <;> simp
@[simp] theorem issueOrder_ports (h : HeadId) (p : Placement) (r : SetRecord) (s : State) : (issueOrder h p r s).ports = s.ports := by
  unfold issueOrder; (repeat' split) <;> simp only [] <;> (repeat' split) <;> simp
@[simp] theorem issueOrder_pending (h : HeadId) (p : Placement) (r : SetRecord) (s : State) : (issueOrder h p r s).pending = s.pending := by
  unfold issueOrder; (repeat' split) <;> simp only [] <;> (repeat' split) <;> simp
@[simp] theorem issueOrder_choices (h : HeadId) (p : Placement) (r : SetRecord) (s : State) : (issueOrder h p r s).choices = s.choices := by
  unfold issueOrder; (repeat' split) <;> simp only [] <;> (repeat' split) <;> simp

@[simp] theorem issueHead_wpu (h : HeadId) (s : State) : (issueHead h s).wpu = s.wpu := by
  unfold issueHead; (repeat' split) <;> simp
@[simp] theorem issueHead_mtu (h : HeadId) (s : State) : (issueHead h s).mtu = s.mtu := by
  unfold issueHead; (repeat' split) <;> simp
@[simp] theorem issueHead_background (h : HeadId) (s : State) : (issueHead h s).background = s.background := by
  unfold issueHead; (repeat' split) <;> simp
@[simp] theorem issueHead_slots (h : HeadId) (s : State) : (issueHead h s).slots = s.slots := by
  unfold issueHead; (repeat' split) <;> simp
@[simp] theorem issueHead_activation (h : HeadId) (s : State) : (issueHead h s).activation = s.activation := by
  unfold issueHead; (repeat' split) <;> simp
@[simp] theorem issueHead_ij (h : HeadId) (s : State) : (issueHead h s).ij = s.ij := by
  unfold issueHead; (repeat' split) <;> simp
@[simp] theorem issueHead_lm (h : HeadId) (s : State) : (issueHead h s).lm = s.lm := by
  unfold issueHead; (repeat' split) <;> simp
@[simp] theorem issueHead_ports (h : HeadId) (s : State) : (issueHead h s).ports = s.ports := by
  unfold issueHead; (repeat' split) <;> simp
@[simp] theorem issueHead_pending (h : HeadId) (s : State) : (issueHead h s).pending = s.pending := by
  unfold issueHead; (repeat' split) <;> simp
@[simp] theorem issueHead_choices (h : HeadId) (s : State) : (issueHead h s).choices = s.choices := by
  unfold issueHead; (repeat' split) <;> simp

@[simp] theorem headBoundary_wpu (h : HeadId) (s : State) : (headBoundary s h).wpu = s.wpu := by
  unfold headBoundary; simp only []; split <;> simp
@[simp] theorem headBoundary_mtu (h : HeadId) (s : State) : (headBoundary s h).mtu = s.mtu := by
  unfold headBoundary; simp only []; split <;> simp
@[simp] theorem headBoundary_background (h : HeadId) (s : State) : (headBoundary s h).background = s.background := by
  unfold headBoundary; simp only []; split <;> simp
@[simp] theorem headBoundary_slots (h : HeadId) (s : State) : (headBoundary s h).slots = s.slots := by
  unfold headBoundary; simp only []; split <;> simp
@[simp] theorem headBoundary_activation (h : HeadId) (s : State) : (headBoundary s h).activation = s.activation := by
  unfold headBoundary; simp only []; split <;> simp
@[simp] theorem headBoundary_ij (h : HeadId) (s : State) : (headBoundary s h).ij = s.ij := by
  unfold headBoundary; simp only []; split <;> simp
@[simp] theorem headBoundary_lm (h : HeadId) (s : State) : (headBoundary s h).lm = s.lm := by
  unfold headBoundary; simp only []; split <;> simp
@[simp] theorem headBoundary_ports (h : HeadId) (s : State) : (headBoundary s h).ports = s.ports := by
  unfold headBoundary; simp only []; split <;> simp
@[simp] theorem headBoundary_pending (h : HeadId) (s : State) : (headBoundary s h).pending = s.pending := by
  unfold headBoundary; simp only []; split <;> simp
@[simp] theorem headBoundary_choices (h : HeadId) (s : State) : (headBoundary s h).choices = s.choices := by
  unfold headBoundary; simp only []; split <;> simp

@[simp] theorem failOrders_wpu (h : HeadId) (s : State) : (failOrders h s).wpu = s.wpu := by
  unfold failOrders; exact foldl_keeps _ (fun s t => by simp) _ s
@[simp] theorem failOrders_mtu (h : HeadId) (s : State) : (failOrders h s).mtu = s.mtu := by
  unfold failOrders; exact foldl_keeps _ (fun s t => by simp) _ s
@[simp] theorem failOrders_background (h : HeadId) (s : State) : (failOrders h s).background = s.background := by
  unfold failOrders; exact foldl_keeps _ (fun s t => by simp) _ s
@[simp] theorem failOrders_slots (h : HeadId) (s : State) : (failOrders h s).slots = s.slots := by
  unfold failOrders; exact foldl_keeps _ (fun s t => by simp) _ s
@[simp] theorem failOrders_activation (h : HeadId) (s : State) : (failOrders h s).activation = s.activation := by
  unfold failOrders; exact foldl_keeps _ (fun s t => by simp) _ s
@[simp] theorem failOrders_ij (h : HeadId) (s : State) : (failOrders h s).ij = s.ij := by
  unfold failOrders; exact foldl_keeps _ (fun s t => by simp) _ s
@[simp] theorem failOrders_lm (h : HeadId) (s : State) : (failOrders h s).lm = s.lm := by
  unfold failOrders; exact foldl_keeps _ (fun s t => by simp) _ s
@[simp] theorem failOrders_ports (h : HeadId) (s : State) : (failOrders h s).ports = s.ports := by
  unfold failOrders; exact foldl_keeps _ (fun s t => by simp) _ s
@[simp] theorem failOrders_pending (h : HeadId) (s : State) : (failOrders h s).pending = s.pending := by
  unfold failOrders; exact foldl_keeps _ (fun s t => by simp) _ s
@[simp] theorem failOrders_choices (h : HeadId) (s : State) : (failOrders h s).choices = s.choices := by
  unfold failOrders; exact foldl_keeps _ (fun s t => by simp) _ s

/-! ### closeMeasurement: the MTU, the judged set, REG_FAULT and REG_RUN -/

@[simp] theorem closeMeasurement_wpu (c : CloseCause) (s : State) : (closeMeasurement c s).wpu = s.wpu := by
  unfold closeMeasurement; (repeat' split) <;> simp only [] <;> (repeat' split) <;> simp
@[simp] theorem closeMeasurement_background (c : CloseCause) (s : State) : (closeMeasurement c s).background = s.background := by
  unfold closeMeasurement; (repeat' split) <;> simp only [] <;> (repeat' split) <;> simp
@[simp] theorem closeMeasurement_slots (c : CloseCause) (s : State) : (closeMeasurement c s).slots = s.slots := by
  unfold closeMeasurement; (repeat' split) <;> simp only [] <;> (repeat' split) <;> simp
@[simp] theorem closeMeasurement_activation (c : CloseCause) (s : State) : (closeMeasurement c s).activation = s.activation := by
  unfold closeMeasurement; (repeat' split) <;> simp only [] <;> (repeat' split) <;> simp
@[simp] theorem closeMeasurement_hou (c : CloseCause) (s : State) : (closeMeasurement c s).hou = s.hou := by
  unfold closeMeasurement; (repeat' split) <;> simp only [] <;> (repeat' split) <;> simp
@[simp] theorem closeMeasurement_ij (c : CloseCause) (s : State) : (closeMeasurement c s).ij = s.ij := by
  unfold closeMeasurement; (repeat' split) <;> simp only [] <;> (repeat' split) <;> simp
@[simp] theorem closeMeasurement_pending (c : CloseCause) (s : State) : (closeMeasurement c s).pending = s.pending := by
  unfold closeMeasurement; (repeat' split) <;> simp only [] <;> (repeat' split) <;> simp
@[simp] theorem closeMeasurement_choices (c : CloseCause) (s : State) : (closeMeasurement c s).choices = s.choices := by
  unfold closeMeasurement; (repeat' split) <;> simp only [] <;> (repeat' split) <;> simp

@[simp] theorem followMeasurement_wpu (s : State) : (followMeasurement s).wpu = s.wpu := by
  unfold followMeasurement; split
  · simp only []; split <;> simp
  · rfl
@[simp] theorem followMeasurement_background (s : State) : (followMeasurement s).background = s.background := by
  unfold followMeasurement; split
  · simp only []; split <;> simp
  · rfl
@[simp] theorem followMeasurement_slots (s : State) : (followMeasurement s).slots = s.slots := by
  unfold followMeasurement; split
  · simp only []; split <;> simp
  · rfl
@[simp] theorem followMeasurement_activation (s : State) : (followMeasurement s).activation = s.activation := by
  unfold followMeasurement; split
  · simp only []; split <;> simp
  · rfl
@[simp] theorem followMeasurement_hou (s : State) : (followMeasurement s).hou = s.hou := by
  unfold followMeasurement; split
  · simp only []; split <;> simp
  · rfl
@[simp] theorem followMeasurement_ij (s : State) : (followMeasurement s).ij = s.ij := by
  unfold followMeasurement; split
  · simp only []; split <;> simp
  · rfl
@[simp] theorem followMeasurement_pending (s : State) : (followMeasurement s).pending = s.pending := by
  unfold followMeasurement; split
  · simp only []; split <;> simp
  · rfl
@[simp] theorem followMeasurement_choices (s : State) : (followMeasurement s).choices = s.choices := by
  unfold followMeasurement; split
  · simp only []; split <;> simp
  · rfl

@[simp] theorem armMeasurement_wpu (s : State) : (armMeasurement s).wpu = s.wpu := by
  rfl
@[simp] theorem armMeasurement_st (s : State) : (armMeasurement s).st = s.st := by
  rfl
@[simp] theorem armMeasurement_background (s : State) : (armMeasurement s).background = s.background := by
  rfl
@[simp] theorem armMeasurement_slots (s : State) : (armMeasurement s).slots = s.slots := by
  rfl
@[simp] theorem armMeasurement_activation (s : State) : (armMeasurement s).activation = s.activation := by
  rfl
@[simp] theorem armMeasurement_hou (s : State) : (armMeasurement s).hou = s.hou := by
  rfl
@[simp] theorem armMeasurement_ij (s : State) : (armMeasurement s).ij = s.ij := by
  rfl
@[simp] theorem armMeasurement_lm (s : State) : (armMeasurement s).lm = s.lm := by
  rfl
@[simp] theorem armMeasurement_ports (s : State) : (armMeasurement s).ports = s.ports := by
  rfl
@[simp] theorem armMeasurement_pending (s : State) : (armMeasurement s).pending = s.pending := by
  rfl
@[simp] theorem armMeasurement_choices (s : State) : (armMeasurement s).choices = s.choices := by
  rfl

@[simp] theorem measureBoundary_wpu (s : State) : (measureBoundary s).wpu = s.wpu := by
  unfold measureBoundary; simp only [armMeasurement_wpu]; split <;> simp
@[simp] theorem measureBoundary_background (s : State) : (measureBoundary s).background = s.background := by
  unfold measureBoundary; simp only [armMeasurement_background]; split <;> simp
@[simp] theorem measureBoundary_slots (s : State) : (measureBoundary s).slots = s.slots := by
  unfold measureBoundary; simp only [armMeasurement_slots]; split <;> simp
@[simp] theorem measureBoundary_activation (s : State) : (measureBoundary s).activation = s.activation := by
  unfold measureBoundary; simp only [armMeasurement_activation]; split <;> simp
@[simp] theorem measureBoundary_hou (s : State) : (measureBoundary s).hou = s.hou := by
  unfold measureBoundary; simp only [armMeasurement_hou]; split <;> simp
@[simp] theorem measureBoundary_ij (s : State) : (measureBoundary s).ij = s.ij := by
  unfold measureBoundary; simp only [armMeasurement_ij]; split <;> simp
@[simp] theorem measureBoundary_pending (s : State) : (measureBoundary s).pending = s.pending := by
  unfold measureBoundary; simp only [armMeasurement_pending]; split <;> simp
@[simp] theorem measureBoundary_choices (s : State) : (measureBoundary s).choices = s.choices := by
  unfold measureBoundary; simp only [armMeasurement_choices]; split <;> simp

@[simp] theorem takeMark_wpu (k : ChannelId) (h : Hit) (s : State) : (takeMark k h s).wpu = s.wpu := by
  unfold takeMark; (repeat' split) <;> simp only [] <;> (repeat' split) <;> simp
@[simp] theorem takeMark_background (k : ChannelId) (h : Hit) (s : State) : (takeMark k h s).background = s.background := by
  unfold takeMark; (repeat' split) <;> simp only [] <;> (repeat' split) <;> simp
@[simp] theorem takeMark_slots (k : ChannelId) (h : Hit) (s : State) : (takeMark k h s).slots = s.slots := by
  unfold takeMark; (repeat' split) <;> simp only [] <;> (repeat' split) <;> simp
@[simp] theorem takeMark_activation (k : ChannelId) (h : Hit) (s : State) : (takeMark k h s).activation = s.activation := by
  unfold takeMark; (repeat' split) <;> simp only [] <;> (repeat' split) <;> simp
@[simp] theorem takeMark_hou (k : ChannelId) (h : Hit) (s : State) : (takeMark k h s).hou = s.hou := by
  unfold takeMark; (repeat' split) <;> simp only [] <;> (repeat' split) <;> simp
@[simp] theorem takeMark_ij (k : ChannelId) (h : Hit) (s : State) : (takeMark k h s).ij = s.ij := by
  unfold takeMark; (repeat' split) <;> simp only [] <;> (repeat' split) <;> simp
@[simp] theorem takeMark_pending (k : ChannelId) (h : Hit) (s : State) : (takeMark k h s).pending = s.pending := by
  unfold takeMark; (repeat' split) <;> simp only [] <;> (repeat' split) <;> simp
@[simp] theorem takeMark_choices (k : ChannelId) (h : Hit) (s : State) : (takeMark k h s).choices = s.choices := by
  unfold takeMark; (repeat' split) <;> simp only [] <;> (repeat' split) <;> simp

@[simp] theorem markEdge_wpu (k : ChannelId) (s : State) : (markEdge k s).wpu = s.wpu := by
  unfold markEdge; (repeat' split) <;> simp
@[simp] theorem markEdge_background (k : ChannelId) (s : State) : (markEdge k s).background = s.background := by
  unfold markEdge; (repeat' split) <;> simp
@[simp] theorem markEdge_slots (k : ChannelId) (s : State) : (markEdge k s).slots = s.slots := by
  unfold markEdge; (repeat' split) <;> simp
@[simp] theorem markEdge_activation (k : ChannelId) (s : State) : (markEdge k s).activation = s.activation := by
  unfold markEdge; (repeat' split) <;> simp
@[simp] theorem markEdge_hou (k : ChannelId) (s : State) : (markEdge k s).hou = s.hou := by
  unfold markEdge; (repeat' split) <;> simp
@[simp] theorem markEdge_ij (k : ChannelId) (s : State) : (markEdge k s).ij = s.ij := by
  unfold markEdge; (repeat' split) <;> simp
@[simp] theorem markEdge_pending (k : ChannelId) (s : State) : (markEdge k s).pending = s.pending := by
  unfold markEdge; (repeat' split) <;> simp
@[simp] theorem markEdge_choices (k : ChannelId) (s : State) : (markEdge k s).choices = s.choices := by
  unfold markEdge; (repeat' split) <;> simp

@[simp] theorem closeWindow_wpu (s : State) : (closeWindow s).wpu = s.wpu := by
  simp [closeWindow]
@[simp] theorem closeWindow_mtu (s : State) : (closeWindow s).mtu = s.mtu := by
  simp [closeWindow]
@[simp] theorem closeWindow_background (s : State) : (closeWindow s).background = s.background := by
  simp [closeWindow]
@[simp] theorem closeWindow_slots (s : State) : (closeWindow s).slots = s.slots := by
  simp [closeWindow]
@[simp] theorem closeWindow_activation (s : State) : (closeWindow s).activation = s.activation := by
  simp [closeWindow]
@[simp] theorem closeWindow_hou (s : State) : (closeWindow s).hou = s.hou := by
  simp [closeWindow]
@[simp] theorem closeWindow_ij (s : State) : (closeWindow s).ij = s.ij := by
  simp [closeWindow]
@[simp] theorem closeWindow_lm (s : State) : (closeWindow s).lm = s.lm := by
  simp [closeWindow]
@[simp] theorem closeWindow_ports (s : State) : (closeWindow s).ports = s.ports := by
  simp [closeWindow]
@[simp] theorem closeWindow_pending (s : State) : (closeWindow s).pending = s.pending := by
  simp [closeWindow]
@[simp] theorem closeWindow_choices (s : State) : (closeWindow s).choices = s.choices := by
  simp [closeWindow]

/-! ### gateStep: the gates and their lines -/

@[simp] theorem gateStep_wpu (d : Option SetRecord) (s : State) : (gateStep d s).wpu = s.wpu := by
  unfold gateStep; exact foldl_keeps _ (fun s k => by simp) _ s
@[simp] theorem gateStep_mtu (d : Option SetRecord) (s : State) : (gateStep d s).mtu = s.mtu := by
  unfold gateStep; exact foldl_keeps _ (fun s k => by simp) _ s
@[simp] theorem gateStep_background (d : Option SetRecord) (s : State) : (gateStep d s).background = s.background := by
  unfold gateStep; exact foldl_keeps _ (fun s k => by simp) _ s
@[simp] theorem gateStep_slots (d : Option SetRecord) (s : State) : (gateStep d s).slots = s.slots := by
  unfold gateStep; exact foldl_keeps _ (fun s k => by simp) _ s
@[simp] theorem gateStep_activation (d : Option SetRecord) (s : State) : (gateStep d s).activation = s.activation := by
  unfold gateStep; exact foldl_keeps _ (fun s k => by simp) _ s
@[simp] theorem gateStep_hou (d : Option SetRecord) (s : State) : (gateStep d s).hou = s.hou := by
  unfold gateStep; exact foldl_keeps _ (fun s k => by simp) _ s
@[simp] theorem gateStep_ij (d : Option SetRecord) (s : State) : (gateStep d s).ij = s.ij := by
  unfold gateStep; exact foldl_keeps _ (fun s k => by simp) _ s
@[simp] theorem gateStep_ports (d : Option SetRecord) (s : State) : (gateStep d s).ports = s.ports := by
  unfold gateStep; exact foldl_keeps _ (fun s k => by simp) _ s
@[simp] theorem gateStep_pending (d : Option SetRecord) (s : State) : (gateStep d s).pending = s.pending := by
  unfold gateStep; exact foldl_keeps _ (fun s k => by simp) _ s
@[simp] theorem gateStep_choices (d : Option SetRecord) (s : State) : (gateStep d s).choices = s.choices := by
  unfold gateStep; exact foldl_keeps _ (fun s k => by simp) _ s

@[simp] theorem releaseGates_wpu (s : State) : (releaseGates s).wpu = s.wpu := by
  unfold releaseGates; exact foldl_keeps _ (fun s k => by (repeat' split) <;> simp) _ s
@[simp] theorem releaseGates_mtu (s : State) : (releaseGates s).mtu = s.mtu := by
  unfold releaseGates; exact foldl_keeps _ (fun s k => by (repeat' split) <;> simp) _ s
@[simp] theorem releaseGates_background (s : State) : (releaseGates s).background = s.background := by
  unfold releaseGates; exact foldl_keeps _ (fun s k => by (repeat' split) <;> simp) _ s
@[simp] theorem releaseGates_slots (s : State) : (releaseGates s).slots = s.slots := by
  unfold releaseGates; exact foldl_keeps _ (fun s k => by (repeat' split) <;> simp) _ s
@[simp] theorem releaseGates_activation (s : State) : (releaseGates s).activation = s.activation := by
  unfold releaseGates; exact foldl_keeps _ (fun s k => by (repeat' split) <;> simp) _ s
@[simp] theorem releaseGates_hou (s : State) : (releaseGates s).hou = s.hou := by
  unfold releaseGates; exact foldl_keeps _ (fun s k => by (repeat' split) <;> simp) _ s
@[simp] theorem releaseGates_ij (s : State) : (releaseGates s).ij = s.ij := by
  unfold releaseGates; exact foldl_keeps _ (fun s k => by (repeat' split) <;> simp) _ s
@[simp] theorem releaseGates_ports (s : State) : (releaseGates s).ports = s.ports := by
  unfold releaseGates; exact foldl_keeps _ (fun s k => by (repeat' split) <;> simp) _ s
@[simp] theorem releaseGates_pending (s : State) : (releaseGates s).pending = s.pending := by
  unfold releaseGates; exact foldl_keeps _ (fun s k => by (repeat' split) <;> simp) _ s
@[simp] theorem releaseGates_choices (s : State) : (releaseGates s).choices = s.choices := by
  unfold releaseGates; exact foldl_keeps _ (fun s k => by (repeat' split) <;> simp) _ s

@[simp] theorem appendSet_wpu (r : SetRecord) (s : State) : (appendSet r s).wpu = s.wpu := by
  simp [appendSet]
@[simp] theorem appendSet_mtu (r : SetRecord) (s : State) : (appendSet r s).mtu = s.mtu := by
  simp [appendSet]
@[simp] theorem appendSet_background (r : SetRecord) (s : State) : (appendSet r s).background = s.background := by
  simp [appendSet]
@[simp] theorem appendSet_activation (r : SetRecord) (s : State) : (appendSet r s).activation = s.activation := by
  simp [appendSet]
@[simp] theorem appendSet_hou (r : SetRecord) (s : State) : (appendSet r s).hou = s.hou := by
  simp [appendSet]
@[simp] theorem appendSet_ij (r : SetRecord) (s : State) : (appendSet r s).ij = s.ij := by
  simp [appendSet]
@[simp] theorem appendSet_lm (r : SetRecord) (s : State) : (appendSet r s).lm = s.lm := by
  simp [appendSet]
@[simp] theorem appendSet_ports (r : SetRecord) (s : State) : (appendSet r s).ports = s.ports := by
  simp [appendSet]
@[simp] theorem appendSet_pending (r : SetRecord) (s : State) : (appendSet r s).pending = s.pending := by
  simp [appendSet]
@[simp] theorem appendSet_choices (r : SetRecord) (s : State) : (appendSet r s).choices = s.choices := by
  simp [appendSet]

@[simp] theorem Settling.write_wpu (k : SlotId) (j : Nat) (b : RecordBody) (a : Settling) : (a.write k j b).state.wpu = a.state.wpu := by
  unfold Settling.write journalFromSet; simp only []; split <;> rfl
@[simp] theorem Settling.write_mtu (k : SlotId) (j : Nat) (b : RecordBody) (a : Settling) : (a.write k j b).state.mtu = a.state.mtu := by
  unfold Settling.write journalFromSet; simp only []; split <;> rfl
@[simp] theorem Settling.write_st (k : SlotId) (j : Nat) (b : RecordBody) (a : Settling) : (a.write k j b).state.st = a.state.st := by
  unfold Settling.write journalFromSet; simp only []; split <;> rfl
@[simp] theorem Settling.write_background (k : SlotId) (j : Nat) (b : RecordBody) (a : Settling) : (a.write k j b).state.background = a.state.background := by
  unfold Settling.write journalFromSet; simp only []; split <;> rfl
@[simp] theorem Settling.write_slots (k : SlotId) (j : Nat) (b : RecordBody) (a : Settling) : (a.write k j b).state.slots = a.state.slots := by
  unfold Settling.write journalFromSet; simp only []; split <;> rfl
@[simp] theorem Settling.write_activation (k : SlotId) (j : Nat) (b : RecordBody) (a : Settling) : (a.write k j b).state.activation = a.state.activation := by
  unfold Settling.write journalFromSet; simp only []; split <;> rfl
@[simp] theorem Settling.write_hou (k : SlotId) (j : Nat) (b : RecordBody) (a : Settling) : (a.write k j b).state.hou = a.state.hou := by
  unfold Settling.write journalFromSet; simp only []; split <;> rfl
@[simp] theorem Settling.write_lm (k : SlotId) (j : Nat) (b : RecordBody) (a : Settling) : (a.write k j b).state.lm = a.state.lm := by
  unfold Settling.write journalFromSet; simp only []; split <;> rfl
@[simp] theorem Settling.write_ports (k : SlotId) (j : Nat) (b : RecordBody) (a : Settling) : (a.write k j b).state.ports = a.state.ports := by
  unfold Settling.write journalFromSet; simp only []; split <;> rfl
@[simp] theorem Settling.write_pending (k : SlotId) (j : Nat) (b : RecordBody) (a : Settling) : (a.write k j b).state.pending = a.state.pending := by
  unfold Settling.write journalFromSet; simp only []; split <;> rfl
@[simp] theorem Settling.write_choices (k : SlotId) (j : Nat) (b : RecordBody) (a : Settling) : (a.write k j b).state.choices = a.state.choices := by
  unfold Settling.write journalFromSet; simp only []; split <;> rfl

@[simp] theorem issueNumber_wpu (k : SlotId) (q : SeqId) (l : LaneId) (n : Number) (a : Settling) : (issueNumber k q l n a).state.wpu = a.state.wpu := by
  unfold issueNumber; (repeat' split) <;> simp
@[simp] theorem issueNumber_mtu (k : SlotId) (q : SeqId) (l : LaneId) (n : Number) (a : Settling) : (issueNumber k q l n a).state.mtu = a.state.mtu := by
  unfold issueNumber; (repeat' split) <;> simp
@[simp] theorem issueNumber_st (k : SlotId) (q : SeqId) (l : LaneId) (n : Number) (a : Settling) : (issueNumber k q l n a).state.st = a.state.st := by
  unfold issueNumber; (repeat' split) <;> simp
@[simp] theorem issueNumber_background (k : SlotId) (q : SeqId) (l : LaneId) (n : Number) (a : Settling) : (issueNumber k q l n a).state.background = a.state.background := by
  unfold issueNumber; (repeat' split) <;> simp
@[simp] theorem issueNumber_activation (k : SlotId) (q : SeqId) (l : LaneId) (n : Number) (a : Settling) : (issueNumber k q l n a).state.activation = a.state.activation := by
  unfold issueNumber; (repeat' split) <;> simp
@[simp] theorem issueNumber_hou (k : SlotId) (q : SeqId) (l : LaneId) (n : Number) (a : Settling) : (issueNumber k q l n a).state.hou = a.state.hou := by
  unfold issueNumber; (repeat' split) <;> simp
@[simp] theorem issueNumber_lm (k : SlotId) (q : SeqId) (l : LaneId) (n : Number) (a : Settling) : (issueNumber k q l n a).state.lm = a.state.lm := by
  unfold issueNumber; (repeat' split) <;> simp
@[simp] theorem issueNumber_ports (k : SlotId) (q : SeqId) (l : LaneId) (n : Number) (a : Settling) : (issueNumber k q l n a).state.ports = a.state.ports := by
  unfold issueNumber; (repeat' split) <;> simp
@[simp] theorem issueNumber_pending (k : SlotId) (q : SeqId) (l : LaneId) (n : Number) (a : Settling) : (issueNumber k q l n a).state.pending = a.state.pending := by
  unfold issueNumber; (repeat' split) <;> simp
@[simp] theorem issueNumber_choices (k : SlotId) (q : SeqId) (l : LaneId) (n : Number) (a : Settling) : (issueNumber k q l n a).state.choices = a.state.choices := by
  unfold issueNumber; (repeat' split) <;> simp

@[simp] theorem spoilNumber_wpu (k : SlotId) (q : SeqId) (l : LaneId) (w : Reason) (t : Cycle) (n : Number) (a : Settling) : (spoilNumber k q l w t n a).state.wpu = a.state.wpu := by
  unfold spoilNumber; (repeat' split) <;> simp
@[simp] theorem spoilNumber_mtu (k : SlotId) (q : SeqId) (l : LaneId) (w : Reason) (t : Cycle) (n : Number) (a : Settling) : (spoilNumber k q l w t n a).state.mtu = a.state.mtu := by
  unfold spoilNumber; (repeat' split) <;> simp
@[simp] theorem spoilNumber_st (k : SlotId) (q : SeqId) (l : LaneId) (w : Reason) (t : Cycle) (n : Number) (a : Settling) : (spoilNumber k q l w t n a).state.st = a.state.st := by
  unfold spoilNumber; (repeat' split) <;> simp
@[simp] theorem spoilNumber_background (k : SlotId) (q : SeqId) (l : LaneId) (w : Reason) (t : Cycle) (n : Number) (a : Settling) : (spoilNumber k q l w t n a).state.background = a.state.background := by
  unfold spoilNumber; (repeat' split) <;> simp
@[simp] theorem spoilNumber_activation (k : SlotId) (q : SeqId) (l : LaneId) (w : Reason) (t : Cycle) (n : Number) (a : Settling) : (spoilNumber k q l w t n a).state.activation = a.state.activation := by
  unfold spoilNumber; (repeat' split) <;> simp
@[simp] theorem spoilNumber_hou (k : SlotId) (q : SeqId) (l : LaneId) (w : Reason) (t : Cycle) (n : Number) (a : Settling) : (spoilNumber k q l w t n a).state.hou = a.state.hou := by
  unfold spoilNumber; (repeat' split) <;> simp
@[simp] theorem spoilNumber_lm (k : SlotId) (q : SeqId) (l : LaneId) (w : Reason) (t : Cycle) (n : Number) (a : Settling) : (spoilNumber k q l w t n a).state.lm = a.state.lm := by
  unfold spoilNumber; (repeat' split) <;> simp
@[simp] theorem spoilNumber_ports (k : SlotId) (q : SeqId) (l : LaneId) (w : Reason) (t : Cycle) (n : Number) (a : Settling) : (spoilNumber k q l w t n a).state.ports = a.state.ports := by
  unfold spoilNumber; (repeat' split) <;> simp
@[simp] theorem spoilNumber_pending (k : SlotId) (q : SeqId) (l : LaneId) (w : Reason) (t : Cycle) (n : Number) (a : Settling) : (spoilNumber k q l w t n a).state.pending = a.state.pending := by
  unfold spoilNumber; (repeat' split) <;> simp
@[simp] theorem spoilNumber_choices (k : SlotId) (q : SeqId) (l : LaneId) (w : Reason) (t : Cycle) (n : Number) (a : Settling) : (spoilNumber k q l w t n a).state.choices = a.state.choices := by
  unfold spoilNumber; (repeat' split) <;> simp

@[simp] theorem settleEntry_wpu (r : SetRecord) (l : LaneId) (p : LanePart) (e : EntryPart) (a : Settling) : (settleEntry r l p a e).state.wpu = a.state.wpu := by
  unfold settleEntry; (repeat' split) <;> simp
@[simp] theorem settleEntry_mtu (r : SetRecord) (l : LaneId) (p : LanePart) (e : EntryPart) (a : Settling) : (settleEntry r l p a e).state.mtu = a.state.mtu := by
  unfold settleEntry; (repeat' split) <;> simp
@[simp] theorem settleEntry_st (r : SetRecord) (l : LaneId) (p : LanePart) (e : EntryPart) (a : Settling) : (settleEntry r l p a e).state.st = a.state.st := by
  unfold settleEntry; (repeat' split) <;> simp
@[simp] theorem settleEntry_background (r : SetRecord) (l : LaneId) (p : LanePart) (e : EntryPart) (a : Settling) : (settleEntry r l p a e).state.background = a.state.background := by
  unfold settleEntry; (repeat' split) <;> simp
@[simp] theorem settleEntry_activation (r : SetRecord) (l : LaneId) (p : LanePart) (e : EntryPart) (a : Settling) : (settleEntry r l p a e).state.activation = a.state.activation := by
  unfold settleEntry; (repeat' split) <;> simp
@[simp] theorem settleEntry_hou (r : SetRecord) (l : LaneId) (p : LanePart) (e : EntryPart) (a : Settling) : (settleEntry r l p a e).state.hou = a.state.hou := by
  unfold settleEntry; (repeat' split) <;> simp
@[simp] theorem settleEntry_lm (r : SetRecord) (l : LaneId) (p : LanePart) (e : EntryPart) (a : Settling) : (settleEntry r l p a e).state.lm = a.state.lm := by
  unfold settleEntry; (repeat' split) <;> simp
@[simp] theorem settleEntry_ports (r : SetRecord) (l : LaneId) (p : LanePart) (e : EntryPart) (a : Settling) : (settleEntry r l p a e).state.ports = a.state.ports := by
  unfold settleEntry; (repeat' split) <;> simp
@[simp] theorem settleEntry_pending (r : SetRecord) (l : LaneId) (p : LanePart) (e : EntryPart) (a : Settling) : (settleEntry r l p a e).state.pending = a.state.pending := by
  unfold settleEntry; (repeat' split) <;> simp
@[simp] theorem settleEntry_choices (r : SetRecord) (l : LaneId) (p : LanePart) (e : EntryPart) (a : Settling) : (settleEntry r l p a e).state.choices = a.state.choices := by
  unfold settleEntry; (repeat' split) <;> simp

@[simp] theorem settleLane_wpu (r : SetRecord) (l : LaneId) (a : Settling) : (settleLane r a l).state.wpu = a.state.wpu := by
  unfold settleLane; split
  · rfl
  · exact foldl_keeps (fun a : Settling => a.state.wpu) (fun a e => by simp) _ a
@[simp] theorem settleLane_mtu (r : SetRecord) (l : LaneId) (a : Settling) : (settleLane r a l).state.mtu = a.state.mtu := by
  unfold settleLane; split
  · rfl
  · exact foldl_keeps (fun a : Settling => a.state.mtu) (fun a e => by simp) _ a
@[simp] theorem settleLane_st (r : SetRecord) (l : LaneId) (a : Settling) : (settleLane r a l).state.st = a.state.st := by
  unfold settleLane; split
  · rfl
  · exact foldl_keeps (fun a : Settling => a.state.st) (fun a e => by simp) _ a
@[simp] theorem settleLane_background (r : SetRecord) (l : LaneId) (a : Settling) : (settleLane r a l).state.background = a.state.background := by
  unfold settleLane; split
  · rfl
  · exact foldl_keeps (fun a : Settling => a.state.background) (fun a e => by simp) _ a
@[simp] theorem settleLane_activation (r : SetRecord) (l : LaneId) (a : Settling) : (settleLane r a l).state.activation = a.state.activation := by
  unfold settleLane; split
  · rfl
  · exact foldl_keeps (fun a : Settling => a.state.activation) (fun a e => by simp) _ a
@[simp] theorem settleLane_hou (r : SetRecord) (l : LaneId) (a : Settling) : (settleLane r a l).state.hou = a.state.hou := by
  unfold settleLane; split
  · rfl
  · exact foldl_keeps (fun a : Settling => a.state.hou) (fun a e => by simp) _ a
@[simp] theorem settleLane_lm (r : SetRecord) (l : LaneId) (a : Settling) : (settleLane r a l).state.lm = a.state.lm := by
  unfold settleLane; split
  · rfl
  · exact foldl_keeps (fun a : Settling => a.state.lm) (fun a e => by simp) _ a
@[simp] theorem settleLane_ports (r : SetRecord) (l : LaneId) (a : Settling) : (settleLane r a l).state.ports = a.state.ports := by
  unfold settleLane; split
  · rfl
  · exact foldl_keeps (fun a : Settling => a.state.ports) (fun a e => by simp) _ a
@[simp] theorem settleLane_pending (r : SetRecord) (l : LaneId) (a : Settling) : (settleLane r a l).state.pending = a.state.pending := by
  unfold settleLane; split
  · rfl
  · exact foldl_keeps (fun a : Settling => a.state.pending) (fun a e => by simp) _ a
@[simp] theorem settleLane_choices (r : SetRecord) (l : LaneId) (a : Settling) : (settleLane r a l).state.choices = a.state.choices := by
  unfold settleLane; split
  · rfl
  · exact foldl_keeps (fun a : Settling => a.state.choices) (fun a e => by simp) _ a

@[simp] theorem removeSet_wpu (r : SetRecord) (a : Settling) : (removeSet r a).wpu = a.state.wpu := by
  unfold removeSet; simp only []; (repeat' split) <;> simp
@[simp] theorem removeSet_mtu (r : SetRecord) (a : Settling) : (removeSet r a).mtu = a.state.mtu := by
  unfold removeSet; simp only []; (repeat' split) <;> simp
@[simp] theorem removeSet_activation (r : SetRecord) (a : Settling) : (removeSet r a).activation = a.state.activation := by
  unfold removeSet; simp only []; (repeat' split) <;> simp
@[simp] theorem removeSet_hou (r : SetRecord) (a : Settling) : (removeSet r a).hou = a.state.hou := by
  unfold removeSet; simp only []; (repeat' split) <;> simp
@[simp] theorem removeSet_pending (r : SetRecord) (a : Settling) : (removeSet r a).pending = a.state.pending := by
  unfold removeSet; simp only []; (repeat' split) <;> simp
@[simp] theorem removeSet_choices (r : SetRecord) (a : Settling) : (removeSet r a).choices = a.state.choices := by
  unfold removeSet; simp only []; (repeat' split) <;> simp

@[simp] theorem retire_wpu (s : State) : (retire s).wpu = s.wpu := by
  unfold retire; split
  · simp
  · simp only [removeSet_wpu]
    refine (foldl_keeps (fun a : Settling => a.state.wpu) (fun a l => by simp) _ _).trans (by simp)
@[simp] theorem retire_mtu (s : State) : (retire s).mtu = s.mtu := by
  unfold retire; split
  · simp
  · simp only [removeSet_mtu]
    refine (foldl_keeps (fun a : Settling => a.state.mtu) (fun a l => by simp) _ _).trans (by simp)
@[simp] theorem retire_activation (s : State) : (retire s).activation = s.activation := by
  unfold retire; split
  · simp
  · simp only [removeSet_activation]
    refine (foldl_keeps (fun a : Settling => a.state.activation) (fun a l => by simp) _ _).trans (by simp)
@[simp] theorem retire_hou (s : State) : (retire s).hou = s.hou := by
  unfold retire; split
  · simp
  · simp only [removeSet_hou]
    refine (foldl_keeps (fun a : Settling => a.state.hou) (fun a l => by simp) _ _).trans (by simp)
@[simp] theorem retire_pending (s : State) : (retire s).pending = s.pending := by
  unfold retire; split
  · simp
  · simp only [removeSet_pending]
    refine (foldl_keeps (fun a : Settling => a.state.pending) (fun a l => by simp) _ _).trans (by simp)
@[simp] theorem retire_choices (s : State) : (retire s).choices = s.choices := by
  unfold retire; split
  · simp
  · simp only [removeSet_choices]
    refine (foldl_keeps (fun a : Settling => a.state.choices) (fun a l => by simp) _ _).trans (by simp)

@[simp] theorem Filling.push_wpu (l : LaneId) (q : Option SeqId) (e : EntryState) (a : Filling) : (a.push l q e).state.wpu = a.state.wpu := by
  rfl
@[simp] theorem Filling.push_mtu (l : LaneId) (q : Option SeqId) (e : EntryState) (a : Filling) : (a.push l q e).state.mtu = a.state.mtu := by
  rfl
@[simp] theorem Filling.push_st (l : LaneId) (q : Option SeqId) (e : EntryState) (a : Filling) : (a.push l q e).state.st = a.state.st := by
  rfl
@[simp] theorem Filling.push_background (l : LaneId) (q : Option SeqId) (e : EntryState) (a : Filling) : (a.push l q e).state.background = a.state.background := by
  rfl
@[simp] theorem Filling.push_slots (l : LaneId) (q : Option SeqId) (e : EntryState) (a : Filling) : (a.push l q e).state.slots = a.state.slots := by
  rfl
@[simp] theorem Filling.push_activation (l : LaneId) (q : Option SeqId) (e : EntryState) (a : Filling) : (a.push l q e).state.activation = a.state.activation := by
  rfl
@[simp] theorem Filling.push_hou (l : LaneId) (q : Option SeqId) (e : EntryState) (a : Filling) : (a.push l q e).state.hou = a.state.hou := by
  rfl
@[simp] theorem Filling.push_ij (l : LaneId) (q : Option SeqId) (e : EntryState) (a : Filling) : (a.push l q e).state.ij = a.state.ij := by
  rfl
@[simp] theorem Filling.push_lm (l : LaneId) (q : Option SeqId) (e : EntryState) (a : Filling) : (a.push l q e).state.lm = a.state.lm := by
  rfl
@[simp] theorem Filling.push_ports (l : LaneId) (q : Option SeqId) (e : EntryState) (a : Filling) : (a.push l q e).state.ports = a.state.ports := by
  rfl
@[simp] theorem Filling.push_pending (l : LaneId) (q : Option SeqId) (e : EntryState) (a : Filling) : (a.push l q e).state.pending = a.state.pending := by
  rfl
@[simp] theorem Filling.push_choices (l : LaneId) (q : Option SeqId) (e : EntryState) (a : Filling) : (a.push l q e).state.choices = a.state.choices := by
  rfl

@[simp] theorem fillFresh_wpu (k : SlotId) (l : LaneId) (q : SeqId) (x : Sequence) (r : List Exclusion) (a : Filling) : (fillFresh k l q x r a).state.wpu = a.state.wpu := by
  unfold fillFresh; (repeat' split) <;> simp
@[simp] theorem fillFresh_mtu (k : SlotId) (l : LaneId) (q : SeqId) (x : Sequence) (r : List Exclusion) (a : Filling) : (fillFresh k l q x r a).state.mtu = a.state.mtu := by
  unfold fillFresh; (repeat' split) <;> simp
@[simp] theorem fillFresh_st (k : SlotId) (l : LaneId) (q : SeqId) (x : Sequence) (r : List Exclusion) (a : Filling) : (fillFresh k l q x r a).state.st = a.state.st := by
  unfold fillFresh; (repeat' split) <;> simp
@[simp] theorem fillFresh_activation (k : SlotId) (l : LaneId) (q : SeqId) (x : Sequence) (r : List Exclusion) (a : Filling) : (fillFresh k l q x r a).state.activation = a.state.activation := by
  unfold fillFresh; (repeat' split) <;> simp
@[simp] theorem fillFresh_hou (k : SlotId) (l : LaneId) (q : SeqId) (x : Sequence) (r : List Exclusion) (a : Filling) : (fillFresh k l q x r a).state.hou = a.state.hou := by
  unfold fillFresh; (repeat' split) <;> simp
@[simp] theorem fillFresh_pending (k : SlotId) (l : LaneId) (q : SeqId) (x : Sequence) (r : List Exclusion) (a : Filling) : (fillFresh k l q x r a).state.pending = a.state.pending := by
  unfold fillFresh; (repeat' split) <;> simp
@[simp] theorem fillFresh_choices (k : SlotId) (l : LaneId) (q : SeqId) (x : Sequence) (r : List Exclusion) (a : Filling) : (fillFresh k l q x r a).state.choices = a.state.choices := by
  unfold fillFresh; (repeat' split) <;> simp

@[simp] theorem fillReprint_wpu (k : SlotId) (l : LaneId) (q : SeqId) (x : Sequence) (e : QueueEntry) (a : Filling) : (fillReprint k l q x e a).state.wpu = a.state.wpu := by
  unfold fillReprint; (repeat' split) <;> simp
@[simp] theorem fillReprint_mtu (k : SlotId) (l : LaneId) (q : SeqId) (x : Sequence) (e : QueueEntry) (a : Filling) : (fillReprint k l q x e a).state.mtu = a.state.mtu := by
  unfold fillReprint; (repeat' split) <;> simp
@[simp] theorem fillReprint_st (k : SlotId) (l : LaneId) (q : SeqId) (x : Sequence) (e : QueueEntry) (a : Filling) : (fillReprint k l q x e a).state.st = a.state.st := by
  unfold fillReprint; (repeat' split) <;> simp
@[simp] theorem fillReprint_background (k : SlotId) (l : LaneId) (q : SeqId) (x : Sequence) (e : QueueEntry) (a : Filling) : (fillReprint k l q x e a).state.background = a.state.background := by
  unfold fillReprint; (repeat' split) <;> simp
@[simp] theorem fillReprint_activation (k : SlotId) (l : LaneId) (q : SeqId) (x : Sequence) (e : QueueEntry) (a : Filling) : (fillReprint k l q x e a).state.activation = a.state.activation := by
  unfold fillReprint; (repeat' split) <;> simp
@[simp] theorem fillReprint_hou (k : SlotId) (l : LaneId) (q : SeqId) (x : Sequence) (e : QueueEntry) (a : Filling) : (fillReprint k l q x e a).state.hou = a.state.hou := by
  unfold fillReprint; (repeat' split) <;> simp
@[simp] theorem fillReprint_ij (k : SlotId) (l : LaneId) (q : SeqId) (x : Sequence) (e : QueueEntry) (a : Filling) : (fillReprint k l q x e a).state.ij = a.state.ij := by
  unfold fillReprint; (repeat' split) <;> simp
@[simp] theorem fillReprint_lm (k : SlotId) (l : LaneId) (q : SeqId) (x : Sequence) (e : QueueEntry) (a : Filling) : (fillReprint k l q x e a).state.lm = a.state.lm := by
  unfold fillReprint; (repeat' split) <;> simp
@[simp] theorem fillReprint_ports (k : SlotId) (l : LaneId) (q : SeqId) (x : Sequence) (e : QueueEntry) (a : Filling) : (fillReprint k l q x e a).state.ports = a.state.ports := by
  unfold fillReprint; (repeat' split) <;> simp
@[simp] theorem fillReprint_pending (k : SlotId) (l : LaneId) (q : SeqId) (x : Sequence) (e : QueueEntry) (a : Filling) : (fillReprint k l q x e a).state.pending = a.state.pending := by
  unfold fillReprint; (repeat' split) <;> simp
@[simp] theorem fillReprint_choices (k : SlotId) (l : LaneId) (q : SeqId) (x : Sequence) (e : QueueEntry) (a : Filling) : (fillReprint k l q x e a).state.choices = a.state.choices := by
  unfold fillReprint; (repeat' split) <;> simp

@[simp] theorem fillEntry_wpu (k : SlotId) (e : AllocEntry) (a : Filling) : (fillEntry k a e).state.wpu = a.state.wpu := by
  unfold fillEntry; (repeat' split) <;> simp
@[simp] theorem fillEntry_mtu (k : SlotId) (e : AllocEntry) (a : Filling) : (fillEntry k a e).state.mtu = a.state.mtu := by
  unfold fillEntry; (repeat' split) <;> simp
@[simp] theorem fillEntry_st (k : SlotId) (e : AllocEntry) (a : Filling) : (fillEntry k a e).state.st = a.state.st := by
  unfold fillEntry; (repeat' split) <;> simp
@[simp] theorem fillEntry_activation (k : SlotId) (e : AllocEntry) (a : Filling) : (fillEntry k a e).state.activation = a.state.activation := by
  unfold fillEntry; (repeat' split) <;> simp
@[simp] theorem fillEntry_hou (k : SlotId) (e : AllocEntry) (a : Filling) : (fillEntry k a e).state.hou = a.state.hou := by
  unfold fillEntry; (repeat' split) <;> simp
@[simp] theorem fillEntry_pending (k : SlotId) (e : AllocEntry) (a : Filling) : (fillEntry k a e).state.pending = a.state.pending := by
  unfold fillEntry; (repeat' split) <;> simp
@[simp] theorem fillEntry_choices (k : SlotId) (e : AllocEntry) (a : Filling) : (fillEntry k a e).state.choices = a.state.choices := by
  unfold fillEntry; (repeat' split) <;> simp

@[simp] theorem numberSet_wpu (k : SlotId) (l : List AllocEntry) (s : State) : (numberSet k l s).state.wpu = s.wpu := by
  unfold numberSet; split
  · refine (foldl_keeps (fun a : Filling => a.state.wpu) (fun a e => by simp) _ _).trans (by simp)
  · rfl
@[simp] theorem numberSet_mtu (k : SlotId) (l : List AllocEntry) (s : State) : (numberSet k l s).state.mtu = s.mtu := by
  unfold numberSet; split
  · refine (foldl_keeps (fun a : Filling => a.state.mtu) (fun a e => by simp) _ _).trans (by simp)
  · rfl
@[simp] theorem numberSet_st (k : SlotId) (l : List AllocEntry) (s : State) : (numberSet k l s).state.st = s.st := by
  unfold numberSet; split
  · refine (foldl_keeps (fun a : Filling => a.state.st) (fun a e => by simp) _ _).trans (by simp)
  · rfl
@[simp] theorem numberSet_activation (k : SlotId) (l : List AllocEntry) (s : State) : (numberSet k l s).state.activation = s.activation := by
  unfold numberSet; split
  · refine (foldl_keeps (fun a : Filling => a.state.activation) (fun a e => by simp) _ _).trans (by simp)
  · rfl
@[simp] theorem numberSet_hou (k : SlotId) (l : List AllocEntry) (s : State) : (numberSet k l s).state.hou = s.hou := by
  unfold numberSet; split
  · refine (foldl_keeps (fun a : Filling => a.state.hou) (fun a e => by simp) _ _).trans (by simp)
  · rfl
@[simp] theorem numberSet_pending (k : SlotId) (l : List AllocEntry) (s : State) : (numberSet k l s).state.pending = s.pending := by
  unfold numberSet; split
  · refine (foldl_keeps (fun a : Filling => a.state.pending) (fun a e => by simp) _ _).trans (by simp)
  · rfl
@[simp] theorem numberSet_choices (k : SlotId) (l : List AllocEntry) (s : State) : (numberSet k l s).state.choices = s.choices := by
  unfold numberSet; split
  · refine (foldl_keeps (fun a : Filling => a.state.choices) (fun a e => by simp) _ _).trans (by simp)
  · rfl

@[simp] theorem allocate_wpu (s : State) : (allocate s).wpu = s.wpu := by
  unfold allocate; (repeat' split) <;> simp
@[simp] theorem allocate_mtu (s : State) : (allocate s).mtu = s.mtu := by
  unfold allocate; (repeat' split) <;> simp
@[simp] theorem allocate_activation (s : State) : (allocate s).activation = s.activation := by
  unfold allocate; (repeat' split) <;> simp
@[simp] theorem allocate_hou (s : State) : (allocate s).hou = s.hou := by
  unfold allocate; (repeat' split) <;> simp
@[simp] theorem allocate_pending (s : State) : (allocate s).pending = s.pending := by
  unfold allocate; (repeat' split) <;> simp
@[simp] theorem allocate_choices (s : State) : (allocate s).choices = s.choices := by
  unfold allocate; (repeat' split) <;> simp

@[simp] theorem demote_wpu (k : SlotId) (s : State) : (demote k s).wpu = s.wpu := by
  unfold demote; (repeat' split) <;> simp
@[simp] theorem demote_mtu (k : SlotId) (s : State) : (demote k s).mtu = s.mtu := by
  unfold demote; (repeat' split) <;> simp
@[simp] theorem demote_st (k : SlotId) (s : State) : (demote k s).st = s.st := by
  unfold demote; (repeat' split) <;> simp
@[simp] theorem demote_background (k : SlotId) (s : State) : (demote k s).background = s.background := by
  unfold demote; (repeat' split) <;> simp
@[simp] theorem demote_activation (k : SlotId) (s : State) : (demote k s).activation = s.activation := by
  unfold demote; (repeat' split) <;> simp
@[simp] theorem demote_hou (k : SlotId) (s : State) : (demote k s).hou = s.hou := by
  unfold demote; (repeat' split) <;> simp
@[simp] theorem demote_pending (k : SlotId) (s : State) : (demote k s).pending = s.pending := by
  unfold demote; (repeat' split) <;> simp
@[simp] theorem demote_choices (k : SlotId) (s : State) : (demote k s).choices = s.choices := by
  unfold demote; (repeat' split) <;> simp

@[simp] theorem notifyDemoted_wpu (k : SlotId) (s : State) : (notifyDemoted k s).wpu = s.wpu := by
  simp [notifyDemoted]
@[simp] theorem notifyDemoted_mtu (k : SlotId) (s : State) : (notifyDemoted k s).mtu = s.mtu := by
  simp [notifyDemoted]
@[simp] theorem notifyDemoted_st (k : SlotId) (s : State) : (notifyDemoted k s).st = s.st := by
  simp [notifyDemoted]
@[simp] theorem notifyDemoted_background (k : SlotId) (s : State) : (notifyDemoted k s).background = s.background := by
  simp [notifyDemoted]
@[simp] theorem notifyDemoted_slots (k : SlotId) (s : State) : (notifyDemoted k s).slots = s.slots := by
  simp [notifyDemoted]
@[simp] theorem notifyDemoted_activation (k : SlotId) (s : State) : (notifyDemoted k s).activation = s.activation := by
  simp [notifyDemoted]
@[simp] theorem notifyDemoted_hou (k : SlotId) (s : State) : (notifyDemoted k s).hou = s.hou := by
  simp [notifyDemoted]
@[simp] theorem notifyDemoted_ij (k : SlotId) (s : State) : (notifyDemoted k s).ij = s.ij := by
  simp [notifyDemoted]
@[simp] theorem notifyDemoted_lm (k : SlotId) (s : State) : (notifyDemoted k s).lm = s.lm := by
  simp [notifyDemoted]
@[simp] theorem notifyDemoted_pending (k : SlotId) (s : State) : (notifyDemoted k s).pending = s.pending := by
  simp [notifyDemoted]
@[simp] theorem notifyDemoted_choices (k : SlotId) (s : State) : (notifyDemoted k s).choices = s.choices := by
  simp [notifyDemoted]

@[simp] theorem changeover_wpu (s : State) : (changeover s).wpu = s.wpu := by
  unfold changeover; (repeat' split) <;> simp only [] <;> (repeat' split) <;> simp
@[simp] theorem changeover_mtu (s : State) : (changeover s).mtu = s.mtu := by
  unfold changeover; (repeat' split) <;> simp only [] <;> (repeat' split) <;> simp
@[simp] theorem changeover_st (s : State) : (changeover s).st = s.st := by
  unfold changeover; (repeat' split) <;> simp only [] <;> (repeat' split) <;> simp
@[simp] theorem changeover_background (s : State) : (changeover s).background = s.background := by
  unfold changeover; (repeat' split) <;> simp only [] <;> (repeat' split) <;> simp
@[simp] theorem changeover_hou (s : State) : (changeover s).hou = s.hou := by
  unfold changeover; (repeat' split) <;> simp only [] <;> (repeat' split) <;> simp
@[simp] theorem changeover_pending (s : State) : (changeover s).pending = s.pending := by
  unfold changeover; (repeat' split) <;> simp only [] <;> (repeat' split) <;> simp
@[simp] theorem changeover_choices (s : State) : (changeover s).choices = s.choices := by
  unfold changeover; (repeat' split) <;> simp only [] <;> (repeat' split) <;> simp

@[simp] theorem suspension_wpu (s : State) : (suspension s).wpu = s.wpu := by
  unfold suspension; (repeat' split) <;> simp
@[simp] theorem suspension_mtu (s : State) : (suspension s).mtu = s.mtu := by
  unfold suspension; (repeat' split) <;> simp
@[simp] theorem suspension_st (s : State) : (suspension s).st = s.st := by
  unfold suspension; (repeat' split) <;> simp
@[simp] theorem suspension_background (s : State) : (suspension s).background = s.background := by
  unfold suspension; (repeat' split) <;> simp
@[simp] theorem suspension_activation (s : State) : (suspension s).activation = s.activation := by
  unfold suspension; (repeat' split) <;> simp
@[simp] theorem suspension_hou (s : State) : (suspension s).hou = s.hou := by
  unfold suspension; (repeat' split) <;> simp
@[simp] theorem suspension_ij (s : State) : (suspension s).ij = s.ij := by
  unfold suspension; (repeat' split) <;> simp
@[simp] theorem suspension_lm (s : State) : (suspension s).lm = s.lm := by
  unfold suspension; (repeat' split) <;> simp
@[simp] theorem suspension_pending (s : State) : (suspension s).pending = s.pending := by
  unfold suspension; (repeat' split) <;> simp
@[simp] theorem suspension_choices (s : State) : (suspension s).choices = s.choices := by
  unfold suspension; (repeat' split) <;> simp

end Sys2Proof.Machine
end

