-- ==== Sys2Proof/Laws/Requests.lean ====
section
/-! SUPPORT. What the shared operations of requests can do: taking, judging, answering, and the shared checks. -/

namespace Sys2Proof.Machine

/-! ### Updates of tables -/

theorem updateAt_get_ne {α : Type} {n : Nat} (v : Vector α n) (i j : Fin n) (f : α → α) (h : i ≠ j) :
    (updateAt v i f)[(j : Nat)] = v[(j : Nat)] :=
  updateAt_getElem_other v i f j j.isLt fun e => h (Fin.ext e)

@[simp] theorem takenOn_role (p q : PortId) (s : State) :
    (takenOn p s).ports[(q : Nat)].role = s.ports[(q : Nat)].role := by
  by_cases h : p = q
  · subst h; simp [takenOn]
  · simp [takenOn, updateAt_get_ne _ _ _ _ h]

@[simp] theorem takenOn_out (p q : PortId) (s : State) :
    (takenOn p s).ports[(q : Nat)].out = s.ports[(q : Nat)].out := by
  by_cases h : p = q
  · subst h; simp [takenOn]
  · simp [takenOn, updateAt_get_ne _ _ _ _ h]

/-! ### A request is taken and answered (R190, R193) -/

theorem takeFrame_front {p : PortId} {c : Instr} {s : State} (h : AtFront p c s) :
    takeFrame p (.sound (encodeRequest c)) s = .taken (takenOn p s) := by
  unfold takeFrame; rw [h.2]; simp [takenOn]

theorem onFrame_front {p : PortId} {c : Instr} {s : State} (h : AtFront p c s) (f : State → State) :
    onFrame p (encodeRequest c) f s = f (takenOn p s) := by
  simp [onFrame, h.1, takeFrame_front h]

/-- Everything that a command that stands for a frame can come to: it arrives garbled, it waits or is lost, or it is
taken and answered. -/
theorem onFrame_cases (p : PortId) (body : List Byte) (f : State → State) (s : State) :
    (fitsFrame body = false ∧ onFrame p body f s = modifyPort p (Port.receive .garbled) s) ∨
    fitsFrame body = true ∧
      ((∃ t, takeFrame p (.sound body) s = .waits t ∧ onFrame p body f s = t) ∨
       ∃ u, takeFrame p (.sound body) s = .taken u ∧ onFrame p body f s = f u) := by
  unfold onFrame
  cases hb : fitsFrame body with
  | false => exact .inl ⟨rfl, rfl⟩
  | true =>
    refine .inr ⟨rfl, ?_⟩
    cases takeFrame p (.sound body) s with
    | waits t => exact .inl ⟨t, rfl, rfl⟩
    | taken u => exact .inr ⟨u, rfl, rfl⟩

theorem request_front {p : PortId} {c : Instr} {s : State} (h : AtFront p c s) (act : State → Reply) :
    request p c act s = .next (serve p ((requestCode c).getD 0) act (takenOn p s)) := by
  simp [request, onFrame_front h]

theorem admitted_code {p : PortId} {c : Instr} {s : State} (h : Admitted p c s) :
    s.ports[p].role.admits ((requestCode c).getD 0) = true := by
  unfold Admitted at h
  cases e : requestCode c with
  | none => simp [e] at h
  | some k => simpa [e] using h

theorem request_accept {p : PortId} {c : Instr} {s : State} (hf : AtFront p c s) (ha : Admitted p c s)
    {act : State → Reply} {t : State} {r : List Byte} (h : act (takenOn p s) = .accept t r) :
    request p c act s =
      .next (answerAt p s.ports[p].out.length ((requestCode c).getD 0) .ok r t) := by
  have := admitted_code ha
  simp only [Fin.getElem_fin] at this
  simp [request_front hf, serve, this, h]

theorem request_refuse {p : PortId} {c : Instr} {s : State} (hf : AtFront p c s) (ha : Admitted p c s)
    {act : State → Reply} {st : Status} {r : List Byte} (h : act (takenOn p s) = .refuse st r) :
    request p c act s =
      .next (answerAt p s.ports[p].out.length ((requestCode c).getD 0) st r (takenOn p s)) := by
  have := admitted_code ha
  simp only [Fin.getElem_fin] at this
  simp [request_front hf, serve, this, h]

theorem request_denied {p : PortId} {c : Instr} {s : State} (hf : AtFront p c s)
    (hd : s.ports[p].role.admits ((requestCode c).getD 0) = false) (act : State → Reply) :
    request p c act s =
      .next (answerAt p s.ports[p].out.length ((requestCode c).getD 0) .roleDenied [] (takenOn p s)) := by
  simp only [Fin.getElem_fin] at hd
  simp [request_front hf, serve, hd]

/-- Everything a request can come to: it arrives garbled, its frame waits or is lost, or it is denied, refused or
accepted. -/
theorem request_cases (p : PortId) (c : Instr) (act : State → Reply) (s : State) :
    (fitsFrame (encodeRequest c) = false ∧ request p c act s = .next (modifyPort p (Port.receive .garbled) s)) ∨
    (∃ t, takeFrame p (.sound (encodeRequest c)) s = .waits t ∧ request p c act s = .next t) ∨
    ∃ u, takeFrame p (.sound (encodeRequest c)) s = .taken u ∧
      ((∃ st r, request p c act s = .next (answerAt p u.ports[p].out.length ((requestCode c).getD 0) st r u)) ∨
       ∃ t r, act u = .accept t r ∧
        request p c act s = .next (answerAt p u.ports[p].out.length ((requestCode c).getD 0) .ok r t)) := by
  unfold request
  rcases onFrame_cases p (encodeRequest c) (serve p ((requestCode c).getD 0) act) s with
    ⟨hb, he⟩ | ⟨_, ⟨t, ht, he⟩ | ⟨u, hu, he⟩⟩
  · exact .inl ⟨hb, by rw [he]⟩
  · exact .inr (.inl ⟨t, ht, by rw [he]⟩)
  · refine .inr (.inr ⟨u, hu, ?_⟩)
    rw [he]
    simp only [serve]
    split
    · cases h : act u with
      | accept t r => exact .inr ⟨t, r, rfl, rfl⟩
      | refuse st r => exact .inl ⟨st, r, rfl⟩
    · exact .inl ⟨.roleDenied, [], rfl⟩

/-! ### The shared checks -/

@[simp] theorem require_true (st : Status) (k : Reply) : require true st k = k := rfl
@[simp] theorem require_false (st : Status) (k : Reply) : require false st k = .refuse st [] := rfl

@[simp] theorem named_fin {n : Nat} (i : Fin n) (k : Fin n → Reply) : named n i k = k i := by simp [named]

@[simp] theorem namedLane_fin (l : LaneId) (k : LaneId → Reply) : namedLane (l + 1) k = k l := by
  have : (l : Nat) + 1 ≤ 4 := l.isLt
  simp [namedLane, this]

theorem inState_some {s : State} {k : SlotId} {c : Context} (h : s.slots[(k : Nat)] = some c) (a : JobState → Bool)
    (f : Context → Reply) : inState s k a f = if a c.state then f c else .refuse .wrongState [] := by
  simp [inState, h]

theorem defined_some {c : Context} {q : SeqId} {x : Sequence} (h : c.sequences[(q : Nat)] = some x) (f : Sequence → Reply) :
    defined c q f = f x := by
  simp [defined, h]

/-! ### Field lines -/

@[simp] theorem Line.write_function (b : Bool) (l : Line) : (l.write b).function = l.function := rfl
@[simp] theorem Line.write_pullUp (b : Bool) (l : Line) : (l.write b).pullUp = l.pullUp := rfl
@[simp] theorem Line.write_latch (b : Bool) (l : Line) : (l.write b).latch = b := rfl
@[simp] theorem Line.write_held (l : Line) : l.write l.latch = l := by simp [Line.write]

@[simp] theorem assignRecord_function (s : State) (i : LineId) (f : LineFunction) (u : Bool) :
    (assignRecord s i f u).function = f := rfl
@[simp] theorem assignRecord_pullUp (s : State) (i : LineId) (f : LineFunction) (u : Bool) :
    (assignRecord s i f u).pullUp = u := rfl
@[simp] theorem assignRecord_latch (s : State) (i : LineId) (f : LineFunction) (u : Bool) :
    (assignRecord s i f u).latch = s.lm.lines[i].latch := rfl

/-- The level of an output after ASSIGN_LINE: kept where the drive is as it was, else the new drive. -/
theorem assignedLevel_output {s : State} {old new : Line} {v : Bool} (h : driveOf s new = some v) (i : LineId) :
    assignedLevel s i old new = if driveOf s old = some v then old.level else v := by
  simp [assignedLevel, h]

end Sys2Proof.Machine
end

