-- ==== Sys2Proof/Laws/Boundary.lean ====
section
/-! SUPPORT. What a boundary can do beside the work of its blocks: the orders it may choose, the requests it takes between
retirement and allocation, the hand-over; and the fields it leaves as they were. -/

namespace Sys2Proof.Machine

/-! ### permute: every code names an order, and every order has a code -/

theorem take_one_drop {α : Type} {l : List α} {i : Nat} (h : i < l.length) : (l.drop i).take 1 = [l[i]] := by
  rw [List.drop_eq_getElem_cons h, List.take_succ_cons, List.take_zero]

theorem permuteSteps_perm {α : Type} (n code : Nat) (l : List α) (h : l.length = n) :
    (permuteSteps n code l).Perm l := by
  induction n generalizing code l with
  | zero => simp [permuteSteps, List.length_eq_zero_iff.mp h]
  | succ n ih =>
    have hi : code % l.length < l.length := Nat.mod_lt _ (by omega)
    rw [permuteSteps, take_one_drop hi]
    refine ((ih (code / l.length) _ ?_).cons _).trans (List.getElem_cons_eraseIdx_perm hi)
    rw [List.length_eraseIdx_of_lt hi]; omega

/-- An order named by a code is one of the list's items, each as often as it stands there. -/
theorem permute_perm {α : Type} (code : Nat) (l : List α) : (permute code l).Perm l := permuteSteps_perm _ code l rfl

/-- Every order of a list is one that a code names. -/
theorem permute_onto {α : Type} {l o : List α} (h : o.Perm l) : ∃ code, permute code l = o := by
  suffices H : ∀ (n : Nat) (l o : List α), l.length = n → o.Perm l → ∃ code, permuteSteps n code l = o from H _ l o rfl h
  intro n
  induction n with
  | zero =>
    intro l o hl ho
    exact ⟨0, by simp [permuteSteps, List.length_eq_zero_iff.mp (ho.length_eq.trans hl)]⟩
  | succ n ih =>
    intro l o hl ho
    cases o with
    | nil => have := ho.length_eq; simp at this; omega
    | cons x rest =>
      obtain ⟨i, hi, rfl⟩ := List.getElem_of_mem (ho.subset (List.mem_cons_self ..))
      obtain ⟨code, hc⟩ := ih (l.eraseIdx i) rest (by rw [List.length_eraseIdx_of_lt hi]; omega)
        (List.Perm.cons_inv (ho.trans (List.getElem_cons_eraseIdx_perm hi).symm))
      refine ⟨i + l.length * code, ?_⟩
      have hm : (i + l.length * code) % l.length = i := by rw [Nat.add_mul_mod_self_left, Nat.mod_eq_of_lt hi]
      have hd : (i + l.length * code) / l.length = code := by
        rw [Nat.add_mul_div_left _ _ (by omega), Nat.div_eq_of_lt hi, Nat.zero_add]
      rw [permuteSteps, hm, hd, hc, take_one_drop hi]; rfl

/-! ### Requests between retirement and allocation -/

/-- Everything that a request taken within a boundary can do when it is accepted: nothing, a delivery of journal records, or
the withdrawal of a queued number. -/
theorem replyWithin_accept {c : Instr} {act : State → Reply} {s t : State} {r : List Byte}
    (hc : replyWithin c = some act) (h : act s = .accept t r) :
    t = s ∨ (∃ start n, t = { s with ij := s.ij.markRead start n }) ∨ ∃ k x q e, t = withdrawEntry k x q e s := by
  unfold replyWithin at hc
  split at hc <;> simp only [Option.some.injEq, reduceCtorEq] at hc <;> subst hc
  all_goals
    simp only [replyReadSequence, replyReadQueue, replyReadContext, replyReadLines, replyReadBackground, replyReadJournal, replyWithdrawReprint, named, require,
      inState, defined, journalRoom, contextPart] at h
    (repeat' split at h) <;> simp only [Reply.accept.injEq, reduceCtorEq] at h
    all_goals first
      | exact .inl h.1.symm
      | exact .inr (.inl ⟨_, _, h.1.symm⟩)
      | exact .inr (.inr ⟨_, _, _, _, h.1.symm⟩)

/-- Everything that can come of a port whose turn it is: its frame waits on, or it is taken and answered, with the effect of
its own command. -/
theorem takeWithin_cases (s : State) (p : PortId) :
    takeWithin s p = s ∨
    ∃ body c act, nextFrame s.ports[p].buffer = some (.sound body) ∧ parseRequest p body = some c ∧
      replyWithin c = some act ∧ takeWithin s p = onFrame p body (serve p ((requestCode c).getD 0) act) s := by
  unfold takeWithin
  split
  · rename_i body hb
    split
    · exact .inl rfl
    · rename_i c hp
      split
      · exact .inl rfl
      · rename_i act ha
        exact .inr ⟨body, c, act, hb, hp, ha, rfl⟩
  · exact .inl rfl
  · exact .inl rfl

/-- What ports, journal delivery and withdrawal leave, a request taken within a boundary leaves. -/
theorem takeWithin_keeps {β : Type} (f : State → β) (hp : ∀ p g s, f (modifyPort p g s) = f s)
    (hj : ∀ (s : State) (start n : Nat), f { s with ij := s.ij.markRead start n } = f s)
    (hw : ∀ k x q e s, f (withdrawEntry k x q e s) = f s) (s : State) (p : PortId) : f (takeWithin s p) = f s := by
  have hf : ∀ (p : PortId) (g : RxFrame) (s : State), (∀ t, takeFrame p g s = .waits t → f t = f s) ∧
      ∀ t, takeFrame p g s = .taken t → f t = f s := by
    intro p g s
    unfold takeFrame
    split
    · split <;> simp [hp]
    · split <;> simp [hp]
  rcases takeWithin_cases s p with h | ⟨body, c, act, -, -, ha, h⟩
  · rw [h]
  · rw [h]
    rcases onFrame_cases p body (serve p ((requestCode c).getD 0) act) s with ⟨-, e⟩ | ⟨-, ⟨t, ht, e⟩ | ⟨u, hu, e⟩⟩
    · rw [e, hp]
    · rw [e, (hf p _ s).1 t ht]
    · rw [e, ← (hf p _ s).2 u hu]
      simp only [serve, answerAt]
      split
      · cases hr : act u with
        | refuse st r => simp [hp]
        | accept t r =>
          simp only [hp]
          rcases replyWithin_accept ha hr with rfl | ⟨start, n, rfl⟩ | ⟨k, x, q, e, rfl⟩
          · rfl
          · exact hj ..
          · exact hw ..
      · simp [hp]

@[simp] theorem takeWithin_wpu (s : State) (p : PortId) : (takeWithin s p).wpu = s.wpu :=
  takeWithin_keeps (·.wpu) (by simp) (by simp) (by simp [withdrawEntry]) s p
@[simp] theorem takeWithin_mtu (s : State) (p : PortId) : (takeWithin s p).mtu = s.mtu :=
  takeWithin_keeps (·.mtu) (by simp) (by simp) (by simp [withdrawEntry]) s p
@[simp] theorem takeWithin_st (s : State) (p : PortId) : (takeWithin s p).st = s.st :=
  takeWithin_keeps (·.st) (by simp) (by simp) (by simp [withdrawEntry]) s p
@[simp] theorem takeWithin_hou (s : State) (p : PortId) : (takeWithin s p).hou = s.hou :=
  takeWithin_keeps (·.hou) (by simp) (by simp) (by simp [withdrawEntry]) s p
@[simp] theorem takeWithin_background (s : State) (p : PortId) : (takeWithin s p).background = s.background :=
  takeWithin_keeps (·.background) (by simp) (by simp) (by simp [withdrawEntry]) s p
@[simp] theorem takeWithin_activation (s : State) (p : PortId) : (takeWithin s p).activation = s.activation :=
  takeWithin_keeps (·.activation) (by simp) (by simp) (by simp [withdrawEntry]) s p
@[simp] theorem takeWithin_pending (s : State) (p : PortId) : (takeWithin s p).pending = s.pending :=
  takeWithin_keeps (·.pending) (by simp) (by simp) (by simp [withdrawEntry]) s p
@[simp] theorem takeWithin_choices (s : State) (p : PortId) : (takeWithin s p).choices = s.choices :=
  takeWithin_keeps (·.choices) (by simp) (by simp) (by simp [withdrawEntry]) s p

/-- A read or a withdrawal that stands at the front of its port is taken within a boundary with the effect that its own
command has. -/
theorem takeWithin_front {p : PortId} {c : Instr} {s : State} {act : State → Reply} (h : AtFront p c s)
    (hp : parseRequest p (encodeRequest c) = some c) (ha : replyWithin c = some act) :
    request p c act s = .next (takeWithin s p) := by
  have hb := h.2
  unfold takeWithin
  simp only [hb, hp, ha, request]

/-! ### trackBoundary: the Set Tracker at a boundary -/

@[simp] theorem trackBoundary_wpu (o : BoundaryOrder) (s : State) : (trackBoundary o s).wpu = s.wpu := by
  have hr : ∀ u : State, (o.requests.foldl takeWithin u).wpu = u.wpu := foldl_keeps _ (by simp) _
  unfold trackBoundary; simp only []; split <;> simp [hr]
@[simp] theorem trackBoundary_mtu (o : BoundaryOrder) (s : State) : (trackBoundary o s).mtu = s.mtu := by
  have hr : ∀ u : State, (o.requests.foldl takeWithin u).mtu = u.mtu := foldl_keeps _ (by simp) _
  unfold trackBoundary; simp only []; split <;> simp [hr]
@[simp] theorem trackBoundary_hou (o : BoundaryOrder) (s : State) : (trackBoundary o s).hou = s.hou := by
  have hr : ∀ u : State, (o.requests.foldl takeWithin u).hou = u.hou := foldl_keeps _ (by simp) _
  unfold trackBoundary; simp only []; split <;> simp [hr]
@[simp] theorem trackBoundary_pending (o : BoundaryOrder) (s : State) : (trackBoundary o s).pending = s.pending := by
  have hr : ∀ u : State, (o.requests.foldl takeWithin u).pending = u.pending := foldl_keeps _ (by simp) _
  unfold trackBoundary; simp only []; split <;> simp [hr]
@[simp] theorem trackBoundary_choices (o : BoundaryOrder) (s : State) : (trackBoundary o s).choices = s.choices := by
  have hr : ∀ u : State, (o.requests.foldl takeWithin u).choices = u.choices := foldl_keeps _ (by simp) _
  unfold trackBoundary; simp only []; split <;> simp [hr]

/-! ### takeHeads and handOver: each head has its turn, and the head link goes on -/

@[simp] theorem sendOrder_wpu (s : State) : (sendOrder s).wpu = s.wpu := by unfold sendOrder; split <;> rfl
@[simp] theorem sendOrder_mtu (s : State) : (sendOrder s).mtu = s.mtu := by unfold sendOrder; split <;> rfl
@[simp] theorem sendOrder_background (s : State) : (sendOrder s).background = s.background := by unfold sendOrder; split <;> rfl
@[simp] theorem sendOrder_slots (s : State) : (sendOrder s).slots = s.slots := by unfold sendOrder; split <;> rfl
@[simp] theorem sendOrder_activation (s : State) : (sendOrder s).activation = s.activation := by unfold sendOrder; split <;> rfl
@[simp] theorem sendOrder_ij (s : State) : (sendOrder s).ij = s.ij := by unfold sendOrder; split <;> rfl
@[simp] theorem sendOrder_lm (s : State) : (sendOrder s).lm = s.lm := by unfold sendOrder; split <;> rfl
@[simp] theorem sendOrder_ports (s : State) : (sendOrder s).ports = s.ports := by unfold sendOrder; split <;> rfl
@[simp] theorem sendOrder_pending (s : State) : (sendOrder s).pending = s.pending := by unfold sendOrder; split <;> rfl
@[simp] theorem sendOrder_choices (s : State) : (sendOrder s).choices = s.choices := by unfold sendOrder; split <;> rfl

@[simp] theorem sendOlder_wpu (s : State) : (sendOlder s).wpu = s.wpu := by
  unfold sendOlder; (repeat' split) <;> simp
@[simp] theorem sendOlder_mtu (s : State) : (sendOlder s).mtu = s.mtu := by
  unfold sendOlder; (repeat' split) <;> simp
@[simp] theorem sendOlder_background (s : State) : (sendOlder s).background = s.background := by
  unfold sendOlder; (repeat' split) <;> simp
@[simp] theorem sendOlder_slots (s : State) : (sendOlder s).slots = s.slots := by
  unfold sendOlder; (repeat' split) <;> simp
@[simp] theorem sendOlder_activation (s : State) : (sendOlder s).activation = s.activation := by
  unfold sendOlder; (repeat' split) <;> simp
@[simp] theorem sendOlder_ij (s : State) : (sendOlder s).ij = s.ij := by
  unfold sendOlder; (repeat' split) <;> simp
@[simp] theorem sendOlder_lm (s : State) : (sendOlder s).lm = s.lm := by
  unfold sendOlder; (repeat' split) <;> simp
@[simp] theorem sendOlder_ports (s : State) : (sendOlder s).ports = s.ports := by
  unfold sendOlder; (repeat' split) <;> simp
@[simp] theorem sendOlder_pending (s : State) : (sendOlder s).pending = s.pending := by
  unfold sendOlder; (repeat' split) <;> simp
@[simp] theorem sendOlder_choices (s : State) : (sendOlder s).choices = s.choices := by
  unfold sendOlder; (repeat' split) <;> simp

@[simp] theorem endOrder_wpu (s : State) : (endOrder s).wpu = s.wpu := rfl
@[simp] theorem endOrder_mtu (s : State) : (endOrder s).mtu = s.mtu := rfl
@[simp] theorem endOrder_background (s : State) : (endOrder s).background = s.background := rfl
@[simp] theorem endOrder_slots (s : State) : (endOrder s).slots = s.slots := rfl
@[simp] theorem endOrder_activation (s : State) : (endOrder s).activation = s.activation := rfl
@[simp] theorem endOrder_ij (s : State) : (endOrder s).ij = s.ij := rfl
@[simp] theorem endOrder_lm (s : State) : (endOrder s).lm = s.lm := rfl
@[simp] theorem endOrder_ports (s : State) : (endOrder s).ports = s.ports := rfl
@[simp] theorem endOrder_pending (s : State) : (endOrder s).pending = s.pending := rfl
@[simp] theorem endOrder_choices (s : State) : (endOrder s).choices = s.choices := rfl

@[simp] theorem headStep_wpu (s : State) (x : HouStep) : (headStep s x).wpu = s.wpu := by
  unfold headStep; (repeat' split) <;> simp
@[simp] theorem headStep_mtu (s : State) (x : HouStep) : (headStep s x).mtu = s.mtu := by
  unfold headStep; (repeat' split) <;> simp
@[simp] theorem headStep_background (s : State) (x : HouStep) : (headStep s x).background = s.background := by
  unfold headStep; (repeat' split) <;> simp
@[simp] theorem headStep_slots (s : State) (x : HouStep) : (headStep s x).slots = s.slots := by
  unfold headStep; (repeat' split) <;> simp
@[simp] theorem headStep_activation (s : State) (x : HouStep) : (headStep s x).activation = s.activation := by
  unfold headStep; (repeat' split) <;> simp
@[simp] theorem headStep_ij (s : State) (x : HouStep) : (headStep s x).ij = s.ij := by
  unfold headStep; (repeat' split) <;> simp
@[simp] theorem headStep_lm (s : State) (x : HouStep) : (headStep s x).lm = s.lm := by
  unfold headStep; (repeat' split) <;> simp
@[simp] theorem headStep_ports (s : State) (x : HouStep) : (headStep s x).ports = s.ports := by
  unfold headStep; (repeat' split) <;> simp
@[simp] theorem headStep_pending (s : State) (x : HouStep) : (headStep s x).pending = s.pending := by
  unfold headStep; (repeat' split) <;> simp
@[simp] theorem headStep_choices (s : State) (x : HouStep) : (headStep s x).choices = s.choices := by
  unfold headStep; (repeat' split) <;> simp

@[simp] theorem handStep_wpu (s : State) (x : HouStep) : (handStep s x).wpu = s.wpu := by
  unfold handStep; (repeat' split) <;> simp
@[simp] theorem handStep_mtu (s : State) (x : HouStep) : (handStep s x).mtu = s.mtu := by
  unfold handStep; (repeat' split) <;> simp
@[simp] theorem handStep_background (s : State) (x : HouStep) : (handStep s x).background = s.background := by
  unfold handStep; (repeat' split) <;> simp
@[simp] theorem handStep_slots (s : State) (x : HouStep) : (handStep s x).slots = s.slots := by
  unfold handStep; (repeat' split) <;> simp
@[simp] theorem handStep_activation (s : State) (x : HouStep) : (handStep s x).activation = s.activation := by
  unfold handStep; (repeat' split) <;> simp
@[simp] theorem handStep_ij (s : State) (x : HouStep) : (handStep s x).ij = s.ij := by
  unfold handStep; (repeat' split) <;> simp
@[simp] theorem handStep_lm (s : State) (x : HouStep) : (handStep s x).lm = s.lm := by
  unfold handStep; (repeat' split) <;> simp
@[simp] theorem handStep_ports (s : State) (x : HouStep) : (handStep s x).ports = s.ports := by
  unfold handStep; (repeat' split) <;> simp
@[simp] theorem handStep_pending (s : State) (x : HouStep) : (handStep s x).pending = s.pending := by
  unfold handStep; (repeat' split) <;> simp
@[simp] theorem handStep_choices (s : State) (x : HouStep) : (handStep s x).choices = s.choices := by
  unfold handStep; (repeat' split) <;> simp

@[simp] theorem takeHeads_wpu (o : BoundaryOrder) (s : State) : (takeHeads o s).wpu = s.wpu :=
  foldl_keeps _ (by simp) _ s
@[simp] theorem takeHeads_mtu (o : BoundaryOrder) (s : State) : (takeHeads o s).mtu = s.mtu :=
  foldl_keeps _ (by simp) _ s
@[simp] theorem takeHeads_background (o : BoundaryOrder) (s : State) : (takeHeads o s).background = s.background :=
  foldl_keeps _ (by simp) _ s
@[simp] theorem takeHeads_slots (o : BoundaryOrder) (s : State) : (takeHeads o s).slots = s.slots :=
  foldl_keeps _ (by simp) _ s
@[simp] theorem takeHeads_activation (o : BoundaryOrder) (s : State) : (takeHeads o s).activation = s.activation :=
  foldl_keeps _ (by simp) _ s
@[simp] theorem takeHeads_ij (o : BoundaryOrder) (s : State) : (takeHeads o s).ij = s.ij :=
  foldl_keeps _ (by simp) _ s
@[simp] theorem takeHeads_lm (o : BoundaryOrder) (s : State) : (takeHeads o s).lm = s.lm :=
  foldl_keeps _ (by simp) _ s
@[simp] theorem takeHeads_ports (o : BoundaryOrder) (s : State) : (takeHeads o s).ports = s.ports :=
  foldl_keeps _ (by simp) _ s
@[simp] theorem takeHeads_pending (o : BoundaryOrder) (s : State) : (takeHeads o s).pending = s.pending :=
  foldl_keeps _ (by simp) _ s
@[simp] theorem takeHeads_choices (o : BoundaryOrder) (s : State) : (takeHeads o s).choices = s.choices :=
  foldl_keeps _ (by simp) _ s

@[simp] theorem handOver_wpu (o : BoundaryOrder) (s : State) : (handOver o s).wpu = s.wpu :=
  foldl_keeps _ (by simp) _ s
@[simp] theorem handOver_mtu (o : BoundaryOrder) (s : State) : (handOver o s).mtu = s.mtu :=
  foldl_keeps _ (by simp) _ s
@[simp] theorem handOver_background (o : BoundaryOrder) (s : State) : (handOver o s).background = s.background :=
  foldl_keeps _ (by simp) _ s
@[simp] theorem handOver_slots (o : BoundaryOrder) (s : State) : (handOver o s).slots = s.slots :=
  foldl_keeps _ (by simp) _ s
@[simp] theorem handOver_activation (o : BoundaryOrder) (s : State) : (handOver o s).activation = s.activation :=
  foldl_keeps _ (by simp) _ s
@[simp] theorem handOver_ij (o : BoundaryOrder) (s : State) : (handOver o s).ij = s.ij :=
  foldl_keeps _ (by simp) _ s
@[simp] theorem handOver_lm (o : BoundaryOrder) (s : State) : (handOver o s).lm = s.lm :=
  foldl_keeps _ (by simp) _ s
@[simp] theorem handOver_ports (o : BoundaryOrder) (s : State) : (handOver o s).ports = s.ports :=
  foldl_keeps _ (by simp) _ s
@[simp] theorem handOver_pending (o : BoundaryOrder) (s : State) : (handOver o s).pending = s.pending :=
  foldl_keeps _ (by simp) _ s
@[simp] theorem handOver_choices (o : BoundaryOrder) (s : State) : (handOver o s).choices = s.choices :=
  foldl_keeps _ (by simp) _ s

/-- The heads take a boundary in a run of their steps, each once, in some order. -/
theorem takeHeads_steps (o : BoundaryOrder) (s : State) :
    ∃ l : List HouStep, l.Perm (houSteps o.amongHeads) ∧ takeHeads o s = l.foldl headStep s :=
  ⟨_, permute_perm _ _, rfl⟩

/-- A hand-over is a run of its steps, each once, in some order. -/
theorem handOver_steps (o : BoundaryOrder) (s : State) :
    ∃ l : List HouStep, l.Perm (houSteps o.inHandOver) ∧ handOver o s = l.foldl handStep s :=
  ⟨_, permute_perm _ _, rfl⟩

/-! ### runPhase: a boundary leaves the WPU, the queue of commands and the counter of choices -/

@[simp] theorem runPhase_wpu (o : BoundaryOrder) (n : Option WebNotice) (p : Phase) (s : State) : (runPhase o n s p).wpu = s.wpu := by
  unfold runPhase; split
  · simp
  · simp
  · simp
  · simp
  · split <;> simp
@[simp] theorem runPhase_pending (o : BoundaryOrder) (n : Option WebNotice) (p : Phase) (s : State) : (runPhase o n s p).pending = s.pending := by
  unfold runPhase; split
  · simp
  · simp
  · simp
  · simp
  · split <;> simp
@[simp] theorem runPhase_choices (o : BoundaryOrder) (n : Option WebNotice) (p : Phase) (s : State) : (runPhase o n s p).choices = s.choices := by
  unfold runPhase; split
  · simp
  · simp
  · simp
  · simp
  · split <;> simp

@[simp] theorem boundaryWork_wpu (o : BoundaryOrder) (n : Option WebNotice) (s : State) : (boundaryWork o n s).wpu = s.wpu := by
  unfold boundaryWork; simp only [handOver_wpu]; exact foldl_keeps _ (fun s p => by simp) _ s
@[simp] theorem boundaryWork_pending (o : BoundaryOrder) (n : Option WebNotice) (s : State) : (boundaryWork o n s).pending = s.pending := by
  unfold boundaryWork; simp only [handOver_pending]; exact foldl_keeps _ (fun s p => by simp) _ s
@[simp] theorem boundaryWork_choices (o : BoundaryOrder) (n : Option WebNotice) (s : State) : (boundaryWork o n s).choices = s.choices := by
  unfold boundaryWork; simp only [handOver_choices]; exact foldl_keeps _ (fun s p => by simp) _ s

@[simp] theorem boundaryWith_wpu (o : BoundaryOrder) (k : Opening) (p : Nat) (n : Option WebNotice) (s : State) :
    (boundaryWith o k p n s).wpu = s.wpu.openCycle k p := by
  simp [boundaryWith]
@[simp] theorem boundaryWith_pending (o : BoundaryOrder) (k : Opening) (p : Nat) (n : Option WebNotice) (s : State) :
    (boundaryWith o k p n s).pending = s.pending := by
  simp [boundaryWith]
@[simp] theorem boundary_wpu (k : Opening) (p : Nat) (n : Option WebNotice) (s : State) :
    (boundary k p n s).wpu = s.wpu.openCycle k p := by
  simp [boundary]
@[simp] theorem boundary_pending (k : Opening) (p : Nat) (n : Option WebNotice) (s : State) :
    (boundary k p n s).pending = s.pending := by
  simp [boundary]

end Sys2Proof.Machine
end

