-- ==== Sys2Proof/Tests/Slice0.lean ====
section
/-! SUPPORT. Tests: what WellFormed refuses, the spec's worked examples, and for each statement with hypotheses a state and
operands that meet them. -/

namespace Sys2Proof.Tests

open Sys2Proof Sys2Proof.Machine

/-! ## Helpers -/

/-- The state with one request's frame waiting on a port. -/
def front (p : PortId) (c : Instr) (s : State) : State :=
  modifyPort p (fun q => { q with buffer := [{ frame := .sound (encodeRequest c), taken := false }] }) s

/-- A test of the next state. -/
def next (o : Host.Outcome State Fault Refusal) (f : State → Bool) : Bool :=
  match o with
  | .next t => f t
  | .fault _ | .refused _ => false

/-- A request taken on port A (SUPERVISOR): status byte and result of its response, and a test of the next state. -/
def asked (c : Instr) (s : State) (f : List Byte → State → Bool) : Bool :=
  next (exec c (front 0 c s)) fun t => f ((t.ports[(0 : Fin 4)].out.head?.map OutFrame.body).getD []) t

/-- The status byte of a response body. -/
def status (b : List Byte) : Byte := b.getD 1 0xFF

/-- The result bytes of a response body. -/
def result (b : List Byte) : List Byte := b.drop 7

/-- The frame stands at the front and its port admits it. -/
def Waits (p : PortId) (c : Instr) (s : State) : Prop := AtFront p c s ∧ Admitted p c s

/-- A sequence of three digits, 0 to 99, V = 0. -/
def seqA : Sequence := freshSequence 3 0 99 1 .halt .none

/-- Job 7 of one lane with sequence S0 and one FRESH entry. -/
def jobIn (j : JobState) : Context :=
  { openedContext 7 1 .reprint 3 with
    state := j, sequences := (tabulate fun _ => none).set 0 (some seqA), list := [⟨0, .fresh 0 true⟩] }

/-- Reset with a context in slot 0. -/
def holding (c : Context) : State := { State.reset with slots := State.reset.slots.set 0 (some c) }

/-- Reset with ENC_A on F0, ENC_B on F1 and INDEX on F2, both encoder levels low, and a WPU record. -/
def press (w : Wpu) : State :=
  { State.reset with
    wpu := { w with reference := some ⟨false, false⟩ },
    lm := { State.reset.lm with
      lines := ((State.reset.lm.lines.set 0 { Line.reset with function := .encA, level := false }).set 1
        { Line.reset with function := .encB, level := false }).set 2 { Line.reset with function := .index, level := false } } }

/-- The WPU of reset at a position. -/
def at_ (p : Nat) : Wpu := { State.reset.wpu with position := p }

/-- One order of a boundary's work: the blocks as listed, the heads from H0, retirement first, nothing taken or sent within. -/
def order0 : BoundaryOrder :=
  { blocks := 0, heads := 0, amongHeads := [], retirementFirst := true, requests := [], handOver := 0, inHandOver := [] }

/-! ## WellFormed refuses what no frame can carry -/

theorem test_wf_byte : (Instr.discard 0 256).wf = false := by decide
theorem test_wf_two_bytes : (Instr.setWeb 0 65536 0).wf = false := by decide
theorem test_wf_three_bytes : (Instr.openContext 0 0 16777216 1 0 1).wf = false := by decide
theorem test_wf_four_bytes : (Instr.releaseJournal 0 4294967296).wf = false := by decide
theorem test_wf_five_bytes : (Instr.withdrawReprint 0 0 0 1099511627776).wf = false := by decide
theorem test_wf_signed : (Instr.loadValue 0 0 0 549755813888).wf = false := by decide
theorem test_wf_step : (Instr.defineSequence 0 0 0 1 0 0 (-32769) 0 0).wf = false := by decide
theorem test_wf_page : (Instr.readSet 0 0 (some 256)).wf = false := by decide
theorem test_wf_part : (Instr.readContext 0 0 3 none).wf = false := by decide
theorem test_wf_item : (Instr.defineFormat 0 0 0 [.number 256 0]).wf = false := by decide
theorem test_wf_body : (Instr.portFrameReceived 0 (.sound [])).wf = false := by decide
theorem test_wf_count : (Instr.reportRead 0 1 (List.replicate 256 0x30) 0).wf = false := by
  set_option maxRecDepth 4000 in decide
theorem test_wf_placement : (Instr.placeHead 0 0 (some ⟨1, 256, 1⟩)).wf = false := by decide
theorem test_wf_assignment : (Instr.assignHead 0 0 0 (some ⟨256, 0⟩)).wf = false := by decide

/-- A body longer than the 128 bytes of a frame (R187), though each field fits its bytes. -/
theorem test_wf_long_read : (Instr.reportRead 0 1 (List.replicate 130 0x30) 0).wf = false := by
  set_option maxRecDepth 4000 in decide
theorem test_wf_long_marks : (Instr.defineMarks 0 0 1 0 (List.replicate 60 1) 0).wf = false := by
  set_option maxRecDepth 4000 in decide
theorem test_wf_long_format : (Instr.defineFormat 0 0 0 [.literal (List.replicate 130 0x41)]).wf = false := by
  set_option maxRecDepth 4000 in decide

/-! ## The wire (R187, R193, R197) -/

/-- SKIP_AHEAD has code 06h; slot, sequence, then the count in two bytes, high byte first. -/
theorem test_encode_skip : encodeRequest (.skipAhead 0 1 2 773) = [0x06, 1, 2, 3, 5] := by decide
/-- A step of -7 is FFF9h in two's complement. -/
theorem test_parse_define :
    parseRequest 2 [0x01, 0, 3, 3, 0, 0, 0, 1, 0xF4, 0, 0, 0, 0, 100, 0xFF, 0xF9, 1, 0] =
      some (.defineSequence 2 0 3 3 500 100 (-7) 1 0) := by decide
/-- A byte too many is no request. -/
theorem test_parse_long : parseRequest 0 [0x0A, 0] = none := by decide
/-- CRC-16 with polynomial 1021h from FFFFh over the bytes of "123456789" is 29B1h. -/
theorem test_crc :
    crc ([0x31, 0x32, 0x33] ++ [0x34, 0x35, 0x36] ++ [0x37, 0x38, 0x39]) = 0x29B1 := by
  set_option maxRecDepth 8000 in decide

/-! ## Draws and check characters (R11 to R19, the worked figures of chapter 1) -/

theorem test_check_w31 : checkOf .w31 7 4200517 = some 9 := by decide
theorem test_check_w31_next : checkOf .w31 7 4200518 = some 6 := by decide
theorem test_check_m11 : checkOf .m11 7 4200517 = some 7 := by decide
theorem test_check_m7 : checkOf .m7 7 4200517 = some 6 := by decide
theorem test_check_padded : checkM11 4 6 = 10 := by decide

/-- 6 is skipped, 7 is drawn. -/
theorem test_draw_m11_skip :
    { freshSequence 4 0 9999 1 .wrap .m11 with value := 6 }.draw [] = .yields 7 false := by decide
/-- The rising jump from 121 over [120, 131] lands on 133. -/
theorem test_draw_jump :
    { freshSequence 3 100 160 3 .halt .none with value := 121 }.draw [⟨0, 120, 131⟩] = .yields 133 false := by decide
/-- Falling below 100 wraps to 500. -/
theorem test_draw_wrap :
    { freshSequence 3 500 100 (-7) .wrap .none with value := 97 }.draw [⟨0, 480, 495⟩] = .yields 500 true := by decide
/-- Falling from 493 over [480, 495] lands on 479. -/
theorem test_draw_falling_jump :
    { freshSequence 3 500 100 (-7) .wrap .none with value := 493 }.draw [⟨0, 480, 495⟩] = .yields 479 false := by decide
/-- Under HALT the draw below the bounds fails. -/
theorem test_draw_halt :
    { freshSequence 3 500 100 (-7) .halt .none with value := 97 }.draw [⟨0, 480, 495⟩] = .fails := by decide
/-- Everything excluded: the wrap finds nothing either. -/
theorem test_draw_wrap_fails : (freshSequence 2 10 20 5 .wrap .none).draw [⟨0, 10, 20⟩] = .fails := by decide

/-! ## The web (R33 to R44, the worked sequence of chapter 2) -/

/-- 00 to 10 is forward: position 1, age to interval. -/
theorem test_edge_forward :
    next (exec (.encoderTransition true false) (press { at_ 0 with edgeAge := 80 })) (fun t =>
      t.wpu.position == 1 && t.wpu.interval == 80 && t.wpu.edgeAge == 0 && t.wpu.reversal == false) = true := by decide
/-- 00 to 01 is reverse: at position 0 the web is BACKED. -/
theorem test_edge_backed :
    next (exec (.encoderTransition false true) (press (at_ 0))) (fun t =>
      t.wpu.backed && t.wpu.deficit == 1 && t.wpu.direction == .reverse && t.wpu.reversal) = true := by decide
/-- Both lines at once: ENCODER_ERROR, nothing counted. -/
theorem test_edge_invalid :
    next (exec (.encoderTransition true true) (press (at_ 5))) (fun t =>
      t.wpu.position == 5 && t.wpu.reference == some ⟨true, true⟩) = true := by decide
/-- An index edge at 9998 of cycle 41 begins cycle 42 NORMAL at position 0. -/
theorem test_boundary_normal :
    (boundaryWith order0 .normal 0 none (press { at_ 9998 with cycle := 41 })).wpu.cycle = 42 := by
  set_option maxRecDepth 8000 in decide
/-- An index edge at 16 after a SYNTHETIC boundary sets the position back and is INDEX_LATE, 16. -/
theorem test_index_late :
    next (exec .indexEdge (press { at_ 16 with cycle := 43, indexPending := .afterSynthetic })) (fun t =>
      t.wpu.position == 0 && t.wpu.cycle == 43 && t.wpu.indexPending == .none) = true := by decide
/-- 9650 is 350 short of a repeat of 10000. -/
theorem test_slip : slipDeviation 10000 9650 = -350 := by decide
/-- The sixth row of R44's table: after a reversal the mark is COARSE. -/
theorem test_place_coarse :
    Wpu.place { at_ 500 with edgeAge := 37, interval := 100, reversal := true } = ⟨4000, true⟩ := by decide
theorem test_place_fraction : Wpu.place { at_ 500 with edgeAge := 37, interval := 100 } = ⟨4002, false⟩ := by decide
theorem test_place_clamped : Wpu.place { at_ 500 with edgeAge := 130, interval := 100 } = ⟨4007, false⟩ := by decide
theorem test_tick :
    next (exec .edgeAgeTick (press { at_ 0 with edgeAge := 7 })) (fun t => t.wpu.edgeAge == 8) = true := by
  simp [next, exec, execEdgeAgeTick, modifyWpu, press]

/-! ## Registration (R103, R104, the worked errors of chapter 5) -/

theorem test_fold_before : foldError 24000 190723 = -1277 := by decide
theorem test_fold_far : foldError 24000 190000 = -2000 := by decide
theorem test_judge_ok : (judgeChannel 24000 (some ⟨[1200], 800⟩) [⟨1223, false⟩] false).status = .ok := by decide
theorem test_judge_out :
    (judgeChannel 24000 (some ⟨[1200], 800⟩) [⟨191923, false⟩] false).status = .outOfTolerance := by decide
theorem test_judge_extra :
    (judgeChannel 24000 (some ⟨[1200], 800⟩) [⟨1200, false⟩, ⟨1300, false⟩] false).status = .extra := by decide

/-- The errors of a channel are an optional list, absent for NOT_ENABLED (R105, R197). -/
theorem test_channel_absent : (channelResultBytes ⟨.notEnabled, [], 2⟩).drop 1 = [0, 0, 2] := by decide
theorem test_channel_present :
    (channelResultBytes ⟨.ok, [⟨-2, true⟩], 1⟩).drop 1 = [1, 1, 0xFF, 0xFF, 0xFE, 1, 1, 1] := by decide

/-! ## Allocation, retirement and the journal (the worked life of set 100, chapter 3) -/

/-- S0 of that example. -/
def seqLife (v : Int) : Sequence := { freshSequence 7 1 9999999 1 .wrap .w31 with value := v }

/-- The job of that example: two lanes, E0 in lane 1 and E1 in lane 2, both FRESH on S0. -/
def jobLife (v : Int) : Context :=
  { openedContext 417 2 .reprint 3 with
    state := .active, sequences := (tabulate fun _ => none).set 0 (some (seqLife v)),
    list := [⟨0, .fresh 0 true⟩, ⟨1, .fresh 0 true⟩],
    inspection := ((tabulate fun _ => none).set 0 (some 0)).set 1 (some 1) }

/-- The press of that example in cycle 99 with the run gate OPEN. -/
def life : State :=
  { holding (jobLife 4200517) with
    wpu := { at_ 0 with cycle := 99 },
    st := { State.reset.st with merge := 8, inspect := 10, gateLag := 12, runOpen := true } }

/-- CBE 100 gives set 100 the numbers 4200517 / 9 and 4200518 / 6, awaiting inspection, with a reservation of 2. -/
theorem test_life_allocates :
    (boundaryWith order0 .normal 0 none life).st.ring.map (fun r =>
      (r.tag, r.reservation, r.entries.map EntryPart.state, r.lanes.map LanePart.inspection)) =
    [(100, 2,
      [.numbered ⟨4200517, some 9, .fresh, 0⟩, .numbered ⟨4200518, some 6, .fresh, 0⟩], [.awaiting, .awaiting])] := by
  set_option maxRecDepth 4000 in decide
/-- S0 then shows V = 4200519, drawn 2 and held 2. -/
theorem test_life_counts :
    (sequenceOf (boundaryWith order0 .normal 0 none life) 0 0).map (fun x => (x.value, x.drawn, x.held)) =
      some (4200519, 2, 2) := by
  set_option maxRecDepth 4000 in decide

/-- Set 100 of that example as CBE 112 finds it: lane 2 rejected for HEAD_FAILED. -/
def set100 : SetRecord :=
  { tag := 100, slot := 0,
    entries := [⟨0, some 0, .numbered ⟨4200517, some 9, .fresh, 0⟩⟩, ⟨1, some 0, .numbered ⟨4200518, some 6, .fresh, 0⟩⟩],
    reservation := 2, heads := tabulate fun _ => .unused,
    lanes := [⟨.readOk, 0, none⟩, ⟨.readOk, 1, some .headFailed⟩], registration := .ok }

/-- The same press in cycle 111, run gate CLOSED, with set 100 alone in the ring. -/
def life111 : State :=
  { life with
    wpu := { at_ 0 with cycle := 111 },
    st := { life.st with ring := [set100], runOpen := false },
    ij := { State.reset.ij with reserved := 2 },
    slots := State.reset.slots.set 0 (some { jobLife 4200541 with
      inFlight := 1, sequences := (tabulate fun _ => none).set 0 (some { seqLife 4200541 with drawn := 2, held := 2 }) }) }

/-- CBE 112 journals 4200517 as issued in lane 1 and spoils 4200518 in lane 2, requeued. -/
theorem test_life_retires :
    (boundaryWith order0 .normal 0 none life111).ij.records.map (fun r => (r.stamp, r.body)) =
      [(112, .issuedRun 0 1 4200517 4200517 1 1), (112, .spoiled 0 1 4200518 .requeued .headFailed 1)] := by
  set_option maxRecDepth 4000 in decide
/-- Lane 2's gate is asserted with tag 100 and the close position, lane 1's is not, and the reservation is used up. -/
theorem test_life_gates :
    (let t := boundaryWith order0 .normal 0 none life111
     (t.st.gates.toList.take 2, t.ij.reserved, t.st.ring.length)) =
      ([.released, .asserted 100 (some 1000)], 0, 0) := by
  set_option maxRecDepth 4000 in decide

/-- A READ_QUEUE taken between the retirement and the allocation of CBE 112 shows the number requeued and not yet taken (R137);
the allocation then takes it. -/
theorem test_read_between :
    (let t := boundaryWith { order0 with requests := [0] } .normal 0 none
        (front 0 (.readQueue 0 0 0 none) { life111 with st := { life111.st with runOpen := true } })
     (((t.ports[(0 : Fin 4)].out.head?.map OutFrame.body).getD []).drop 9 |>.take 7,
       (sequenceOf t 0 0).map Sequence.queue, t.st.ring.map SetRecord.tag)) =
    ([1, 0, 1] ++ be 4 (4200518 / 256), some [], [112]) := by
  set_option maxRecDepth 8000 in decide

/-! ## Imprint strings (R81, the worked strings of chapter 4) -/

/-- The context of those strings, with set 205 holding four entries. -/
def jobStrings : Context :=
  { jobLife 0 with
    sequences := ((tabulate fun _ => none).set 0 (some (seqLife 0))).set 1 (some (freshSequence 7 1 9999999 1 .wrap .none)),
    list := [⟨0, .fresh 0 true⟩, ⟨1, .fresh 0 true⟩, ⟨1, .repeated 1⟩, ⟨0, .fresh 1 true⟩] }

/-- Set 205. -/
def set205 : SetRecord :=
  { set100 with
    tag := 205,
    entries := set100.entries ++
      [⟨1, none, .numbered ⟨4200518, some 6, .repeated 1 .fresh, 0⟩⟩, ⟨0, some 1, .numbered ⟨417, none, .fresh, 0⟩⟩] }

/-- H7 prints "4200518 00417/3". -/
theorem test_string_h7 :
    imprint jobStrings set205 2 1 3 [.number .own .zero, .literal [0x20], .job, .literal [0x2F], .ply] =
      [0x34, 0x32, 0x30, 0x30, 0x35, 0x31, 0x38, 0x20, 0x30, 0x30, 0x34, 0x31, 0x37, 0x2F, 0x33] := by decide
/-- H9 prints "STUB    417". -/
theorem test_string_h9 :
    imprint jobStrings set205 3 0 1 [.literal [0x53, 0x54, 0x55, 0x42], .number .own .blank, .check .own] =
      [0x53, 0x54, 0x55, 0x42, 0x20, 0x20, 0x20, 0x20, 0x34, 0x31, 0x37] := by decide

/-! ## Requests, one small case each -/

/-- DEFINE_SEQUENCE in BUILDING is OK and V is F. -/
theorem test_define_sequence :
    asked (.defineSequence 0 0 2 7 5 900 3 1 2) (holding (jobIn .building)) (fun b t =>
      status b == 0 && (sequenceOf t 0 2).any fun x => x.value == 5 && x.step == 3 && x.policy == .wrap) = true := by
  decide
/-- Outside BUILDING it is WRONG_STATE. -/
theorem test_define_sequence_ready :
    asked (.defineSequence 0 0 2 7 5 900 3 1 2) (holding (jobIn .ready)) (fun b _ => status b == 2) = true := by decide
/-- LOAD_VALUE in READY journals the old and the new value. -/
theorem test_load_value :
    asked (.loadValue 0 0 0 99) (holding (jobIn .ready)) (fun b t =>
      status b == 0 && t.ij.records.map Record.body == [.valueLoaded 0 0 99]) = true := by decide
/-- A value outside lo..hi is BAD_VALUE. -/
theorem test_load_value_out :
    asked (.loadValue 0 0 0 100) (holding (jobIn .ready)) (fun b _ => status b == 3) = true := by decide
/-- ADD_EXCLUSION in ACTIVE is journaled. -/
theorem test_add_exclusion :
    asked (.addExclusion 0 0 0 0 99) (holding (jobIn .active)) (fun b t =>
      status b == 0 && t.ij.records.map Record.body == [.exclusionAdded 0 0 99]) = true := by decide
/-- A range that overlaps one of its sequence is BAD_VALUE. -/
theorem test_add_exclusion_overlap :
    asked (.addExclusion 0 0 0 20 30) (holding { jobIn .ready with exclusions := [⟨0, 10, 20⟩] })
      (fun b _ => status b == 3) = true := by decide
/-- REMOVE_EXCLUSION takes the range that begins at the value. -/
theorem test_remove_exclusion :
    asked (.removeExclusion 0 0 0 10) (holding { jobIn .building with exclusions := [⟨0, 10, 20⟩, ⟨0, 21, 30⟩] })
      (fun b t => status b == 0 && t.slots[(0 : Fin 4)].any fun c => c.exclusions == [⟨0, 21, 30⟩]) = true := by decide
/-- WITHDRAW_REPRINT takes its entry out of the middle of the queue and counts it voided. -/
theorem test_withdraw :
    asked (.withdrawReprint 0 0 0 6)
      (holding { jobIn .parked with sequences := (tabulate fun _ => none).set 0 (some { seqA with
        queue := [⟨5, 1, .defect, 9⟩, ⟨6, 1, .defect, 9⟩, ⟨7, 1, .defect, 9⟩], queued := 3, drawn := 3 }) })
      (fun b t => status b == 0 && (sequenceOf t 0 0).any fun x =>
        x.queue.map QueueEntry.value == [5, 7] && x.queued == 2 && x.voided == 1) = true := by decide
/-- A probe of three draws after its second. -/
def probe2 : Probe :=
  { slot := 0, sequence := 0, count := 3, copy := { seqA with value := 2 }, ranges := [], draws := 2, wraps := 0,
    stale := false, ended := none }

/-- A skip-ahead of five values at its start. -/
def skip5 : Skip :=
  { slot := 0, sequence := 0, count := 5, remaining := 5, voided := 0, next := 0, held := false, ended := none }

/-- Its third draw completes it with 2. -/
theorem test_probe_draw :
    next (exec .probeDraw { holding (jobIn .ready) with background := .probe probe2 }) (fun t =>
      t.background == .probe { probe2 with
        copy := { seqA with value := 3 }, draws := 3, ended := some (.complete 2) }) = true := by decide
/-- With no record free a skip-ahead's draw is held and commits nothing. -/
theorem test_skip_held :
    next (exec .skipDraw { holding (jobIn .parked) with
        ij := { State.reset.ij with reserved := 1024 },
        background := .skip skip5 })
      (fun t => (sequenceOf t 0 0).any fun x => x.value == 0 && x.voided == 0) = true := by decide
/-- CANCEL_BACKGROUND with no operation running is WRONG_STATE. -/
theorem test_cancel_none : asked (.cancelBackground 0) State.reset (fun b _ => status b == 2) = true := by decide
/-- SET_WEB holds the tolerance to a quarter of RL. -/
theorem test_set_web :
    asked (.setWeb 0 1000 300) State.reset (fun b t =>
      result b == [0x03, 0xE8, 0x00, 0xFA] && t.wpu.repeatLength == 1000 && t.wpu.tolerance == 250) = true := by decide
/-- SET_LAGS needs G of at least Q + 2. -/
theorem test_set_lags : asked (.setLags 0 8 10 11) State.reset (fun b _ => status b == 3) = true := by decide
/-- OPEN_RUN from MONITOR is ROLE_DENIED. -/
theorem test_open_run_denied :
    next (exec (.openRun 1) (front 1 (.openRun 1) State.reset)) (fun t =>
      !t.st.runOpen && (t.ports[(1 : Fin 4)].out.head?.map OutFrame.body).any fun b => b.take 2 == [0x8A, 0x01]) = true := by
  decide
/-- DEFINE_ENTRY beyond the list's length is BAD_VALUE. -/
theorem test_define_entry_gap :
    asked (.defineEntry 0 0 2 1 2 0 0) (holding (jobIn .building)) (fun b _ => status b == 3) = true := by decide
/-- TRIM_LIST answers the length as it then stands. -/
theorem test_trim : asked (.trimList 0 0 16) (holding (jobIn .building)) (fun b _ => result b == [1]) = true := by decide
/-- CLOSE_BUILD names the failing check and item: E0 in lane 2 of a one-lane job fails check 1. -/
theorem test_close_build_fails :
    asked (.closeBuild 0 0) (holding { jobIn .building with list := [⟨1, .fresh 0 true⟩] })
      (fun b _ => status b == 3 && result b == [1, 0]) = true := by decide
theorem test_close_build :
    asked (.closeBuild 0 0) (holding (jobIn .building)) (fun b t =>
      status b == 0 && slotState t 0 == some .ready) = true := by decide
/-- OPEN_CONTEXT with a job id that another slot holds is BAD_VALUE. -/
theorem test_open_duplicate : asked (.openContext 0 1 7 1 0 1) (holding (jobIn .ready)) (fun b _ => status b == 3) = true := by
  decide
/-- ACTIVATE without lags fails check 1 of the press. -/
theorem test_activate_no_lags :
    asked (.activate 0 0 none) (holding (jobIn .ready)) (fun b _ => status b == 3 && result b == [1, 255]) = true := by decide
/-- SUSPEND with nothing in flight parks at once. -/
theorem test_suspend : asked (.suspend 0 0) (holding (jobIn .active)) (fun b t =>
    result b == [5] && t.ij.records.map Record.body == [.jobSuspended]) = true := by decide
/-- END_JOB voids the queued number, then writes the final counters. -/
theorem test_end_job :
    asked (.endJob 0 0)
      (holding { jobIn .parked with sequences := (tabulate fun _ => none).set 0 (some { seqA with
        queue := [⟨5, 1, .defect, 9⟩], queued := 1, drawn := 1 }) })
      (fun b t => status b == 0 && t.slots[(0 : Fin 4)].isNone && (t.ij.records.map Record.body).take 1 ==
        [.voidedQueued 0 5 .ended .defect 1] && t.ij.records.length == 2) = true := by decide
/-- STOP_REQ on a line drives 1 while a cause is LATCHED (R185). -/
theorem test_assign_stop :
    asked (.assignLine 0 5 15 0) { State.reset with lm := { State.reset.lm with stops := 16 } } (fun b t =>
      result b == [15, 0, 0, 1] && t.lm.lines[(5 : Fin 24)].level) = true := by decide
/-- WRITE_LINES passes over a line that is not GEN_OUT. -/
theorem test_write_lines : asked (.writeLines 0 3 3)
    { State.reset with lm := { State.reset.lm with lines := State.reset.lm.lines.set 1 { Line.reset with function := .genOut, level := false } } }
    (fun b t => result b == [0, 0, 2] && t.lm.lines[(1 : Fin 24)].level && !t.lm.lines[(0 : Fin 24)].latch) = true := by decide
/-- A GEN_OUT line on F1 that drives 1 and is held at 0 from outside. -/
def heldOut : State :=
  { State.reset with lm := { State.reset.lm with
      lines := State.reset.lm.lines.set 1 { function := .genOut, pullUp := true, latch := true, level := false } } }

/-- A request that names the held function changes the pull-up alone (R179). -/
theorem test_assign_held :
    asked (.assignLine 0 1 1 0) heldOut (fun b t => result b == [1, 0, 1, 0] && !t.lm.lines[(1 : Fin 24)].level) = true := by
  decide
/-- A latch written as it was leaves the pin as the outside holds it. -/
theorem test_write_held :
    asked (.writeLines 0 2 2) heldOut (fun _ t => !t.lm.lines[(1 : Fin 24)].level) = true := by decide
/-- SET_STOP latches OPERATOR_STOP. -/
theorem test_set_stop : asked (.setStop 0) State.reset (fun b t => status b == 0 && t.lm.stops == 16) = true := by decide
/-- CLEAR_STOP of JOURNAL_HIGH below 128 free records is WRONG_STATE. -/
theorem test_clear_stop :
    asked (.clearStop 0 1)
      { State.reset with lm := { State.reset.lm with stops := 2 }, ij := { State.reset.ij with reserved := 897 } }
      (fun b t => status b == 2 && t.lm.stops == 2) = true := by decide
/-- SET_ROLE gives port B DRIVE and answers the four roles. -/
theorem test_set_role : asked (.setRole 0 1 1) State.reset (fun b _ => result b == [0, 1, 3, 3]) = true := by decide
theorem test_set_role_self : asked (.setRole 0 0 1) State.reset (fun b _ => status b == 3) = true := by decide
/-- SET_NOTICES outside six bits is BAD_VALUE. -/
theorem test_set_notices : asked (.setNotices 0 64) State.reset (fun b _ => status b == 3) = true := by decide
/-- A registration read on a lane the set does not have is NO_SET. -/
theorem test_report_no_set :
    next (exec (.reportDefect 1 1 1) (front 1 (.reportDefect 1 1 1) { State.reset with
        ports := State.reset.ports.set 1 (Port.reset .inspect) }))
      (fun t => (t.ports[(1 : Fin 4)].out.head?.map OutFrame.body).any fun b => b.take 2 == [0x96, 0x0A]) = true := by decide
/-- REJECT_SETS names tags modulo 2^32. -/
theorem test_reject_sets :
    asked (.rejectSets 0 4294967295 3 1)
      { State.reset with st := { State.reset.st with ring := [{ set100 with tag := 1 }] } }
      (fun b t => result b == [1] && (t.st.ring.map fun r => r.lanes.map LanePart.reasons) == [[256, 1]]) = true := by decide
/-- RELEASE_JOURNAL stops at the first UNREAD record. -/
theorem test_release :
    asked (.releaseJournal 0 5)
      { State.reset with ij := { State.reset.ij with
        records := [⟨0, 7, 0, .flushed 0, true⟩, ⟨1, 7, 0, .flushed 0, false⟩], next := 2, tail := some ⟨false, 0⟩ } }
      (fun b t => (result b).take 2 == [0, 1] && t.ij.records.map Record.index == [1]) = true := by decide
/-- READ_JOURNAL closes the open tail that it delivers. -/
theorem test_read_closes :
    asked (.readJournal 0 0 4)
      { State.reset with ij := { State.reset.ij with
        records := [⟨0, 7, 0, .voidRun 0 5 6 2 1, false⟩], next := 1, tail := some ⟨true, 0⟩ } }
      (fun b t => status b == 0 && t.ij.tail == some ⟨false, 0⟩ && t.ij.records.all Record.read) = true := by
  set_option maxRecDepth 2000 in decide
/-- The next value of an open run of the same job, sequence and step merges. -/
theorem test_merge :
    (({ State.reset.ij with
        records := [⟨0, 7, 0, .voidRun 0 5 6 2 1, false⟩], next := 1, tail := some ⟨true, 0⟩ } : Journal).merge 0 7
      (.voidRun 0 7 7 1 1)).map (fun j => j.records.map Record.body) = some [.voidRun 0 5 7 3 1] := by decide

/-! ## Head link and ports -/

/-- A placed head with print lag 2 and orders for sets 97 and 98. -/
def head3 (d : Device) : Head :=
  { Head.reset with placement := some ⟨1, 0, 2⟩, device := d, queue := [⟨97, []⟩, ⟨98, []⟩] }

/-- Cycle 100 with that head as H3. -/
def heads (d : Device) : State :=
  { State.reset with
    wpu := { at_ 0 with cycle := 100 },
    hou := { State.reset.hou with heads := State.reset.hou.heads.set 3 (head3 d) } }

/-- The deadline of set 97 at lag 2 is CBE 100; set 98 is left. -/
theorem test_deadline :
    next (exec (.orderDeadline 3) (heads .ready)) (fun t =>
      (t.hou.heads[(3 : Fin 24)].queue.map Order.tag) == [98] && t.hou.heads[(3 : Fin 24)].late == 1) = true := by decide
/-- The younger order is settled out of turn. -/
theorem test_completion :
    next (exec (.completion 3 98 .printed) (heads .ready)) (fun t =>
      (t.hou.heads[(3 : Fin 24)].queue.map Order.tag) == [97] && t.hou.heads[(3 : Fin 24)].printed == 1) = true := by decide
/-- A fault fails both orders. -/
theorem test_fault :
    next (exec (.stateMessage 3 .fault) (heads .ready)) (fun t =>
      t.hou.heads[(3 : Fin 24)].queue.isEmpty && t.hou.heads[(3 : Fin 24)].failed == 2 &&
        t.hou.heads[(3 : Fin 24)].device == .faulted && t.lm.stops == 0) = true := by decide
/-- Cycle 100 with its set handed over: H2 of lag 1 is to issue, and an order of H5 of the same boundary waits. -/
def handing : State :=
  { holding { jobIn .active with
      assignments := (tabulate fun _ => none).set 2 (some ⟨0, 0⟩),
      formats := (tabulate fun _ => none).set 0 (some [.lane]) } with
    wpu := { at_ 0 with cycle := 100 },
    st := { State.reset.st with ring := [{ set100 with heads := set100.heads.set 2 .pending }] },
    hou := { State.reset.hou with
      heads := State.reset.hou.heads.set 2 { Head.reset with placement := some ⟨1, 0, 1⟩, device := .ready },
      transmit := [⟨100, 5, ⟨99, []⟩⟩] } }
/-- Chosen before the lag-1 order joins, H5 goes first and H2 waits; chosen after, H2 has taken its place ahead (R86). -/
theorem test_hand_over :
    ([24, 0].map fun code =>
      let t := handOver { order0 with handOver := code, inHandOver := [.chooses] } handing
      (t.hou.transmit.map WaitingOrder.head, t.hou.sending.map fun b => b.getD 3 0)) =
      [([2], some 5), ([5], some 2)] := by
  set_option maxRecDepth 8000 in decide
/-- Cycle 102 taken with orders of set 99 waiting at H5 and H8, both of lag 2: their deadline is this boundary. -/
def expiring : State :=
  let h : Head := { Head.reset with placement := some ⟨1, 0, 2⟩, device := .ready, queue := [⟨99, []⟩] }
  { State.reset with
    wpu := { at_ 0 with cycle := 102 },
    hou := { State.reset.hou with
      heads := (State.reset.hou.heads.set 5 h).set 8 h,
      transmit := [⟨100, 5, ⟨99, []⟩⟩, ⟨100, 8, ⟨99, []⟩⟩] } }
/-- Chosen before the heads' turns H5's order is sent, between the turns of H5 and H8 that of H8, and after them none; and all
three times both are LATE (R86, R87). -/
theorem test_chosen_meanwhile :
    ([[.link .chooses, .head 5, .head 8], [.head 5, .link .chooses, .head 8], [.head 5, .head 8, .link .chooses]].map
      fun l : List HouStep =>
        let t := l.foldl headStep expiring
        (t.hou.sending.map fun b => b.getD 3 0, t.hou.transmit.length, t.hou.heads[(5 : Fin 24)].late,
          t.hou.heads[(8 : Fin 24)].late)) =
      [(some 5, 0, 1, 1), (some 8, 0, 1, 1), (none, 0, 1, 1)] := by
  set_option maxRecDepth 8000 in decide
/-- A READ_SET is not taken between the allocation and the retirement of one boundary (R72). -/
theorem test_no_read_set_between :
    takeWithin (front 0 (.readSet 0 100 none) life111) 0 = front 0 (.readSet 0 100 none) life111 := by
  set_option maxRecDepth 8000 in rfl
/-- LEN 129 ends a frame garbled. -/
theorem test_rx_length : Receiver.length.step 129 = .ended .garbled := by decide
/-- C5h within a frame is data. -/
theorem test_rx_sync_as_data : (Receiver.body 2 []).step 0xC5 = .within (.body 2 [0xC5]) := by decide
/-- A third frame is discarded with the overrun flag. -/
theorem test_overrun :
    (Port.receive .garbled { Port.reset .monitor with
      buffer := [⟨.garbled, false⟩, ⟨.garbled, false⟩] }).overrun = true := by decide
/-- A request longer than a frame arrives garbled and has no effect (R187, R188). -/
theorem test_oversize :
    next (exec (.defineMarks 0 0 1 0 (List.replicate 60 1) 0) (holding (jobIn .building))) (fun t =>
      (t.ports[(0 : Fin 4)].buffer.map BufferedFrame.frame) == [.garbled] && t.ports[(0 : Fin 4)].out.isEmpty) = true := by
  set_option maxRecDepth 4000 in decide
/-- A break keeps the role. -/
theorem test_port_reset :
    next (exec (.portReset 0) (front 0 (.setStop 0) State.reset)) (fun t =>
      t.ports[(0 : Fin 4)].role == .supervisor && t.ports[(0 : Fin 4)].buffer.isEmpty) = true := by decide
/-- Straps 11 on ports A and B: A is SUPERVISOR and B MONITOR. -/
theorem test_straps :
    next (exec (.deviceReset 0x00000F) State.reset) (fun t =>
      (t.ports.toList.map Port.role) == [.supervisor, .monitor, .monitor, .monitor]) = true := by decide

/-! ## Witnesses: states and operands that meet the hypotheses of each statement -/

theorem front_atFront (p : PortId) (c : Instr) (s : State) (hf : fitsFrame (encodeRequest c) = true := by decide) :
    AtFront p c (front p c s) :=
  ⟨hf, by simp [front, modifyPort, nextFrame]⟩

theorem supervisor_admits (c : Instr) (s : State) (k : Nat) (hr : s.ports[(0 : Fin 4)].role = .supervisor)
    (hc : requestCode c = some k) (h1 : k ≠ 0x15) (h2 : k ≠ 0x16) : Admitted 0 c (front 0 c s) := by
  have hrole : (front 0 c s).ports[(0 : Fin 4)].role = .supervisor := by
    rw [← hr]; simp [front, modifyPort, updateAt]
  simp only [Admitted, hc]
  rw [hrole]
  simp [Role.admits, h1, h2]

/-- On port A of a state that holds SUPERVISOR there, the frame of a request but the two reports waits and is admitted. -/
theorem waits (c : Instr) (s : State) (k : Nat) (hr : s.ports[(0 : Fin 4)].role = .supervisor)
    (hc : requestCode c = some k) (h1 : k ≠ 0x15) (h2 : k ≠ 0x16) (hf : fitsFrame (encodeRequest c) = true := by decide) :
    Waits 0 c (front 0 c s) :=
  ⟨front_atFront 0 c s hf, supervisor_admits c s k hr hc h1 h2⟩

theorem notPending_of_none {s : State} {k : SlotId} (h : s.activation = none) : NotPending k s := by
  intro a ha; rw [h] at ha; cases ha

/-- Forward edges: the last count before a boundary with INDEX held, and without; a gate released by the edge, one released by
the next, and one that waits for a boundary. -/
theorem witness_ForwardEdgeCounts :
    (let s := press (at_ 10014)
     lineOf s .encA = some 0 ∧ lineOf s .encB = some 1 ∧ s.wpu.reference = some ⟨false, false⟩ ∧ s.wpu.backed = false ∧
       s.wpu.position + 1 < s.wpu.repeatLength + (if holdsFunction s .index then s.wpu.tolerance else 0)) ∧
    (let s := { press (at_ 9998) with lm := { (press (at_ 0)).lm with lines := (press (at_ 0)).lm.lines.set 2 Line.reset } }
     lineOf s .encA = some 0 ∧ lineOf s .encB = some 1 ∧ s.wpu.reference = some ⟨false, false⟩ ∧ s.wpu.backed = false ∧
       s.wpu.position + 1 < s.wpu.repeatLength + (if holdsFunction s .index then s.wpu.tolerance else 0)) ∧
    ∀ g ∈ [Gate.asserted 7 (some 1000), .asserted 7 (some 1001), .asserted 7 none],
      let s := { press (at_ 999) with st := { State.reset.st with gates := State.reset.st.gates.set 0 g } }
      lineOf s .encA = some 0 ∧ lineOf s .encB = some 1 ∧ s.wpu.backed = false ∧ s.st.gates[(0 : LaneId)] = g := by
  set_option maxRecDepth 8000 in decide

/-- Forward edges: the first count that takes a boundary, with INDEX held and without. -/
theorem witness_ForwardEdgeTakesBoundary :
    (let s := press (at_ 10015)
     lineOf s .encA = some 0 ∧ lineOf s .encB = some 1 ∧ s.wpu.reference = some ⟨false, false⟩ ∧ s.wpu.backed = false ∧
       s.wpu.repeatLength + (if holdsFunction s .index then s.wpu.tolerance else 0) ≤ s.wpu.position + 1) ∧
    (let s := { press (at_ 9999) with lm := { (press (at_ 0)).lm with lines := (press (at_ 0)).lm.lines.set 2 Line.reset } }
     lineOf s .encA = some 0 ∧ lineOf s .encB = some 1 ∧ s.wpu.reference = some ⟨false, false⟩ ∧ s.wpu.backed = false ∧
       s.wpu.repeatLength + (if holdsFunction s .index then s.wpu.tolerance else 0) ≤ s.wpu.position + 1) := by
  set_option maxRecDepth 8000 in decide

theorem witness_ReverseEdgeCounts :
    ∀ n ∈ [0, 1], let s := press (at_ n)
      lineOf s .encA = some 0 ∧ lineOf s .encB = some 1 ∧ s.wpu.reference = some ⟨false, false⟩ ∧ s.wpu.backed = false ∧
        s.wpu.position = n := by
  set_option maxRecDepth 8000 in decide

/-- BACKED with the largest deficit below saturation, with 2 and with 1. -/
theorem witness_BackedEdgesCountDeficit :
    ∀ d ∈ [65534, 2, 1], let s := press { at_ 0 with backed := true, deficit := d, episodeMax := d }
      lineOf s .encA = some 0 ∧ lineOf s .encB = some 1 ∧ s.wpu.reference = some ⟨false, false⟩ ∧ s.wpu.backed = true ∧
        s.wpu.deficit = d := by
  set_option maxRecDepth 8000 in decide

/-- A port with seven notices waiting, subscribed to WEB. -/
def fullButOne : Port :=
  { Port.reset .supervisor with subscription := 1, out := List.replicate 7 { response := false, body := [0xE1, 0] } }

theorem witness_InvalidTransitionReported :
    let s := { press (at_ 0) with ports := (press (at_ 0)).ports.set 0 fullButOne }
    lineOf s .encA = some 0 ∧ lineOf s .encB = some 1 ∧ s.wpu.reference = some ⟨false, false⟩ ∧
      s.ports[(0 : Fin 4)].subscription.getLsbD 0 = true ∧ s.ports[(0 : Fin 4)].noticeCount < 8 := by
  set_option maxRecDepth 8000 in decide

/-- Index edges at both ends of the normal window, at the last late place, just beyond it and just before the window, at 0
with nothing pending, and in reverse. -/
theorem witness_IndexEdgeJudged :
    (∀ n ∈ [9984, 10016], let s := press (at_ n)
      holdsFunction s .index = true ∧ s.wpu.direction = .forward ∧ s.wpu.backed = false ∧
        s.wpu.repeatLength ≤ s.wpu.position + s.wpu.tolerance ∧ s.wpu.position ≤ s.wpu.repeatLength + s.wpu.tolerance) ∧
    (let s := press { at_ 16 with indexPending := .afterSynthetic }
     holdsFunction s .index = true ∧ s.wpu.direction = .forward ∧ s.wpu.backed = false ∧
       s.wpu.position + s.wpu.tolerance < s.wpu.repeatLength ∧ s.wpu.position ≤ s.wpu.tolerance ∧
       s.wpu.indexPending ≠ .none) ∧
    (∀ n ∈ [0, 17, 9983], let s := press (at_ n)
      holdsFunction s .index = true ∧ s.wpu.direction = .forward ∧ s.wpu.backed = false ∧
        s.wpu.position + s.wpu.tolerance < s.wpu.repeatLength ∧
        (s.wpu.tolerance < s.wpu.position ∨ s.wpu.indexPending = .none)) ∧
    (let s := press { at_ 9999 with direction := .reverse }
     holdsFunction s .index = true ∧ (s.wpu.direction = .reverse ∨ s.wpu.backed = true)) := by
  set_option maxRecDepth 20000 in decide

/-- The lines of `press`, with MARK_1 on F3: a change of each hearing line and of a GEN_IN line. -/
theorem witness_LevelsAndTicks :
    let s := { press (at_ 0) with lm := { (press (at_ 0)).lm with
      lines := (press (at_ 0)).lm.lines.set 3 { Line.reset with function := .mark 0, level := false } } }
    LinesUnique s ∧ (∀ i ∈ [(0 : LineId), 1, 2, 3], s.lm.lines[i].level ≠ true) ∧ s.lm.lines[(4 : LineId)].level ≠ false ∧
      s.lm.lines[(0 : LineId)].function = .encA ∧ s.lm.lines[(1 : LineId)].function = .encB ∧
      s.lm.lines[(2 : LineId)].function = .index ∧ s.lm.lines[(3 : LineId)].function = .mark 0 ∧
      s.lm.lines[(4 : LineId)].function = .genIn := by
  set_option maxRecDepth 20000 in (unfold LinesUnique; decide)

/-- A measurement of channels 1 and 2 with four positions each. -/
def armed2 : Armed :=
  { slot := 0,
    settings :=
      { channels := ((tabulate fun _ => none).set 0 (some ⟨[1, 2, 3, 4], 5⟩)).set 1 (some ⟨[1, 2, 3, 4], 5⟩),
        maskEnd := 0, closeAt := 65535 } }

/-- A press with MARK_1 on F3 and a measurement in a state, with hits of channel 1. -/
def measuring (st : MeasureState) (n : Nat) : State :=
  { press (at_ 5) with
    lm := { (press (at_ 5)).lm with
      lines := (press (at_ 5)).lm.lines.set 3 { Line.reset with function := .mark 0, level := false } },
    mtu := { State.reset.mtu with
      state := st, armed := some armed2, hits := (tabulate fun _ => []).set 0 (List.replicate n ⟨1, false⟩) } }

/-- The same settings with channel 2 not enabled. -/
def armed1 : Armed := { armed2 with settings := { armed2.settings with channels := armed2.settings.channels.set 1 none } }

/-- Three hits with channel 2 short, four hits, a measurement that is CLOSED, the hit that fills the last buffer, and a
channel not enabled. -/
theorem witness_MarkEdgeCollected :
    (∀ st ∈ [MeasureState.collecting, .closed], ∀ n ∈ [3, 4], let s := measuring st n
      holdsFunction s (.mark 0) = true ∧ s.wpu.direction = .forward ∧ s.wpu.backed = false ∧ s.mtu.state = st ∧
        s.mtu.armed = some armed2 ∧ armed2.settings.channels[(0 : ChannelId)].isSome = true ∧
        s.mtu.hits[(0 : ChannelId)].length = n) ∧
    (armed2.settings.channels[(1 : ChannelId)] = some ⟨[1, 2, 3, 4], 5⟩ ∧
      (measuring .collecting 3).mtu.hits[(1 : ChannelId)].length < 4) ∧
    (armed1.settings.channels[(0 : ChannelId)].isSome = true ∧
      let hits := (measuring .collecting 3).mtu.hits.set 0
        ((measuring .collecting 3).mtu.hits[(0 : ChannelId)] ++ [⟨40, false⟩])
      ∀ j : ChannelId, (armed1.settings.channels[j].all fun m => decide (m.positions.length ≤ hits[j].length)) = true) ∧
    armed1.settings.channels[(1 : ChannelId)] = none := by
  set_option maxRecDepth 20000 in decide

/-- One hit short, one too many, a dropped mark, and errors on and beyond the tolerance. -/
theorem witness_ChannelJudgement :
    (judgeChannel 10000 (some ⟨[8], 5⟩) [] false).status = .missing ∧
    (judgeChannel 10000 (some ⟨[8], 5⟩) [⟨8, false⟩, ⟨9, false⟩] false).status = .extra ∧
    (judgeChannel 10000 (some ⟨[8], 5⟩) [⟨8, false⟩] true).status = .extra ∧
    (judgeChannel 10000 (some ⟨[8], 5⟩) [⟨14, false⟩] false).status = .outOfTolerance ∧
    (judgeChannel 10000 (some ⟨[8], 5⟩) [⟨13, false⟩] false).status = .ok ∧
    (judgeChannel 10000 (some ⟨[8, 9], 5⟩) [⟨13, true⟩, ⟨79999, false⟩] false).errors = [⟨5, true⟩, ⟨-10, false⟩] := by decide

/-- A measurement with no hit in channels of four positions is faulty, one with no channel enabled is not. -/
def noHits (a : Armed) (n k : Nat) : State :=
  { measuring .collecting 0 with mtu := { (measuring .collecting 0).mtu with armed := some a, faults := n, stopCount := k } }

/-- No channel enabled, the mask end at 3 and a close position. -/
def armed0 (closeAt : Nat) : Armed := ⟨0, ⟨tabulate fun _ => none, 3, closeAt⟩⟩

/-- Faulty closes that reach K, stay below it, have no K and stand at 255, with a port that hears REG_FAULT; a close that is
not faulty; closes at the close position, before it, and with one that no position reaches; boundaries with each kind of
settings. -/
theorem witness_MeasurementClosesAndArms :
    (∀ x ∈ [(2, 3), (1, 3), (7, 0), (255, 15)], let s := noHits armed2 x.1 x.2
      s.mtu.armed = some armed2 ∧ s.mtu.faults = x.1 ∧ s.mtu.stopCount = x.2 ∧
        (judgeChannel s.wpu.repeatLength armed2.settings.channels[(0 : ChannelId)] s.mtu.hits[(0 : ChannelId)]
          s.mtu.dropped[(0 : ChannelId)]).status = .missing) ∧
    (let p : Port := { Port.reset .monitor with subscription := 4 }
     p.subscription.getLsbD 2 = true ∧ p.subscription.getLsbD 5 = false ∧ p.noticeCount < 8) ∧
    (∀ k : ChannelId, (judgeChannel 10000 (armed0 5).settings.channels[k] [] false).status = .notEnabled) ∧
    (∀ c ∈ [5, 6, 10000], let s := noHits (armed0 c) 0 0
      s.mtu.state = .collecting ∧ s.wpu.position = 5 ∧ s.wpu.repeatLength = 10000 ∧ s.mtu.armed = some (armed0 c)) ∧
    (setAtAge { life111 with wpu := { at_ 0 with cycle := 108 } } 8 = some set100 ∧
      life111.slots[(0 : SlotId)].isSome = true ∧ setAtAge life 8 = none ∧ activeSlot life = some 0 ∧
      activeSlot State.reset = none) := by
  set_option maxRecDepth 20000 in decide


/-- V allowed at once; allowed after four candidates of a range; past the bounds under HALT; under WRAP F allowed, and
everything excluded; an EXHAUSTED sequence; what a draw yields. -/
theorem witness_DrawFindsAllowedValue :
    (let q := { freshSequence 3 100 160 3 .halt .none with value := 121 }
     q.state = .live ∧ q.step ≠ 0 ∧ q.draw [⟨0, 120, 131⟩] = .yields 133 false ∧
       (∀ j < (4 : Nat), (120 : Int) ≤ 121 + (j : Int) * 3 ∧ 121 + (j : Int) * 3 ≤ 131) ∧ ¬(133 : Int) ≤ 131) ∧
    (let q := { freshSequence 3 500 100 (-7) .wrap .none with value := 97 }
     q.state = .live ∧ ¬(100 : Int) ≤ 97 ∧ q.draw [⟨0, 480, 495⟩] = .yields 500 true) ∧
    (let q := { freshSequence 3 500 100 (-7) .halt .none with value := 97 }
     q.state = .live ∧ q.draw [] = .fails) ∧
    ((freshSequence 2 10 20 5 .wrap .none).state = .live ∧
      (∀ j < (3 : Nat), (10 : Int) ≤ 10 + (j : Int) * 5 ∧ 10 + (j : Int) * 5 ≤ 20) ∧ ¬(10 + 3 * 5 : Int) ≤ 20) ∧
    { freshSequence 2 10 20 5 .wrap .none with state := .exhausted }.draw [] = .fails ∧
    { freshSequence 4 0 9999 1 .wrap .m11 with value := 6 }.draw [] = .yields 7 false := by decide

theorem witness_CheckCharacters :
    (10 : Nat) ≤ 10 ∧ (let q := { freshSequence 4 0 9999 1 .wrap .m11 with value := 6 }
      q.scheme = .m11 ∧ q.draw [] = .yields 7 false) := by decide

/-- DEFINE_SEQUENCE at the ends of its ranges; LOAD_VALUE of hi with one record free. -/
theorem witness_SequencesAndExclusionsEdited :
    (let s := front 0 (.defineSequence 0 0 7 10 9999999999 0 (-999) 1 3) (holding (jobIn .building))
     Waits 0 (.defineSequence 0 0 7 10 9999999999 0 (-999) 1 3) s ∧ s.slots[(0 : SlotId)] = some (jobIn .building) ∧
       busySlotOf s.background ≠ some 0) ∧
    (let s := front 0 (.loadValue 0 0 0 99)
       { holding (jobIn .parked) with ij := { State.reset.ij with reserved := 1023 } }
     Waits 0 (.loadValue 0 0 0 99) s ∧ s.slots[(0 : SlotId)] = some (jobIn .parked) ∧ NotPending 0 s ∧
       busySlotOf s.background ≠ some 0 ∧ (jobIn .parked).sequences[(0 : SeqId)] = some seqA ∧ seqA.queue = [] ∧
       min (seqA.first : Int) seqA.last ≤ 99 ∧ 99 ≤ max (seqA.first : Int) seqA.last ∧ 1 ≤ s.ij.unreserved) :=
  ⟨⟨waits _ _ _ rfl rfl (by decide) (by decide), rfl, by decide⟩,
   ⟨waits _ _ _ rfl rfl (by decide) (by decide), rfl, notPending_of_none rfl, by decide, rfl, rfl, by decide, by decide,
    by decide⟩⟩

/-- A range that adjoins its neighbour, in BUILDING and in ACTIVE with one record free; the range that begins at 10. -/
theorem witness_SequencesAndExclusionsEdited_ranges :
    (∀ j ∈ [JobState.building, .active], let c := { jobIn j with exclusions := [⟨0, 10, 20⟩] }
      let s := front 0 (.addExclusion 0 0 0 21 99) { holding c with ij := { State.reset.ij with reserved := 1023 } }
      s.slots[(0 : SlotId)] = some c ∧ c.state ≠ .draining ∧ c.sequences[(0 : SeqId)] = some seqA ∧
        (∀ r ∈ c.exclusions, r.sequence = 0 → 99 < r.low ∨ r.high < 21) ∧ c.exclusions.length < 16 ∧
        (c.state = .building ∨ 1 ≤ s.ij.unreserved)) ∧
    Waits 0 (.addExclusion 0 0 0 21 99) (front 0 (.addExclusion 0 0 0 21 99) (holding (jobIn .building))) ∧
    (let c := { jobIn .building with exclusions := [⟨0, 10, 20⟩] }
     let s := front 0 (.removeExclusion 0 0 0 10) (holding c)
     Waits 0 (.removeExclusion 0 0 0 10) s ∧ s.slots[(0 : SlotId)] = some c ∧
       c.exclusions.find? (fun r => r.sequence == 0 && r.low == 10) = some ⟨0, 10, 20⟩) :=
  ⟨by set_option maxRecDepth 4000 in decide, waits _ _ _ rfl rfl (by decide) (by decide),
   waits _ _ _ rfl rfl (by decide) (by decide), rfl, by decide⟩

/-- A table that a new range joins; a state that keeps it is in witness_invariants. -/
theorem witness_ExclusionTablesStaySorted :
    [(⟨0, 10, 20⟩ : Exclusion), ⟨1, 5, 6⟩].Pairwise
      (fun a b => a.sequence < b.sequence ∨ a.sequence = b.sequence ∧ a.low < b.low) ∧
    ∀ t ∈ [(⟨0, 10, 20⟩ : Exclusion), ⟨1, 5, 6⟩], t.sequence = 0 → t.low ≠ 21 := by decide

/-- Job 7 parked with 5 queued. -/
def jobQueued : Context :=
  { jobIn .parked with sequences := (tabulate fun _ => none).set 0 (some { seqA with
      queue := [⟨5, 1, .defect, 9⟩], queued := 1, drawn := 1 }) }

/-- The queued value with one record free, and one that is not queued. -/
theorem witness_ReprintWithdrawn :
    (let s := front 0 (.withdrawReprint 0 0 0 5) { holding jobQueued with ij := { State.reset.ij with reserved := 1023 } }
     Waits 0 (.withdrawReprint 0 0 0 5) s ∧ s.slots[(0 : SlotId)] = some jobQueued ∧ 1 ≤ s.ij.unreserved ∧
       (sequenceOf s 0 0).any (fun x => x.queue.find? (fun e => e.value == 5) == some ⟨5, 1, .defect, 9⟩) = true) ∧
    Waits 0 (.withdrawReprint 0 0 0 6) (front 0 (.withdrawReprint 0 0 0 6) (holding jobQueued)) :=
  ⟨⟨waits _ _ _ rfl rfl (by decide) (by decide), rfl, by decide, by decide⟩, waits _ _ _ rfl rfl (by decide) (by decide)⟩

/-- The first requests of a free background record, and a cancellation of each kind. -/
theorem witness_BackgroundStartedAndCancelled :
    (let s := front 0 (.probeSequence 0 0 0 65535) (holding (jobIn .building))
     Waits 0 (.probeSequence 0 0 0 65535) s ∧ s.slots[(0 : SlotId)] = some (jobIn .building) ∧
       busySlotOf s.background = none) ∧
    (let s := front 0 (.skipAhead 0 0 0 1) (holding (jobIn .ready))
     Waits 0 (.skipAhead 0 0 0 1) s ∧ s.slots[(0 : SlotId)] = some (jobIn .ready) ∧ NotPending 0 s ∧
       busySlotOf s.background = none) ∧
    Waits 0 (.cancelBackground 0)
      (front 0 (.cancelBackground 0) { holding (jobIn .ready) with background := .probe probe2 }) ∧
    Waits 0 (.cancelBackground 0)
      (front 0 (.cancelBackground 0) { holding (jobIn .ready) with background := .skip skip5 }) :=
  ⟨⟨waits _ _ _ rfl rfl (by decide) (by decide), rfl, rfl⟩,
   ⟨waits _ _ _ rfl rfl (by decide) (by decide), rfl, notPending_of_none rfl, rfl⟩,
   waits _ _ _ rfl rfl (by decide) (by decide), waits _ _ _ rfl rfl (by decide) (by decide)⟩

/-- The last draw, an earlier one, and one that fails. -/
theorem witness_ProbeDrawsOnItsCopy :
    (probe2.ended = none ∧ probe2.copy.draw probe2.ranges = .yields 2 false ∧ probe2.draws + 1 = probe2.count) ∧
    (let b := { probe2 with draws := 1 }
     b.ended = none ∧ b.copy.draw b.ranges = .yields 2 false ∧ b.draws + 1 ≠ b.count) ∧
    { probe2 with copy := { seqA with value := 100 } }.copy.draw [] = .fails := by decide

/-- A HELD skip-ahead with one record free and with none; running draws with no room, with one record, into the open tail,
and failing; the last draw with one record free and no run to join. -/
theorem witness_SkipDrawsVoidValues :
    ({ skip5 with remaining := 1 }.ended = none ∧ { skip5 with remaining := 1 }.remaining = 1) ∧
    (skip5.ended = none ∧ skip5.held = false ∧ { State.reset.ij with reserved := 1023 }.unreserved = 1 ∧
      { State.reset.ij with reserved := 1024 }.unreserved = 0) ∧
    (holding (jobIn .parked)).slots[(0 : SlotId)] = some (jobIn .parked) ∧
    (jobIn .parked).sequences[(0 : SeqId)] = some seqA ∧ seqA.draw [] = .yields 0 false ∧
    { seqA with value := 100 }.draw [] = .fails ∧
    State.reset.ij.merge 0 7 (.voidRun 0 0 0 1 1) = none ∧
    ({ State.reset.ij with
        records := [⟨0, 7, 0, .voidRun 0 0 0 1 1, false⟩], next := 1, tail := some ⟨true, 0⟩ } : Journal).merge 0 7
      (.voidRun 0 1 1 1 1) ≠ none := by decide

theorem nothingRuns_reset : NothingRuns State.reset := ⟨by decide, rfl⟩

/-- The geometry requests at the ends of their ranges. -/
theorem witness_GeometrySetAndFrozen :
    NothingRuns (front 0 (.setWeb 0 60000 65535) State.reset) ∧
    Waits 0 (.setWeb 0 60000 65535) (front 0 (.setWeb 0 60000 65535) State.reset) ∧
    Waits 0 (.setLags 0 1 125 127) (front 0 (.setLags 0 1 125 127) State.reset) ∧
    Waits 0 (.placeHead 0 23 (some ⟨6, 4, 60⟩)) (front 0 (.placeHead 0 23 (some ⟨6, 4, 60⟩)) State.reset) ∧
    Waits 0 (.placeHead 0 0 none) (front 0 (.placeHead 0 0 none) State.reset) ∧
    Waits 0 (.setRegStop 0 15) (front 0 (.setRegStop 0 15) State.reset) ∧
    Waits 0 (.setGate 0 65535) (front 0 (.setGate 0 65535) State.reset) ∧
    Waits 0 (.openRun 0) (front 0 (.openRun 0) State.reset) ∧
    Waits 0 (.closeRun 0) (front 0 (.closeRun 0) State.reset) :=
  ⟨⟨by decide, rfl⟩, waits _ _ _ rfl rfl (by decide) (by decide), waits _ _ _ rfl rfl (by decide) (by decide),
   waits _ _ _ rfl rfl (by decide) (by decide), waits _ _ _ rfl rfl (by decide) (by decide),
   waits _ _ _ rfl rfl (by decide) (by decide), waits _ _ _ rfl rfl (by decide) (by decide),
   waits _ _ _ rfl rfl (by decide) (by decide), waits _ _ _ rfl rfl (by decide) (by decide)⟩

/-- The same requests with a context ACTIVE. -/
theorem witness_GeometrySetAndFrozen_running :
    ¬NothingRuns (front 0 (.setWeb 0 1000 0) (holding (jobIn .active))) ∧
    Waits 0 (.setWeb 0 1000 0) (front 0 (.setWeb 0 1000 0) (holding (jobIn .active))) ∧
    Waits 0 (.setLags 0 127 127 127) (front 0 (.setLags 0 127 127 127) (holding (jobIn .active))) ∧
    Waits 0 (.placeHead 0 23 (some ⟨6, 4, 60⟩)) (front 0 (.placeHead 0 23 (some ⟨6, 4, 60⟩)) (holding (jobIn .active))) ∧
    Waits 0 (.placeHead 0 23 none) (front 0 (.placeHead 0 23 none) (holding (jobIn .active))) ∧
    Waits 0 (.setRegStop 0 0) (front 0 (.setRegStop 0 0) (holding (jobIn .active))) ∧
    Waits 0 (.setGate 0 1) (front 0 (.setGate 0 1) (holding (jobIn .active))) :=
  ⟨fun h => (h.1 0).1 (by decide), waits _ _ _ rfl rfl (by decide) (by decide),
   waits _ _ _ rfl rfl (by decide) (by decide), waits _ _ _ rfl rfl (by decide) (by decide),
   waits _ _ _ rfl rfl (by decide) (by decide), waits _ _ _ rfl rfl (by decide) (by decide),
   waits _ _ _ rfl rfl (by decide) (by decide)⟩

/-- A list edited at its length and below it, and trimmed. -/
theorem witness_BuildEdited :
    (holding (jobIn .building)).slots[(0 : SlotId)] = some (jobIn .building) ∧ (jobIn .building).state = .building ∧
    (1 : Nat) ≤ (jobIn .building).list.length ∧
    Waits 0 (.defineEntry 0 0 1 4 0 7 1) (front 0 (.defineEntry 0 0 1 4 0 7 1) (holding (jobIn .building))) ∧
    Waits 0 (.defineEntry 0 0 0 1 1 15 0) (front 0 (.defineEntry 0 0 0 1 1 15 0) (holding (jobIn .building))) ∧
    Waits 0 (.defineEntry 0 0 1 1 2 9 9) (front 0 (.defineEntry 0 0 1 1 2 9 9) (holding (jobIn .building))) ∧
    Waits 0 (.trimList 0 0 16) (front 0 (.trimList 0 0 16) (holding (jobIn .building))) :=
  ⟨rfl, rfl, by decide, waits _ _ _ rfl rfl (by decide) (by decide), waits _ _ _ rfl rfl (by decide) (by decide),
   waits _ _ _ rfl rfl (by decide) (by decide), waits _ _ _ rfl rfl (by decide) (by decide)⟩

/-- The build requests at the ends of their ranges. -/
theorem witness_BuildEdited_settings :
    (holding (jobIn .building)).slots[(0 : SlotId)] = some (jobIn .building) ∧ (jobIn .building).state = .building ∧
    Waits 0 (.assignHead 0 0 23 (some ⟨15, 7⟩)) (front 0 (.assignHead 0 0 23 (some ⟨15, 7⟩)) (holding (jobIn .building))) ∧
    Waits 0 (.assignHead 0 0 0 none) (front 0 (.assignHead 0 0 0 none) (holding (jobIn .building))) ∧
    ([RawItem.literal [0x2F], .number 16 1, .check 15].map itemOf =
      [FormatItem.literal [0x2F], .number .own .blank, .check (.entry 15)].map some) ∧
    Waits 0 (.defineFormat 0 0 7 [.literal [0x2F], .number 16 1, .check 15])
      (front 0 (.defineFormat 0 0 7 [.literal [0x2F], .number 16 1, .check 15]) (holding (jobIn .building))) ∧
    Waits 0 (.defineMarks 0 0 6 1 [479999] 4095)
      (front 0 (.defineMarks 0 0 6 1 [479999] 4095) (holding (jobIn .building))) ∧
    Waits 0 (.defineMarks 0 0 1 0 [] 0) (front 0 (.defineMarks 0 0 1 0 [] 0) (holding (jobIn .building))) ∧
    Waits 0 (.setMarkWindow 0 0 65535 1) (front 0 (.setMarkWindow 0 0 65535 1) (holding (jobIn .building))) ∧
    Waits 0 (.setInspection 0 0 4 15) (front 0 (.setInspection 0 0 4 15) (holding (jobIn .building))) ∧
    Waits 0 (.setInspection 0 0 1 255) (front 0 (.setInspection 0 0 1 255) (holding (jobIn .building))) :=
  ⟨rfl, rfl, waits _ _ _ rfl rfl (by decide) (by decide), waits _ _ _ rfl rfl (by decide) (by decide), by decide,
   waits _ _ _ rfl rfl (by decide) (by decide), waits _ _ _ rfl rfl (by decide) (by decide),
   waits _ _ _ rfl rfl (by decide) (by decide), waits _ _ _ rfl rfl (by decide) (by decide),
   waits _ _ _ rfl rfl (by decide) (by decide), waits _ _ _ rfl rfl (by decide) (by decide)⟩

/-- Port B as INSPECT, and a set whose window is open with a lane in an inspection state. -/
def inspecting (i : Inspection) : State :=
  { life111 with
    wpu := { at_ 0 with cycle := 110 },
    st := { life111.st with ring := [{ set100 with lanes := [⟨i, 0, none⟩, ⟨i, 0, none⟩] }] },
    ports := life111.ports.set 1 (Port.reset .inspect) }

/-- Each inspection state with a reading that matches and one that does not, and a defect. -/
theorem witness_ReadsAndDefectsReported :
    (∀ i ∈ [Inspection.notRequired, .awaiting, .readOk, .misread], let s := inspecting i
      (setAtAge s s.st.inspect).any (fun r => r.lanes[(0 : Nat)]? == some ⟨i, 0, none⟩ &&
        (inspectedNumber s r 0).any fun n => n.value == digitsValue [0x34, 0x32, 0x30, 0x30, 0x35, 0x31, 0x37] &&
          n.check == some 9) = true) ∧
    Waits 1 (.reportRead 1 1 [0x34, 0x32, 0x30, 0x30, 0x35, 0x31, 0x37] 0x39)
      (front 1 (.reportRead 1 1 [0x34, 0x32, 0x30, 0x30, 0x35, 0x31, 0x37] 0x39) (inspecting .awaiting)) ∧
    Waits 1 (.reportRead 1 1 [0x30] 0) (front 1 (.reportRead 1 1 [0x30] 0) (inspecting .readOk)) ∧
    Waits 1 (.reportDefect 1 1 255) (front 1 (.reportDefect 1 1 255) (inspecting .awaiting)) :=
  ⟨by set_option maxRecDepth 4000 in decide, ⟨front_atFront _ _ _, rfl⟩, ⟨front_atFront _ _ _, rfl⟩,
   ⟨front_atFront _ _ _, rfl⟩⟩

/-- A range of tags that catches set 100, and one that ends just before it. -/
theorem witness_SetsRejectedByTag :
    Waits 0 (.rejectSets 0 100 1 1) (front 0 (.rejectSets 0 100 1 1) life111) ∧
    (life111.st.ring.filter fun r => decide ((r.tag - BitVec.ofNat 32 100).toNat < min 1 128)).length = 1 ∧
    Waits 0 (.rejectSets 0 99 1 8) (front 0 (.rejectSets 0 99 1 8) life111) ∧
    (life111.st.ring.filter fun r => decide ((r.tag - BitVec.ofNat 32 99).toNat < min 1 128)).length = 0 :=
  ⟨waits _ _ _ rfl rfl (by decide) (by decide), by decide, waits _ _ _ rfl rfl (by decide) (by decide), by decide⟩

/-! ### States of a run, and what holds of them -/

theorem of_all {α : Type} {p : α → Prop} [DecidablePred p] {o : Option α} {x : α}
    (h : (o.all fun x => decide (p x)) = true) (hx : o = some x) : p x := by
  subst hx; simpa using h

theorem all_slots {s : State} {p : SlotId → Context → Prop} [∀ k c, Decidable (p k c)]
    (h : ∀ k : SlotId, (s.slots[k].all fun c => decide (p k c)) = true) (k : SlotId) (c : Context)
    (hc : s.slots[k] = some c) : p k c := of_all (h k) hc

theorem runSound_of {s : State}
    (one : ∀ x ∈ [JobState.active, .draining], ∀ i j : SlotId, slotState s i = some x → slotState s j = some x → i = j)
    (slots : ∀ k : SlotId, (s.slots[k].all fun c => decide
      ((c.suspend = true → c.state = .active ∧ 1 ≤ c.inFlight ∧ ∀ j : SlotId, slotState s j ≠ some .draining) ∧
        (c.state = .draining → 1 ≤ c.inFlight) ∧ c.inFlight = setsOf k s)) = true)
    (pending : (s.activation.all fun a => decide (slotState s a.slot = some a.origin.state ∧
      ∀ i j : SlotId, slotState s i = some .draining → slotState s j ≠ some .active)) = true)
    (lags : 1 ≤ s.st.merge ∧ s.st.merge ≤ s.st.inspect ∧ s.st.inspect + 2 ≤ s.st.gateLag ∧ s.st.gateLag ≤ 127)
    (ring : ∀ r ∈ s.st.ring, (slotState s r.slot = some .active ∨ slotState s r.slot = some .draining) ∧
      tagAge s r.tag < s.st.gateLag)
    (ordered : (s.st.ring.map fun r => tagAge s r.tag).Pairwise fun a b => b < a) : RunSound s where
  oneActive := one _ (by simp)
  oneDraining := one _ (by simp)
  suspended k c hc := (all_slots slots k c hc).1
  draining k c hc := (all_slots slots k c hc).2.1
  pending _ ha := of_all (p := fun a : Activation => slotState s a.slot = some a.origin.state ∧
    ∀ i j : SlotId, slotState s i = some .draining → slotState s j ≠ some .active) pending ha
  lags := .inr lags
  fitted _ := lags.1
  owned r hr := (ring r hr).1
  counted k c hc := (all_slots slots k c hc).2.2
  ordered := ordered
  young r hr := (ring r hr).2

/-- The job of set 100 with sets in flight, four numbers held, and head H3 on entry E0. -/
def jobRun (suspend : Bool) (n : Nat) : Context :=
  { jobLife 4200541 with
    suspend := suspend, inFlight := n,
    sequences := (tabulate fun _ => none).set 0 (some { seqLife 4200541 with drawn := 4, held := 4 }),
    exclusions := [⟨0, 10, 20⟩, ⟨0, 22, 30⟩],
    assignments := (tabulate fun _ => none).set 3 (some ⟨0, 0⟩),
    formats := (tabulate fun _ => none).set 0 (some [.number .own .zero]) }

/-- Set 110, issued to H3 at the last boundary. -/
def set110 : SetRecord := { set100 with tag := 110, heads := set100.heads.set 3 .ordered }

/-- Cycle 111 of that run at the normal index: sets 100 and 110 in the ring, the order of H3 waiting, one record for the run
and four for the sets reserved, and job 7 READY in slot 1. -/
def running (suspend run : Bool) (a : Option Activation) : State :=
  { press { at_ 9984 with cycle := 111 } with
    slots := (State.reset.slots.set 0 (some (jobRun suspend 2))).set 1 (some (jobIn .ready)),
    activation := a,
    st := { life.st with ring := [set100, set110], runOpen := run },
    ij := { State.reset.ij with
      reserved := 5, contextReserved := State.reset.ij.contextReserved.set 0 1,
      records := [⟨0, 417, 100, .jobActivated false, false⟩], next := 1, tail := some ⟨false, 0⟩ },
    hou := { State.reset.hou with
      heads := State.reset.hou.heads.set 3
        { Head.reset with placement := some ⟨1, 0, 2⟩, device := .ready, queue := [⟨110, [0x30]⟩] },
      transmit := [⟨111, 3, ⟨110, [0x30]⟩⟩] },
    pending := [.edgeAgeTick] }

/-- At the normal index, run gate OPEN and CLOSED: the ACTIVE context runs on, is suspended, or gives way to slot 1. -/
theorem witness_BoundaryAllocatesAndRetires :
    (∀ run ∈ [true, false], RunSound (running false run none) ∧ RunSound (running true run none) ∧
      RunSound (running false run (some ⟨1, 112, .ready⟩))) ∧
    (let s := running false true none
     holdsFunction s .index = true ∧ s.wpu.direction = .forward ∧ s.wpu.backed = false ∧
       s.wpu.repeatLength ≤ s.wpu.position + s.wpu.tolerance ∧ s.wpu.position ≤ s.wpu.repeatLength + s.wpu.tolerance ∧
       lineOf s .encA = some 0 ∧ lineOf s .encB = some 1 ∧ s.wpu.reference = some ⟨false, false⟩) := by
  refine ⟨fun run _ => ⟨?_, ?_, ?_⟩, by set_option maxRecDepth 20000 in decide⟩ <;> cases run <;>
    (set_option maxRecDepth 20000 in
      exact runSound_of (by decide) (by decide) (by decide) (by decide) (by decide) (by decide))

/-- Each mode of an entry on a slot with its sequence: the oldest reprint, a draw that yields and one that fails, a base with
a number and one without; and as many records free as the list needs. -/
theorem witness_EntriesFilled :
    (life.st.runOpen = true ∧ activeSlot life = some 0 ∧ life.slots[(0 : SlotId)] = some (jobLife 4200517) ∧
      ((jobLife 4200517).list.filter fun e => e.mode.sequence?.isSome).length = 2 ∧
      { life.ij with reserved := 1022 }.unreserved = 2) ∧
    (jobLife 4200517).sequences[(0 : SeqId)] = some (seqLife 4200517) ∧
    (seqLife 4200517).draw [] = .yields 4200517 false ∧ { seqA with value := 100 }.draw [] = .fails ∧
    (sequenceOf (holding jobQueued) 0 0).map Sequence.queue = some [⟨5, 1, .defect, 9⟩] ∧
    (set205.entries[(1 : Nat)]?.map EntryPart.state = some (.numbered ⟨4200518, some 6, .fresh, 0⟩)) ∧
    (([⟨0, some 0, .unnumbered⟩] : List EntryPart)[(0 : Nat)]?.map EntryPart.state) = some .unnumbered := by decide

/-- One record free where the list needs two. -/
theorem witness_ShortJournalDegradesSet :
    let s := { life with ij := { State.reset.ij with reserved := 1023 } }
    s.st.runOpen = true ∧ activeSlot s = some 0 ∧ s.slots[(0 : SlotId)] = some (jobLife 4200517) ∧
      s.ij.unreserved < ((jobLife 4200517).list.filter fun e => e.mode.sequence?.isSome).length := by decide

/-- A context record with room, with none, and behind another; a changeover not yet due and one that is due, with no context
ACTIVE, with one that has sets and one that has none; a suspend flag clear and set; a set of a running context, and the
second to last and the last set of a draining one. -/
theorem witness_JobsChangeAtBoundary :
    (State.reset.ij.deferred = [] ∧ 1 ≤ State.reset.ij.unreserved ∧ { State.reset.ij with reserved := 1024 }.unreserved = 0) ∧
    (let due := running false true (some ⟨1, 111, .ready⟩)
     due.activation = some ⟨1, 111, .ready⟩ ∧ due.wpu.cycle = 111 ∧ due.slots[(1 : SlotId)] = some (jobIn .ready) ∧
       activeSlot due = some 0 ∧ due.slots[(0 : SlotId)] = some (jobRun false 2)) ∧
    (activeSlot (holding (jobIn .ready)) = none ∧ activeSlot (holding (jobIn .active)) = some 0 ∧
      (jobIn .active).inFlight = 0) ∧
    (jobRun true 2).suspend = true ∧
    (∀ n ∈ [1, 2], let s := holding { jobIn .draining with inFlight := n }
      s.slots[(set100.slot : SlotId)] = some { jobIn .draining with inFlight := n }) := by
  set_option maxRecDepth 20000 in decide

/-- H3 of `running`, lag 2, READY, with a set whose head state is PENDING and one whose reference is UNNUMBERED; H3 not READY;
a waiting order of the same boundary and a higher head. -/
theorem witness_OrdersIssued :
    (let s := running false true none
     s.hou.heads[(3 : HeadId)].placement = some ⟨1, 0, 2⟩ ∧ setAtAge s 1 = some set110 ∧ setAtAge s 0 = none ∧
       s.slots[set110.slot] = some (jobRun false 2) ∧ (jobRun false 2).assignments[(3 : HeadId)] = some ⟨0, 0⟩ ∧
       (jobRun false 2).list[(0 : Nat)]? = some ⟨0, .fresh 0 true⟩ ∧ s.hou.heads[(3 : HeadId)].device = .ready ∧
       set110.heads[(3 : HeadId)] ≠ .pending ∧ { set110 with heads := tabulate fun _ => .pending }.heads[(3 : HeadId)] = .pending) ∧
    (jobRun false 2).formats[(0 : FormatId)] = some [.number .own .zero] ∧
    refersUnnumbered { set110 with entries := [⟨0, some 0, .unnumbered⟩] } 0 [.number .own .zero] = true ∧
    (insertWaiting ⟨111, 3, ⟨110, []⟩⟩ [⟨110, 9, ⟨109, []⟩⟩, ⟨111, 2, ⟨110, []⟩⟩, ⟨111, 4, ⟨110, []⟩⟩]).map WaitingOrder.head =
      [9, 2, 3, 4] ∧
    (set205.numberOf 3 = some ⟨417, none, .fresh, 0⟩ ∧ (jobStrings.rootOf 3).map Sequence.digits = some 7) ∧
    (handing.hou.heads[(2 : HeadId)].placement = some ⟨1, 0, 1⟩ ∧ handing.hou.heads[(3 : HeadId)].placement = none) ∧
    (handing.hou.transmit.head?.map WaitingOrder.boundary = some handing.wpu.cycle ∧
      expiring.hou.transmit.head?.map WaitingOrder.boundary ≠ some expiring.wpu.cycle) := by
  set_option maxRecDepth 20000 in decide

/-- An order of a hand-over with a send in front of every head. -/
theorem witness_OrdersIssued_handOver :
    (HouStep.link .chooses :: (List.finRange 24).map .head).Perm
      ((List.finRange 24).map .head ++ [LinkStep.chooses].map .link) :=
  (List.perm_append_singleton ..).symm

/-- Set 100 at age Q with a lane AWAITING, beside a set that is not at that age. -/
theorem witness_WindowClosed :
    RunSound (inspecting .awaiting) ∧ (inspecting .awaiting).wpu.cycle - BitVec.ofNat 32 10 = 100 ∧
      (inspecting .awaiting).wpu.cycle + 1 - BitVec.ofNat 32 12 ≠ 100 ∧
      (RunSound (running false true none) ∧ set110 ∈ (running false true none).st.ring ∧
        (running false true none).wpu.cycle + 1 - BitVec.ofNat 32 12 ≠ set110.tag) := by
  set_option maxRecDepth 20000 in
    exact ⟨runSound_of (by decide) (by decide) (by decide) (by decide) (by decide) (by decide), by decide, by decide,
      runSound_of (by decide) (by decide) (by decide) (by decide) (by decide) (by decide), by decide, by decide⟩

/-- A gate asserted and released, a lane rejected and not, on a line that holds the gate. -/
theorem witness_GatesFollowRetiringSet :
    (setAtAge { life111 with wpu := { at_ 0 with cycle := 112 } } 12 = some set100 ∧ setAtAge life111 12 = none) ∧
    (set100.lanes[(1 : Nat)]?.map LanePart.reasons = some 1 ∧ set100.lanes[(0 : Nat)]?.map LanePart.reasons = some 0) ∧
    (life111.st.gates[(1 : LaneId)] = .released ∧ Gate.asserted 7 none ≠ .released) ∧
    (State.reset.lm.lines.set 3 { Line.reset with function := .gate 1 })[(3 : LineId)].function = .gate 1 := by
  set_option maxRecDepth 20000 in decide

/-- The entries of set 100 in its good lane and in the other; a reprint and a repeat; runs that merge, at 65534 values and
not at 65535. -/
theorem witness_GoodNumberIssued :
    (set100.entries[(0 : Nat)]? = some ⟨0, some 0, .numbered ⟨4200517, some 9, .fresh, 0⟩⟩ ∧
      (set100.lanes[(0 : Nat)]?.map LanePart.reasons) = some 0 ∧ life111.slots[(0 : SlotId)].isSome = true ∧
      (sequenceOf life111 0 0).isSome = true ∧
      life111.ij.merge 0 417 (.issuedRun 0 1 4200517 4200517 1 1) = none) ∧
    (∀ n ∈ [2, 65534, 65535], ∀ b ∈ [RecordBody.voidRun 0 5 6 n 1, .issuedRun 0 2 5 6 n 1],
      let j : Journal := { State.reset.ij with records := [⟨0, 7, 0, b, false⟩], next := 1, tail := some ⟨true, 0⟩ }
      j.tail = some ⟨true, 0⟩ ∧ j.records.getLast? = some ⟨0, 7, 0, b, false⟩) := by
  set_option maxRecDepth 4000 in decide

theorem witness_SpoiledNumberDisposed :
    life111.slots[(0 : SlotId)].isSome = true ∧
      (sequenceOf life111 0 0) = some { seqLife 4200541 with drawn := 2, held := 2 } := by decide

/-- A journal of two records, the older READ. -/
def twoRecords : State :=
  { State.reset with ij := { State.reset.ij with
      records := [⟨4294967295, 7, 0, .flushed 0, true⟩, ⟨0, 7, 0, .flushed 0, false⟩], next := 1, tail := some ⟨false, 0⟩ } }

/-- Indices that wrap: the oldest held, the next, and one that is not held. -/
theorem witness_JournalReadAndReleased :
    twoRecords.ij.indexed ∧ twoRecords.ij.records.length ≤ 1024 ∧
    twoRecords.ij.records[(0 : Nat)]? = some ⟨4294967295, 7, 0, .flushed 0, true⟩ ∧
    (∀ i ∈ [4294967295, 1, 2], Waits 0 (.readJournal 0 i 1) (front 0 (.readJournal 0 i 1) twoRecords)) ∧
    (∀ r ∈ twoRecords.ij.records, r.index.toNat ≠ 2) ∧ twoRecords.ij.next.toNat ≠ 2 := by
  refine ⟨?_, by decide, rfl, fun i _ => waits _ _ _ rfl rfl (by decide) (by decide) rfl, by decide, by decide⟩
  intro i r h
  match i, h with
  | 0, h => cases h; decide
  | 1, h => cases h; decide

/-- A release of a journal whose oldest record is READ. -/
theorem witness_JournalReadAndReleased_release : Waits 0 (.releaseJournal 0 0) (front 0 (.releaseJournal 0 0) twoRecords) :=
  waits _ _ _ rfl rfl (by decide) (by decide)

/-- A free slot, a BUILDING job that passes its checks and one that fails one, and a READY job. -/
theorem witness_ContextBuilt :
    (Waits 0 (.openContext 0 3 99999 4 1 7) (front 0 (.openContext 0 3 99999 4 1 7) (holding (jobIn .ready))) ∧
      (holding (jobIn .ready)).slots[(3 : SlotId)] = none ∧
      ∀ j : SlotId, ((holding (jobIn .ready)).slots[j].all fun c => c.job != 99999) = true) ∧
    Waits 0 (.discard 0 0) (front 0 (.discard 0 0) (holding (jobIn .building))) ∧
    Waits 0 (.closeBuild 0 0) (front 0 (.closeBuild 0 0) (holding (jobIn .building))) ∧
    (jobIn .building).buildFailure = none ∧
    { jobIn .building with list := [⟨1, .fresh 0 true⟩] }.buildFailure = some (1, 0) ∧
    (Waits 0 (.reopen 0 0) (front 0 (.reopen 0 0) (holding (jobIn .ready))) ∧
      NotPending 0 (front 0 (.reopen 0 0) (holding (jobIn .ready)))) :=
  ⟨⟨waits _ _ _ rfl rfl (by decide) (by decide), by decide, by decide⟩, waits _ _ _ rfl rfl (by decide) (by decide),
   waits _ _ _ rfl rfl (by decide) (by decide), by decide, by decide, waits _ _ _ rfl rfl (by decide) (by decide),
   notPending_of_none rfl⟩

/-- A press fitted for job 7: lags, encoder lines and its gate line. -/
def fitted (j : JobState) : State :=
  { press (at_ 0) with
    slots := (holding (jobIn j)).slots,
    st := { State.reset.st with merge := 1, inspect := 1, gateLag := 3 },
    ij := { State.reset.ij with reserved := 1023 },
    lm := { (press (at_ 0)).lm with
      lines := (press (at_ 0)).lm.lines.set 3 { Line.reset with function := .gate 0, level := false } } }

/-- NEXT, the furthest cycle ahead, and a withdrawal. -/
theorem witness_ActivationPendingAndWithdrawn :
    (Waits 0 (.activate 0 0 none) (front 0 (.activate 0 0 none) (fitted .ready)) ∧
      pressFailure (fitted .ready) (jobIn .ready) = none ∧ 1 ≤ (fitted .ready).ij.unreserved ∧
      (∀ j : SlotId, slotState (fitted .ready) j ≠ some .draining) ∧ (fitted .ready).activation = none) ∧
    (Waits 0 (.activate 0 0 (some 2147483647)) (front 0 (.activate 0 0 (some 2147483647)) (fitted .parked)) ∧
      pressFailure (fitted .parked) (jobIn .parked) = none ∧
      ((2147483647 : Cycle) - (fitted .parked).wpu.cycle).toNat < 2 ^ 31) ∧
    Waits 0 (.cancelActivation 0)
      (front 0 (.cancelActivation 0) { fitted .ready with activation := some ⟨0, 9, .ready⟩ }) ∧
    Waits 0 (.cancelActivation 0) (front 0 (.cancelActivation 0) (fitted .ready)) :=
  ⟨⟨waits _ _ _ rfl rfl (by decide) (by decide), by set_option maxRecDepth 20000 in decide, by decide, by decide, rfl⟩,
   ⟨waits _ _ _ rfl rfl (by decide) (by decide), by set_option maxRecDepth 20000 in decide, by decide⟩,
   waits _ _ _ rfl rfl (by decide) (by decide), waits _ _ _ rfl rfl (by decide) (by decide)⟩

/-- An ACTIVE context with nothing in flight, with one set in flight, with another context DRAINING beside it, and a flush. -/
theorem witness_SuspendAndFlush :
    Waits 0 (.suspend 0 0) (front 0 (.suspend 0 0) (holding (jobIn .active))) ∧
    (Waits 0 (.suspend 0 0) (front 0 (.suspend 0 0) (holding { jobIn .active with inFlight := 1 })) ∧
      ∀ j : SlotId, j ≠ 0 → slotState (holding { jobIn .active with inFlight := 1 }) j ≠ some .draining) ∧
    (let s := { holding { jobIn .active with inFlight := 1 } with
        slots := (holding { jobIn .active with inFlight := 1 }).slots.set 3 (some (jobIn .draining)) }
     Waits 0 (.suspend 0 0) (front 0 (.suspend 0 0) s) ∧ slotState s 3 = some .draining) ∧
    Waits 0 (.flush 0 0) (front 0 (.flush 0 0) (holding (jobIn .draining))) :=
  ⟨waits _ _ _ rfl rfl (by decide) (by decide), ⟨waits _ _ _ rfl rfl (by decide) (by decide), by decide⟩,
   ⟨waits _ _ _ rfl rfl (by decide) (by decide), by decide⟩, waits _ _ _ rfl rfl (by decide) (by decide)⟩

/-- One value queued and exactly two records free. -/
theorem witness_JobEnded :
    let s := front 0 (.endJob 0 0) { holding jobQueued with ij := { State.reset.ij with reserved := 1022 } }
    Waits 0 (.endJob 0 0) s ∧ s.slots[(0 : SlotId)] = some jobQueued ∧ jobQueued.state = .parked ∧ NotPending 0 s ∧
      busySlotOf s.background ≠ some 0 ∧ jobQueued.queuedCount + 1 ≤ s.ij.unreserved :=
  ⟨waits _ _ _ rfl rfl (by decide) (by decide), rfl, rfl, notPending_of_none rfl, by decide, by decide⟩

/-- A frozen function while nothing runs, a general one while a job runs, the held function of an output that the outside
holds, and a write. -/
theorem witness_LinesAssignedAndWritten :
    (Waits 0 (.assignLine 0 23 14 0) (front 0 (.assignLine 0 23 14 0) State.reset) ∧ NothingRuns State.reset ∧
      ∀ j : LineId, j ≠ 23 → State.reset.lm.lines[j].function ≠ .gate 3) ∧
    (Waits 0 (.assignLine 0 0 1 1) (front 0 (.assignLine 0 0 1 1) (holding (jobIn .active))) ∧
      (holding (jobIn .active)).lm.lines[(0 : LineId)].function.isFrozen = false ∧ LineFunction.genOut.isGeneral = true) ∧
    (Waits 0 (.assignLine 0 1 1 0) (front 0 (.assignLine 0 1 1 0) heldOut) ∧ lineDrive heldOut 1 = some true ∧
      heldOut.lm.lines[(1 : LineId)].function = .genOut ∧ heldOut.lm.lines[(1 : LineId)].level = false) ∧
    Waits 0 (.writeLines 0 16777215 0) (front 0 (.writeLines 0 16777215 0) State.reset) :=
  ⟨⟨waits _ _ _ rfl rfl (by decide) (by decide), nothingRuns_reset, by set_option maxRecDepth 4000 in decide⟩,
   ⟨waits _ _ _ rfl rfl (by decide) (by decide), by decide, rfl⟩,
   ⟨waits _ _ _ rfl rfl (by decide) (by decide), by decide, by decide, by decide⟩,
   waits _ _ _ rfl rfl (by decide) (by decide)⟩

/-- OPERATOR_STOP CLEAR and LATCHED; JOURNAL_HIGH at 128 and at 127 free records. -/
theorem witness_StopCausesSetAndCleared :
    (Waits 0 (.setStop 0) (front 0 (.setStop 0) State.reset) ∧ State.reset.lm.stops.getLsbD 4 = false) ∧
    (let s := { State.reset with lm := { State.reset.lm with stops := 16 } }
     Waits 0 (.setStop 0) (front 0 (.setStop 0) s) ∧ s.lm.stops.getLsbD 4 = true) ∧
    (let s := { State.reset with lm := { State.reset.lm with stops := 2 }, ij := { State.reset.ij with reserved := 896 } }
     Waits 0 (.clearStop 0 1) (front 0 (.clearStop 0 1) s) ∧ s.lm.stops.getLsbD 1 = true ∧ 128 ≤ s.ij.unreserved) ∧
    (let s := { State.reset with lm := { State.reset.lm with stops := 2 }, ij := { State.reset.ij with reserved := 897 } }
     Waits 0 (.clearStop 0 1) (front 0 (.clearStop 0 1) s) ∧ s.lm.stops.getLsbD 1 = true ∧ ¬128 ≤ s.ij.unreserved) ∧
    Waits 0 (.clearStop 0 4) (front 0 (.clearStop 0 4) State.reset) :=
  ⟨⟨waits _ _ _ rfl rfl (by decide) (by decide), by decide⟩, ⟨waits _ _ _ rfl rfl (by decide) (by decide), by decide⟩,
   ⟨waits _ _ _ rfl rfl (by decide) (by decide), by decide, by decide⟩,
   ⟨waits _ _ _ rfl rfl (by decide) (by decide), by decide, by decide⟩, waits _ _ _ rfl rfl (by decide) (by decide)⟩

theorem witness_RolesAndNoticesSet :
    (Waits 0 (.setRole 0 3 3) (front 0 (.setRole 0 3 3) State.reset) ∧
      ∀ k : SlotId, slotState State.reset k ≠ some .active ∧ slotState State.reset k ≠ some .draining) ∧
    Waits 0 (.setNotices 0 63) (front 0 (.setNotices 0 63) State.reset) :=
  ⟨⟨waits _ _ _ rfl rfl (by decide) (by decide), by decide⟩, waits _ _ _ rfl rfl (by decide) (by decide)⟩

/-- Each read on port A: a set that is held and one that is not, a sequence that is defined and one that is not, a context
and an EMPTY slot. -/
theorem witness_ReadsAnswerAndChangeNothing :
    (setTagged life111 100 = some set100 ∧ setTagged life111 101 = none ∧ life111.slots[(0 : SlotId)].isSome = true ∧
      sequenceOf life111 0 1 = none ∧ life111.slots[(3 : SlotId)] = none) ∧
    (∀ c ∈ [Instr.readStatus 0, .readSet 0 100 (some 2), .readSet 0 101 none, .readSequence 0 0 0 none, .readQueue 0 0 1 none,
        .readContext 0 0 3 (some 7), .readContext 0 3 0 none, .readHead 0 23, .readRegistration 0 (some 2), .readLines 0,
        .readBackground 0],
      ∃ k, requestCode c = some k ∧ Waits 0 c (front 0 c life111)) := by
  refine ⟨by decide, ?_⟩
  intro c hc
  simp only [List.mem_cons, List.not_mem_nil, or_false] at hc
  rcases hc with h | h | h | h | h | h | h | h | h | h | h <;> subst h <;>
    exact ⟨_, rfl, waits _ _ _ rfl rfl (by decide) (by decide)⟩

/-- An unplaced head, the order for set 97 at its deadline, and a cycle at which no order of the head falls due. -/
theorem witness_OrdersSettled :
    (heads .ready).hou.heads[(0 : HeadId)].placement = none ∧
    (heads .ready).hou.heads[(3 : HeadId)] = head3 .ready ∧
    (∃ o ∈ (head3 .ready).queue, o.tag = (heads .ready).wpu.cycle - BitVec.ofNat 32 (2 + 1)) ∧
    ∀ o ∈ (head3 .ready).queue, o.tag ≠ (99 : Cycle) - BitVec.ofNat 32 (2 + 1) := by decide

theorem witness_OrdersSettled_completion :
    (heads .ready).hou.heads[(3 : HeadId)] = head3 .ready ∧ (∃ o ∈ (head3 .ready).queue, o.tag = 98) ∧
      ∀ o ∈ (head3 .ready).queue, o.tag ≠ 99 := by decide

theorem witness_HeadReportsTaken :
    (heads .ready).hou.heads[(3 : HeadId)].device = .ready ∧ (heads .offline).hou.heads[(3 : HeadId)].device ≠ .ready := by
  decide

/-- The last byte of a body, a LEN of 0, and the last check byte of COMPLETION, STATE and another body. -/
theorem witness_HeadLinkReceives :
    (Receiver.body 1 []).step 3 = .within (.check [3] none) ∧ Receiver.length.step 0 = .ended .garbled ∧
    (∀ body ∈ [[2, 23, 0, 0, 0, 7, 1], [3, 0, 0], [3, 24, 0]],
      ∃ h l, be 2 (crc (byte body.length :: body)).toNat = [h, l] ∧
        (Receiver.check body (some h)).step l = .ended (.sound body)) := by
  refine ⟨by decide, by decide, ?_⟩
  intro body _
  refine ⟨_, _, rfl, ?_⟩
  simp [Receiver.step, be]

/-- A waiting order and a waiting response on free lines, a busy line, and a frame that ends. -/
theorem witness_FramesSentInOrder :
    ({ State.reset with hou := { State.reset.hou with transmit := [⟨1, 3, ⟨97, [0x30]⟩⟩] } } : State).hou.sending = none ∧
    State.reset.hou.transmit = [] ∧
    ({ Port.reset .monitor with out := [⟨true, [0xA6, 0, 0]⟩], overrun := true } : Port).sending = none ∧
    (Port.reset .monitor).out = [] ∧
    ({ Port.reset .monitor with sending := some ⟨[0xC5], true⟩ } : Port).sending = some ⟨[0xC5], true⟩ := by decide

/-- Bodies of 1 and 128 bytes; a receiver within a frame and one that hunts; a byte within and one that ends a frame. -/
theorem witness_PortReceives :
    (1 ≤ ([0x26] : List Byte).length ∧ (List.replicate 128 (0 : Byte)).length ≤ 128) ∧
    State.reset.ports[(0 : PortId)].receiver = .hunting ∧ Receiver.hunting.step 0xC5 = .within .length ∧
    Receiver.length ≠ .hunting ∧ Receiver.length.step 0 = .ended .garbled :=
  ⟨by simp, rfl, by decide, by simp, by decide⟩

/-- A garbled frame; an unknown code, a known code of the role with a wrong length, and a known code outside it. -/
theorem witness_BadFramesAndRolesAnswered :
    nextFrame [⟨.garbled, true⟩, ⟨.garbled, false⟩] = some .garbled ∧
    parseRequest 0 [0x2A] = none ∧ isRequestCode 0x2A = false ∧
    parseRequest 0 [0x26, 0] = none ∧ isRequestCode 0x26 = true ∧ Role.supervisor.admits 0x26 = true ∧
    parseRequest 0 [0x15] = none ∧ isRequestCode 0x15 = true ∧ Role.supervisor.admits 0x15 = false := by decide

/-- One request outside each role. -/
theorem witness_BadFramesAndRolesAnswered_role :
    AtFront 0 (.reportDefect 0 1 1) (front 0 (.reportDefect 0 1 1) State.reset) ∧
    portOf (.reportDefect 0 1 1) = some 0 ∧ requestCode (.reportDefect 0 1 1) = some 0x16 ∧
    State.reset.ports[(0 : PortId)].role = .supervisor ∧
    AtFront 1 (.setRole 1 0 1) (front 1 (.setRole 1 0 1) State.reset) ∧ requestCode (.setRole 1 0 1) = some 0x28 ∧
    State.reset.ports[(1 : PortId)].role = .monitor ∧
    (∀ r ∈ [Role.drive, .inspect], r.admits 0x28 = false) :=
  ⟨front_atFront _ _ _, rfl, rfl, rfl, front_atFront _ _ _, rfl, rfl, by decide⟩

/-- Behind another frame; with two taken frames; with no frame; a body longer than a frame. -/
theorem witness_RequestsWaitTheirTurn :
    portOf (.setStop 0) = some 0 ∧
    (nextFrame [⟨.garbled, false⟩] = some .garbled ∧ RxFrame.garbled ≠ .sound (encodeRequest (.setStop 0))) ∧
    (nextFrame [⟨.garbled, true⟩, ⟨.garbled, true⟩] = none) ∧ nextFrame [⟨.garbled, true⟩] = none ∧
    nextFrame State.reset.ports[(0 : PortId)].buffer = none ∧
    128 < (encodeRequest (.defineMarks 0 0 1 0 (List.replicate 60 1) 0)).length ∧
    parseRequest 0 [0] = none ∧ nextFrame [⟨.sound [0], false⟩] = some (.sound [0]) := by
  set_option maxRecDepth 4000 in decide

/-- A read that a boundary may take within, a withdrawal, a read that it may not take and a request that is no read, each at
the front of its port. -/
theorem witness_RequestsWaitTheirTurn_within :
    (∀ c ∈ [Instr.readQueue 0 0 0 none, .withdrawReprint 0 0 0 5, .readSet 0 0 none, .setStop 0],
      portOf c = some 0 ∧ c.wf = true ∧ AtFront 0 c (front 0 c State.reset)) ∧
    requestCode (.readQueue 0 0 0 none) = some 0x33 ∧ requestCode (.withdrawReprint 0 0 0 5) = some 0x19 ∧
    requestCode (.readSet 0 0 none) = some 0x31 ∧
    (requestCode (.setStop 0)).any (fun k => decide (k ∉ [0x19, 0x32, 0x33, 0x34, 0x37, 0x38, 0x39])) = true := by
  refine ⟨fun c hc => ?_, rfl, rfl, rfl, by decide⟩
  fin_cases hc <;> exact ⟨rfl, by decide, front_atFront _ _ _⟩

/-- Requests with every parameter at the top of its bytes. -/
theorem witness_RequestRoundTrip :
    (Instr.addExclusion 3 255 255 1099511627775 1099511627775).wf = true ∧
    portOf (.addExclusion 3 255 255 1099511627775 1099511627775) = some 3 ∧
    (Instr.defineSequence 0 255 255 255 1099511627775 0 (-32768) 255 255).wf = true ∧
    (Instr.defineFormat 1 0 0 [.literal [0x41], .number 255 255, .check 255, .lane, .ply, .job]).wf = true := by decide

theorem witness_FrameReceivedWhole :
    (List.replicate 128 (0xC5 : Byte)).length ≤ 128 ∧ State.reset.ports[(3 : PortId)].receiver = .hunting :=
  ⟨by simp, rfl⟩

theorem running_orders : OrdersSound (running false true none) := by
  set_option maxRecDepth 20000 in
  refine ⟨fun h p hp => of_all (p := fun p : Placement => 1 ≤ p.lag ∧ p.lag ≤ 60) ((by decide : ∀ h : HeadId,
      ((running false true none).hou.heads[h].placement.all fun p => decide (1 ≤ p.lag ∧ p.lag ≤ 60)) = true) h) hp,
    fun k c h hc _ ha => ?_, fun h o ho => ?_, by decide, fun w hw => ?_, by decide⟩
  · have h3 : h = 3 := all_slots (s := running false true none)
      (p := fun _ c => ∀ h : HeadId, c.assignments[h].isSome = true → h = 3) (by decide) k c hc h ha
    subst h3
    exact ⟨⟨1, 0, 2⟩, by decide⟩
  · have h3 : h = 3 ∧ o = ⟨110, [0x30]⟩ := (by decide : ∀ h : HeadId,
      ∀ o ∈ (running false true none).hou.heads[h].queue, h = 3 ∧ o = ⟨110, [0x30]⟩) h o ho
    obtain ⟨rfl, rfl⟩ := h3
    exact ⟨⟨1, 0, 2⟩, set110, by decide⟩
  · have h3 : w = ⟨111, 3, ⟨110, [0x30]⟩⟩ := by simpa [running] using hw
    subst h3
    exact ⟨by decide, ⟨1, 0, 2⟩, by decide⟩

theorem all_sequences (k : SlotId) (q : SeqId) (x : Sequence) (h : sequenceOf (running false true none) k q = some x) :
    x.drawn = x.issued + x.voided + x.queued + x.held ∧ x.queue = [] ∧ x.queued = 0 := by
  set_option maxRecDepth 20000 in
  exact of_all (p := fun x : Sequence => x.drawn = x.issued + x.voided + x.queued + x.held ∧ x.queue = [] ∧ x.queued = 0)
    ((by decide : ∀ (k : SlotId) (q : SeqId), ((sequenceOf (running false true none) k q).all fun x =>
      decide (x.drawn = x.issued + x.voided + x.queued + x.held ∧ x.queue = [] ∧ x.queued = 0)) = true) k q) h

/-- A state of a run that meets every invariant and takes a step. -/
theorem witness_invariants :
    let s := running false true none
    (∃ t, step s = .next t) ∧ RunSound s ∧ SpaceSound s ∧ OrdersSound s ∧ ExclusionsSound s ∧ JournalSound s ∧
      CountersBalance s ∧ QueuesSound s ∧ WebInRange s ∧ OneSupervisor s ∧ LinesUnique s ∧ PortsBounded s ∧
      s.hou.receiver.sound := by
  set_option maxRecDepth 20000 in
  refine ⟨⟨_, rfl⟩, runSound_of (by decide) (by decide) (by decide) (by decide) (by decide) (by decide),
    ⟨by decide, by decide, by decide, by decide, by decide, by decide⟩, running_orders, fun k c hc => ?_,
    ⟨fun i r h => ?_, by decide, fun t r ht hr => ?_⟩, fun k q x hx => ?_, fun k q x hx => ?_,
    by unfold WebInRange Wpu.inRange; decide, by unfold OneSupervisor; decide, by unfold LinesUnique; decide,
    fun p => by fin_cases p <;> exact ⟨by decide, by decide, by decide, trivial⟩, trivial⟩
  · have h := all_slots (s := running false true none) (p := fun _ c => c.exclusions.length ≤ 16 ∧
      c.exclusions.Pairwise (fun a b => a.sequence < b.sequence ∨ a.sequence = b.sequence ∧ a.high < b.low) ∧
      ∀ r ∈ c.exclusions, r.low ≤ r.high ∧
        (c.sequences[r.sequence].any fun x => decide (x.lo ≤ r.low ∧ r.high ≤ x.hi)) = true) (by decide) k c hc
    refine ⟨h.1, h.2.1, fun r hr => ⟨(h.2.2 r hr).1, ?_⟩⟩
    simpa [Option.any_eq_true] using (h.2.2 r hr).2
  · match i, h with
    | 0, h => cases h; decide
    | _ + 1, h => simp [running] at h
  · cases ht; intro ho; cases ho
  · exact (all_sequences k q x hx).1
  · obtain ⟨-, h, hq⟩ := all_sequences k q x hx
    exact ⟨by simp [h], by simp [h, hq], by simp [h]⟩

/-- Every output line shows its drive where all are GEN_IN, and a tick is no forced level. -/
theorem witness_OutputsShowTheirDrive :
    (∀ i : LineId, lineDrive State.reset i = none) ∧
    ∀ (i : LineId) (v : Bool), Instr.edgeAgeTick ≠ .fieldLineLevelChange i v :=
  ⟨by set_option maxRecDepth 4000 in decide, fun _ _ => by simp⟩

end Sys2Proof.Tests
end

section
/-! PROOFS. What a step can do to the job contexts: every change of the slot table is a run of a few kinds of moves of
sequences, contexts and slots. What each move keeps, every step keeps. -/

namespace Sys2Proof.Machine

/-! ## The moves -/

/-- What can happen to a defined sequence: the moves of R2 and R138 between its counters, a draw (R15, R16) and
LOAD_VALUE (R6). -/
inductive SequenceMove (x : Sequence) : Sequence → Prop
  | drawn (v : Nat) (w : Bool) : SequenceMove x (x.commit v w).countHeld
  | skipped (v : Nat) (w : Bool) : SequenceMove x (x.commit v w).countSkipped
  | exhausted : SequenceMove x x.exhaust
  | issued : SequenceMove x x.heldToIssued
  | voided : SequenceMove x x.heldToVoided
  | requeued (e : QueueEntry) :
    x.queue.length < 32 → (∀ d ∈ x.queue, d.value ≠ e.value) → SequenceMove x (x.requeue e)
  | reprinted : x.queue ≠ [] → SequenceMove x x.takeOldest
  | withdrawn (e : QueueEntry) : e ∈ x.queue → SequenceMove x (x.withdraw e.value)
  | loaded (v : Int) : SequenceMove x (x.load v)

/-- What can happen to a context that stays: its numbers are kept, one of its sequences moves or is defined anew, or its
exclusion table gains or loses a range (R5, R9, R10). -/
inductive ContextMove (c : Context) : Context → Prop
  | numbersKept (d : Context) : d.sequences = c.sequences → d.exclusions = c.exclusions → ContextMove c d
  | sequence (q : SeqId) (f : Sequence → Sequence) :
    (∀ x, c.sequences[q] = some x → SequenceMove x (f x)) → ContextMove c (c.modifySequence q f)
  | defined (q : SeqId) (digits first last : Nat) (step : Int) (e : EndPolicy) (h : CheckScheme) :
    ContextMove c (c.define q (freshSequence digits first last step e h))
  | excluded (q : SeqId) (a b : Nat) (x : Sequence) :
    c.sequences[q] = some x → a ≤ b → x.lo ≤ a → b ≤ x.hi → (∀ r ∈ c.rangesOf q, r.overlaps a b = false) →
    c.exclusions.length < 16 →
    ContextMove c { c with exclusions := insertRange { sequence := q, low := a, high := b } c.exclusions }
  | readmitted (p : Exclusion → Bool) : ContextMove c { c with exclusions := c.exclusions.eraseP p }

/-- The slot table. -/
abbrev Slots := Vector (Option Context) 4

/-- What can happen to the slot table: a context moves, is opened or goes, or a device reset empties every slot. -/
inductive SlotsMove (v : Slots) : Slots → Prop
  | changed (k : SlotId) (f : Context → Context) :
    (∀ c, v[k] = some c → ContextMove c (f c)) → SlotsMove v (updateAt v k (Option.map f))
  | opened (k : SlotId) (job lanes : Nat) (policy : SpoilPolicy) (limit : Nat) :
    SlotsMove v (v.set k (some (openedContext job lanes policy limit)))
  | emptied (k : SlotId) : SlotsMove v (v.set k none)
  | reset : SlotsMove v State.reset.slots

/-- The slot table comes from another one by moves. -/
def SlotsReach : Slots → Slots → Prop := Relation.ReflTransGen SlotsMove

theorem SlotsReach.of_eq {v w : Slots} (h : w = v) : SlotsReach v w := h ▸ .refl

theorem SlotsReach.trans {u v w : Slots} (h : SlotsReach u v) (g : SlotsReach v w) : SlotsReach u w :=
  Relation.ReflTransGen.trans h g

theorem SlotsMove.reach {v w : Slots} (h : SlotsMove v w) : SlotsReach v w := .single h

/-- What every move of a context keeps and an opened context has, every reachable slot table keeps. -/
theorem SlotsReach.keeps {P : Context → Prop} (hm : ∀ c d, ContextMove c d → P c → P d)
    (ho : ∀ job lanes policy limit, P (openedContext job lanes policy limit)) {v w : Slots} (h : SlotsReach v w)
    (hv : ∀ (k : SlotId) (c : Context), v[k] = some c → P c) : ∀ (k : SlotId) (c : Context), w[k] = some c → P c := by
  induction h with
  | refl => exact hv
  | tail _ hmove ih =>
    intro j d hd
    cases hmove with
    | changed k f hf =>
      simp only [Fin.getElem_fin, updateAt_getElem] at hd
      split at hd
      · rename_i hkj
        obtain ⟨c, hc, rfl⟩ := Option.map_eq_some_iff.mp hd
        obtain rfl := Fin.ext hkj
        exact hm _ _ (hf c hc) (ih k c hc)
      · exact ih j d hd
    | opened k job lanes policy limit =>
      simp only [Fin.getElem_fin, Vector.getElem_set] at hd
      split at hd
      · cases hd; exact ho ..
      · exact ih j d hd
    | emptied k =>
      simp only [Fin.getElem_fin, Vector.getElem_set] at hd
      split at hd
      · cases hd
      · exact ih j d hd
    | reset => simp [State.reset] at hd

/-! ## Rules for the shared operations -/

theorem modifyContext_reach {k : SlotId} {f : Context → Context} {s : State}
    (h : ∀ c, s.slots[k] = some c → ContextMove c (f c)) : SlotsReach s.slots (modifyContext k f s).slots :=
  (SlotsMove.changed k f h).reach

/-- A change of a context beside its sequences and its exclusion table. -/
theorem modifyContext_reach_of_kept {k : SlotId} {f : Context → Context} (s : State)
    (hq : ∀ c, (f c).sequences = c.sequences) (hx : ∀ c, (f c).exclusions = c.exclusions) :
    SlotsReach s.slots (modifyContext k f s).slots :=
  modifyContext_reach fun c _ => .numbersKept _ (hq c) (hx c)

theorem modifySequence_reach {k : SlotId} {q : SeqId} {f : Sequence → Sequence} {s : State}
    (h : ∀ c x, s.slots[k] = some c → c.sequences[q] = some x → SequenceMove x (f x)) :
    SlotsReach s.slots (modifySequence k q f s).slots :=
  modifyContext_reach fun c hc => .sequence q f fun x hx => h c x hc hx

/-- A sequence that is there moves. -/
theorem modifySequence_reach_of_some {k : SlotId} {q : SeqId} {f : Sequence → Sequence} {s : State} {c : Context}
    {x : Sequence} (hc : s.slots[k] = some c) (hx : c.sequences[q] = some x) (h : SequenceMove x (f x)) :
    SlotsReach s.slots (modifySequence k q f s).slots :=
  modifySequence_reach fun c' x' hc' hx' => by
    obtain rfl : c = c' := Option.some.inj (hc.symm.trans hc')
    obtain rfl : x = x' := Option.some.inj (hx.symm.trans hx')
    exact h

theorem setSlot_none_reach (k : SlotId) (s : State) : SlotsReach s.slots (setSlot k none s).slots :=
  (SlotsMove.emptied k).reach

theorem enter_reach (k : SlotId) (j : JobState) (s : State) :
    SlotsReach s.slots (modifyContext k (Context.enter j) s).slots :=
  modifyContext_reach_of_kept s (fun _ => rfl) fun _ => rfl

/-- A fold whose every step is a run of moves is one. -/
theorem foldl_reach {σ α : Type} (f : σ → Slots) {g : σ → α → σ} (h : ∀ s x, SlotsReach (f s) (f (g s x)))
    (l : List α) (s : σ) : SlotsReach (f s) (f (l.foldl g s)) := by
  induction l generalizing s with
  | nil => exact .refl
  | cons x xs ih => exact (h s x).trans (ih _)

theorem parkContext_reach (k : SlotId) (s : State) : SlotsReach s.slots (parkContext k s).slots := by
  unfold parkContext
  split
  · exact .refl
  · simpa using enter_reach k .parked s

/-! ## The boundary's blocks -/

theorem Settling.write_state_slots (slot : SlotId) (job : Nat) (b : RecordBody) (a : Settling) :
    (a.write slot job b).state.slots = a.state.slots := by
  simp

/-- A good lane's number moves from held to issued (R123). -/
theorem issueNumber_reach (slot : SlotId) (q : SeqId) (lane : LaneId) (n : Number) (a : Settling) :
    SlotsReach a.state.slots (issueNumber slot q lane n a).state.slots := by
  unfold issueNumber
  split
  · exact .refl
  · split
    · exact .refl
    · refine .trans (.of_eq ?_) (modifySequence_reach fun _ _ _ _ => .issued)
      simp

/-- A number is requeued only where its queue has room and does not hold it (R128). -/
theorem dispose_requeued {policy : SpoilPolicy} {limit spoil v : Nat} {queue : List QueueEntry}
    (h : dispose policy limit spoil queue v = .requeued) : queue.length < 32 ∧ ∀ e ∈ queue, e.value ≠ v := by
  unfold dispose at h
  split at h
  · cases h
  · split at h
    · cases h
    · split at h
      · cases h
      · rename_i hroom
        simpa using hroom

/-- A rejected lane's number moves from held to queued or voided (R128, R129). -/
theorem spoilNumber_reach (slot : SlotId) (q : SeqId) (lane : LaneId) (why : Reason) (tag : Cycle) (n : Number)
    (a : Settling) : SlotsReach a.state.slots (spoilNumber slot q lane why tag n a).state.slots := by
  unfold spoilNumber
  split
  · exact .refl
  · rename_i c hc
    split
    · exact .refl
    · rename_i x hx
      extract_lets spoil d w f
      have hw : w.state.slots = a.state.slots := Settling.write_state_slots ..
      refine .trans (.of_eq hw) (modifySequence_reach_of_some (hw ▸ hc) hx ?_)
      simp only [f]
      generalize hd : d = e
      cases e with
      | requeued => exact .requeued _ (dispose_requeued hd).1 (dispose_requeued hd).2
      | voided | voidedQueueFull | voidedLimit => exact .voided

theorem settleEntry_reach (r : SetRecord) (lane : LaneId) (part : LanePart) (a : Settling) (e : EntryPart) :
    SlotsReach a.state.slots (settleEntry r lane part a e).state.slots := by
  unfold settleEntry
  split
  · exact .refl
  · split
    · split
      · exact .refl
      · split
        · exact spoilNumber_reach ..
        · exact issueNumber_reach ..
      · split
        · exact spoilNumber_reach ..
        · exact issueNumber_reach ..
    · exact .refl

theorem settleLane_reach (r : SetRecord) (a : Settling) (lane : LaneId) :
    SlotsReach a.state.slots (settleLane r a lane).state.slots := by
  unfold settleLane
  split
  · exact .refl
  · exact foldl_reach (fun a : Settling => a.state.slots) (settleEntry_reach r lane _) _ a

@[simp] theorem ite_notify_slots (b : Prop) [Decidable b] (k : NoticeKind) (p : List Byte) (s : State) :
    (if b then notify k p s else s).slots = s.slots := by
  split <;> rfl

theorem removeSet_reach (r : SetRecord) (a : Settling) : SlotsReach a.state.slots (removeSet r a).slots := by
  have hleft : ∀ u : State, SlotsReach u.slots
      (modifyContext r.slot (fun c => { c with inFlight := c.inFlight - 1 }) u).slots := fun u =>
    modifyContext_reach_of_kept u (fun _ => rfl) fun _ => rfl
  unfold removeSet
  simp only []
  split
  · split
    · refine .trans ?_ (.trans (parkContext_reach r.slot _) (.of_eq (notifyJob_slots ..)))
      simpa using hleft a.state
    · simpa using hleft a.state
  · simpa using hleft a.state

theorem retire_reach (s : State) : SlotsReach s.slots (retire s).slots := by
  unfold retire
  split
  · exact .of_eq (by simp)
  · rename_i r _
    refine .trans ?_ (removeSet_reach r _)
    simpa using foldl_reach (fun a : Settling => a.state.slots) (settleLane_reach r) (List.finRange 4)
      { state := gateStep (some r) s, left := r.reservation }

theorem fillFresh_reach (k : SlotId) (lane : LaneId) (q : SeqId) (x : Sequence) (ranges : List Exclusion) (a : Filling) :
    SlotsReach a.state.slots (fillFresh k lane q x ranges a).state.slots := by
  unfold fillFresh
  split
  · rename_i v w _
    simpa using modifySequence_reach (s := a.state) fun _ _ _ _ => .drawn v w
  · simpa using modifySequence_reach (s := a.state) fun _ _ _ _ => .exhausted

/-- A FRESH entry takes the oldest queued number or a draw; the others take none (R61 to R64). -/
theorem fillEntry_reach (k : SlotId) (a : Filling) (e : AllocEntry) :
    SlotsReach a.state.slots (fillEntry k a e).state.slots := by
  unfold fillEntry
  split
  · exact .refl
  · exact .refl
  · split
    · exact .refl
    · rename_i c hc
      split
      · exact .refl
      · rename_i x hx
        split
        · rename_i hq _
          exact modifySequence_reach_of_some hc hx (.reprinted (by simp [hq]))
        · exact fillFresh_reach ..

theorem numberSet_reach (k : SlotId) (l : List AllocEntry) (s : State) :
    SlotsReach s.slots (numberSet k l s).state.slots := by
  unfold numberSet
  split
  · refine .trans (.of_eq (by simp)) (foldl_reach (fun a : Filling => a.state.slots) (fillEntry_reach k) l
      { state := reserveRecords (freshCount l) s, parts := [], left := freshCount l })
  · exact .refl

theorem allocate_reach (s : State) : SlotsReach s.slots (allocate s).slots := by
  unfold allocate
  split
  · split
    · exact .refl
    · exact (numberSet_reach ..).trans (modifyContext_reach_of_kept _ (fun _ => rfl) fun _ => rfl)
  · exact .refl

theorem demote_reach (k : SlotId) (s : State) : SlotsReach s.slots (demote k s).slots := by
  unfold demote
  split
  · exact .refl
  · split
    · exact enter_reach ..
    · exact parkContext_reach ..

theorem changeover_reach (s : State) : SlotsReach s.slots (changeover s).slots := by
  unfold changeover
  split
  · exact .refl
  · rename_i a _
    split
    · split
      · exact .refl
      · have henter := enter_reach a.slot .active { s with activation := none }
        simp only []
        cases (activeSlot s).filter fun k => k != a.slot with
        | none => simpa using henter
        | some k => simpa using henter.trans (.trans (.of_eq (contextRecord_slots ..)) (demote_reach k _))
    · exact .refl

theorem suspension_reach (s : State) : SlotsReach s.slots (suspension s).slots := by
  unfold suspension
  split
  · exact .refl
  · rename_i k _
    split
    · exact .refl
    · split
      · simpa using enter_reach k .draining s
      · exact .refl

/-! ## Rules for requests -/

/-- Where a reply accepts, its state has the property. -/
def Reply.Ensures (P : State → Prop) : Reply → Prop
  | .accept t _ => P t
  | .refuse _ _ => True

theorem Reply.Ensures.mono {P Q : State → Prop} {r : Reply} (h : r.Ensures P) (hpq : ∀ t, P t → Q t) : r.Ensures Q := by
  cases r with
  | accept t _ => exact hpq t h
  | refuse => trivial

section
variable {P : State → Prop} {s : State} {k : SlotId}

theorem ensures_require {b : Bool} {st : Status} {r : Reply} (h : b = true → r.Ensures P) :
    (require b st r).Ensures P := by
  cases b with
  | false => trivial
  | true => exact h rfl

theorem ensures_named {n v : Nat} {f : Fin n → Reply} (h : ∀ i, (f i).Ensures P) : (named n v f).Ensures P := by
  unfold named; split
  · exact h _
  · trivial

theorem ensures_namedLane {v : Nat} {f : LaneId → Reply} (h : ∀ i, (f i).Ensures P) : (namedLane v f).Ensures P := by
  unfold namedLane; split
  · exact h _
  · trivial

theorem ensures_namedChannel {v : Nat} {f : ChannelId → Reply} (h : ∀ i, (f i).Ensures P) :
    (namedChannel v f).Ensures P := by
  unfold namedChannel; split
  · exact h _
  · trivial

theorem ensures_coded {α : Type} {o : Option α} {f : α → Reply} (h : ∀ a, (f a).Ensures P) : (coded o f).Ensures P := by
  unfold coded; split
  · exact h _
  · trivial

theorem ensures_inState {a : JobState → Bool} {f : Context → Reply}
    (h : ∀ c, s.slots[k] = some c → (f c).Ensures P) : (inState s k a f).Ensures P := by
  unfold inState; split
  · rename_i c hc
    split
    · exact h c hc
    · trivial
  · trivial

theorem ensures_defined {c : Context} {q : SeqId} {f : Sequence → Reply}
    (h : ∀ x, c.sequences[q] = some x → (f x).Ensures P) : (defined c q f).Ensures P := by
  unfold defined; split
  · rename_i x hx; exact h x hx
  · trivial

theorem ensures_flag {n : Nat} {f : Bool → Reply} (h : ∀ b, (f b).Ensures P) : (flag n f).Ensures P := by
  unfold flag; split
  · exact h _
  · exact h _
  · trivial

theorem ensures_consistent {o : Option (Nat × Nat)} {r : Reply} (h : r.Ensures P) : (consistent o r).Ensures P := by
  unfold consistent; split
  · trivial
  · exact h

theorem ensures_entryMode {m x r : Nat} {f : EntryMode → Reply} (h : ∀ e, (f e).Ensures P) :
    (entryMode m x r f).Ensures P := by
  unfold entryMode; split
  · exact ensures_named fun _ => ensures_flag fun _ => h _
  · exact ensures_named fun _ => h _
  · exact h _
  · trivial

theorem ensures_assigned {a : Option RawAssignment} {f : Option Assignment → Reply} (h : ∀ x, (f x).Ensures P) :
    (assigned a f).Ensures P := by
  unfold assigned; split
  · exact h _
  · exact ensures_named fun _ => ensures_named fun _ => h _

theorem ensures_channelMarks {b : Bool} {ps : List Nat} {t : Nat} {f : Option ChannelMarks → Reply}
    (h : ∀ x, (f x).Ensures P) : (channelMarks b ps t f).Ensures P := by
  unfold channelMarks; split
  · exact ensures_require fun _ => h _
  · exact h _

theorem ensures_entryOrNone {n : Nat} {f : Option EntryId → Reply} (h : ∀ x, (f x).Ensures P) :
    (entryOrNone n f).Ensures P := by
  unfold entryOrNone; split
  · exact h _
  · exact ensures_named fun _ => h _

theorem ensures_effectiveCycle {now : Cycle} {w : Option Nat} {f : Cycle → Reply} (h : ∀ x, (f x).Ensures P) :
    (effectiveCycle now w f).Ensures P := by
  unfold effectiveCycle; split
  · exact h _
  · exact ensures_require fun _ => h _

theorem ensures_placed {p : Option RawPlacement} {f : Option Placement → Reply} (h : ∀ x, (f x).Ensures P) :
    (placed p f).Ensures P := by
  unfold placed; split
  · exact h _
  · exact ensures_require fun _ => ensures_namedLane fun _ => ensures_require fun _ => h _

theorem ensures_grantable {n : Nat} {f : Role → Reply} (h : ∀ x, (f x).Ensures P) : (grantable n f).Ensures P := by
  unfold grantable; split
  · trivial
  · split
    · trivial
    · exact h _

theorem ensures_reportedCheck {n : Nat} {f : Option Nat → Reply} (h : ∀ x, (f x).Ensures P) :
    (reportedCheck n f).Ensures P := by
  unfold reportedCheck; split
  · exact h _
  · split
    · exact h _
    · trivial

theorem ensures_inWindow {l : LaneId} {f : SetRecord → LanePart → Reply} (h : ∀ r p, (f r p).Ensures P) :
    (inWindow s l f).Ensures P := by
  unfold inWindow; split
  · trivial
  · split
    · trivial
    · exact h _ _

theorem ensures_contextPart {n : Nat} {o : Option Nat} {f : ContextPart → Reply} (h : ∀ x, (f x).Ensures P) :
    (contextPart n o f).Ensures P := by
  unfold contextPart; split
  case h_4 => exact ensures_named fun _ => h _
  case h_7 => trivial
  all_goals exact h _

variable (hp : ∀ (p : PortId) (f : Port → Port) (u : State), P u → P (modifyPort p f u))
include hp

theorem takeFrame_ensures {p : PortId} {f : RxFrame} (hs : P s) :
    (∀ t, takeFrame p f s = .waits t → P t) ∧ ∀ t, takeFrame p f s = .taken t → P t := by
  unfold takeFrame
  split
  · split <;> simpa using hp _ _ _ hs
  · split <;> simpa using hp _ _ _ hs

theorem onFrame_ensures {p : PortId} {body : List Byte} {f : State → State} (hf : ∀ u, P u → P (f u)) (hs : P s) :
    P (onFrame p body f s) := by
  obtain ⟨hwaits, htaken⟩ := takeFrame_ensures hp (p := p) (f := .sound body) hs
  rcases onFrame_cases p body f s with ⟨-, e⟩ | ⟨-, ⟨t, ht, e⟩ | ⟨u, hu, e⟩⟩
  · exact e ▸ hp _ _ _ hs
  · exact e ▸ hwaits t ht
  · exact e ▸ hf u (htaken u hu)

theorem serve_ensures {p : PortId} {code : Nat} {act : State → Reply} (ha : (act s).Ensures P) (hs : P s) :
    P (serve p code act s) := by
  simp only [serve, answerAt]
  split
  · cases h : act s with
    | accept t r => rw [h] at ha; exact hp _ _ _ ha
    | refuse st r => exact hp _ _ _ hs
  · exact hp _ _ _ hs

/-- What every change of a port keeps and every acceptance keeps, a request keeps. -/
theorem request_ensures {p : PortId} {c : Instr} {act : State → Reply} {t : State}
    (ha : ∀ u, P u → (act u).Ensures P) (h : request p c act s = .next t) (hs : P s) : P t := by
  cases h
  exact onFrame_ensures hp (fun u hu => serve_ensures hp (ha u hu) hu) hs

end

/-- A request whose acceptance moves the slot table moves it so. -/
theorem request_reach {p : PortId} {c : Instr} {act : State → Reply} {s t : State}
    (h : request p c act s = .next t) (ha : ∀ u, (act u).Ensures fun t => SlotsReach u.slots t.slots) :
    SlotsReach s.slots t.slots :=
  request_ensures (P := fun t => SlotsReach s.slots t.slots) (fun _ _ _ hu => hu)
    (fun u hu => (ha u).mono fun _ ht => SlotsReach.trans hu ht) h .refl

/-! ## The requests -/

theorem replyDefineSequence_reach (sl sq d f l : Nat) (st : Int) (po sc : Nat) (s : State) :
    (replyDefineSequence sl sq d f l st po sc s).Ensures fun t => SlotsReach s.slots t.slots :=
  ensures_named fun _ => ensures_named fun q => ensures_require fun _ => ensures_require fun _ =>
  ensures_coded fun e => ensures_coded fun h => ensures_inState fun _ _ => ensures_require fun _ =>
  modifyContext_reach fun _ _ => .defined q d f l st e h

theorem replyLoadValue_reach (sl sq : Nat) (v : Int) (s : State) :
    (replyLoadValue sl sq v s).Ensures fun t => SlotsReach s.slots t.slots :=
  ensures_named fun _ => ensures_named fun _ => ensures_require fun _ => ensures_inState fun _ _ =>
  ensures_require fun _ => ensures_require fun _ => ensures_defined fun _ _ => ensures_require fun _ =>
  ensures_require fun _ => ensures_require fun _ =>
  .trans (modifySequence_reach fun _ _ _ _ => .loaded v) (.of_eq (journalUnreserved_slots ..))

@[simp] theorem journalExclusion_slots (k : SlotId) (c : Context) (q : SeqId) (a b : Nat) (s : State) :
    (journalExclusion k c q a b s).slots = s.slots := by
  unfold journalExclusion; split <;> simp

theorem replyAddExclusion_reach (sl sq a b : Nat) (s : State) :
    (replyAddExclusion sl sq a b s).Ensures fun t => SlotsReach s.slots t.slots :=
  ensures_named fun k => ensures_named fun q => ensures_require fun _ => ensures_inState fun c hc =>
  ensures_defined fun x hx => ensures_require fun hb => ensures_require fun _ => by
    simp only [Bool.and_eq_true, decide_eq_true_eq, Bool.not_eq_true', List.any_eq_false] at hb
    obtain ⟨⟨⟨⟨hab, hlo⟩, hhi⟩, hapart⟩, hroom⟩ := hb
    refine .trans (.of_eq (journalExclusion_slots k c q a b s))
      (.trans (modifyContext_reach fun c' hc' => ?_) (.of_eq (makeStale_slots ..)))
    obtain rfl : c = c' := by simpa [hc] using hc'
    exact .excluded q a b x hx hab hlo hhi (by simpa using hapart) hroom

theorem replyRemoveExclusion_reach (sl sq a : Nat) (s : State) :
    (replyRemoveExclusion sl sq a s).Ensures fun t => SlotsReach s.slots t.slots :=
  ensures_named fun _ => ensures_named fun _ => ensures_require fun _ => ensures_inState fun _ _ =>
  ensures_defined fun _ _ => ensures_require fun _ =>
  .trans (modifyContext_reach fun _ _ => .readmitted _) (.of_eq (makeStale_slots ..))

theorem replyWithdrawReprint_reach (sl sq v : Nat) (s : State) :
    (replyWithdrawReprint sl sq v s).Ensures fun t => SlotsReach s.slots t.slots :=
  ensures_named fun k => ensures_named fun q => ensures_require fun _ => ensures_inState fun c hc =>
  ensures_defined fun x hx => by
    split
    · exact .refl
    · rename_i e he
      exact ensures_require fun _ =>
        .trans (modifySequence_reach_of_some hc hx (.withdrawn e (List.mem_of_find?_eq_some he)))
          (.of_eq (journalUnreserved_slots ..))

/-- A change of a context in BUILDING beside its sequences and its exclusion table. -/
theorem building_reach {k : SlotId} {s : State} {f : Context → Context} {r : Context → List Byte}
    (hq : ∀ c, (f c).sequences = c.sequences) (hx : ∀ c, (f c).exclusions = c.exclusions) :
    (building s k fun c => .accept (modifyContext k f s) (r c)).Ensures fun t => SlotsReach s.slots t.slots :=
  ensures_inState fun _ _ => modifyContext_reach_of_kept s hq hx

theorem replyDefineEntry_reach (sl e la mo so rf : Nat) (s : State) :
    (replyDefineEntry sl e la mo so rf s).Ensures fun t => SlotsReach s.slots t.slots :=
  ensures_named fun _ => ensures_named fun _ => ensures_namedLane fun _ => ensures_entryMode fun _ =>
  ensures_inState fun _ _ => ensures_require fun _ => modifyContext_reach_of_kept s (fun _ => rfl) fun _ => rfl

theorem replyTrimList_reach (sl n : Nat) (s : State) :
    (replyTrimList sl n s).Ensures fun t => SlotsReach s.slots t.slots :=
  ensures_named fun _ => ensures_require fun _ => building_reach (fun _ => rfl) fun _ => rfl

theorem replyAssignHead_reach (sl h : Nat) (a : Option RawAssignment) (s : State) :
    (replyAssignHead sl h a s).Ensures fun t => SlotsReach s.slots t.slots :=
  ensures_named fun _ => ensures_named fun _ => ensures_assigned fun _ => building_reach (fun _ => rfl) fun _ => rfl

theorem replyDefineFormat_reach (sl f : Nat) (items : List RawItem) (s : State) :
    (replyDefineFormat sl f items s).Ensures fun t => SlotsReach s.slots t.slots :=
  ensures_named fun _ => ensures_named fun _ => ensures_require fun _ => ensures_coded fun _ =>
  building_reach (fun _ => rfl) fun _ => rfl

theorem replyDefineMarks_reach (sl ch en : Nat) (ps : List Nat) (tol : Nat) (s : State) :
    (replyDefineMarks sl ch en ps tol s).Ensures fun t => SlotsReach s.slots t.slots :=
  ensures_named fun _ => ensures_namedChannel fun _ => ensures_flag fun _ => ensures_channelMarks fun _ =>
  building_reach (fun _ => rfl) fun _ => rfl

theorem replySetMarkWindow_reach (sl m c : Nat) (s : State) :
    (replySetMarkWindow sl m c s).Ensures fun t => SlotsReach s.slots t.slots :=
  ensures_named fun _ => ensures_require fun _ => building_reach (fun _ => rfl) fun _ => rfl

theorem replySetInspection_reach (sl la e : Nat) (s : State) :
    (replySetInspection sl la e s).Ensures fun t => SlotsReach s.slots t.slots :=
  ensures_named fun _ => ensures_namedLane fun _ => ensures_entryOrNone fun _ =>
  building_reach (fun _ => rfl) fun _ => rfl

theorem replyOpenContext_reach (sl job lanes po li : Nat) (s : State) :
    (replyOpenContext sl job lanes po li s).Ensures fun t => SlotsReach s.slots t.slots :=
  ensures_named fun k => ensures_require fun _ => ensures_coded fun p => ensures_require fun _ =>
  ensures_require fun _ => (SlotsMove.opened k job lanes p li).reach

theorem replyDiscard_reach (sl : Nat) (s : State) :
    (replyDiscard sl s).Ensures fun t => SlotsReach s.slots t.slots :=
  ensures_named fun k => ensures_inState fun _ _ => ensures_require fun _ => setSlot_none_reach k s

theorem replyReopen_reach (sl : Nat) (s : State) :
    (replyReopen sl s).Ensures fun t => SlotsReach s.slots t.slots :=
  ensures_named fun k => ensures_inState fun _ _ => ensures_require fun _ => ensures_require fun _ =>
  enter_reach k .building s

theorem replyCloseBuild_reach (sl : Nat) (s : State) :
    (replyCloseBuild sl s).Ensures fun t => SlotsReach s.slots t.slots :=
  ensures_named fun k => ensures_inState fun _ _ => ensures_consistent (enter_reach k .ready s)

theorem replyActivate_reach (sl : Nat) (e : Option Nat) (s : State) :
    (replyActivate sl e s).Ensures fun t => SlotsReach s.slots t.slots :=
  ensures_named fun _ => ensures_effectiveCycle fun _ => ensures_inState fun _ _ => ensures_require fun _ =>
  ensures_require fun _ => ensures_consistent <| ensures_require fun _ => .of_eq (by simp [makePending, reserveContext])

theorem replyCancelActivation_reach (s : State) :
    (replyCancelActivation s).Ensures fun t => SlotsReach s.slots t.slots := by
  unfold replyCancelActivation
  split
  · trivial
  · exact .of_eq (by simp [withdrawActivation, returnContext])

theorem replySuspend_reach (sl : Nat) (s : State) :
    (replySuspend sl s).Ensures fun t => SlotsReach s.slots t.slots :=
  ensures_named fun k => ensures_inState fun c _ => ensures_require fun _ => by
    show SlotsReach s.slots (suspendContext k c s).slots
    unfold suspendContext
    split
    · simpa using parkContext_reach k s
    · exact modifyContext_reach_of_kept s (fun _ => rfl) fun _ => rfl

theorem replyFlush_reach (sl : Nat) (s : State) :
    (replyFlush sl s).Ensures fun t => SlotsReach s.slots t.slots :=
  ensures_named fun _ => ensures_inState fun _ _ => ensures_require fun _ => .of_eq (by simp [flushSets])

/-- The voiding of a slot's queues changes that slot alone. -/
theorem endQueues_slots_set (k : SlotId) (job : Nat) (s : State) (o : Option Context) :
    (endQueues k job s).slots.set k o = s.slots.set k o := by
  have hset : ∀ v : Slots, ∀ f, (updateAt v k f).set k o = v.set k o := fun v f => by
    simp [updateAt]
  exact foldl_keeps (fun s : State => s.slots.set k o) (fun s q =>
    foldl_keeps (fun s : State => s.slots.set k o) (fun s e => by
      simp only [endEntry, journalUnreserved_slots]; exact hset ..) _ s) _ s

theorem replyEndJob_reach (sl : Nat) (s : State) :
    (replyEndJob sl s).Ensures fun t => SlotsReach s.slots t.slots :=
  ensures_named fun k => ensures_inState fun c _ => ensures_require fun _ => ensures_require fun _ =>
  ensures_require fun _ => by
    refine .trans (setSlot_none_reach k s) (.of_eq ?_)
    show (endJob k c s).slots = _
    simp only [endJob, notifyJob_slots, setSlot, journalUnreserved_slots]
    exact endQueues_slots_set k c.job s none

/-! ## The boundary -/

/-- The requests that a boundary takes: reads, and WITHDRAW_REPRINT, which moves a sequence (R136, R137). The cases stand in
the order of `replyWithin`. -/
theorem replyWithin_reach {c : Instr} {act : State → Reply} (hc : replyWithin c = some act) (s : State) :
    (act s).Ensures fun t => SlotsReach s.slots t.slots := by
  unfold replyWithin at hc
  split at hc <;> simp only [Option.some.injEq, reduceCtorEq] at hc <;> subst hc
  · refine ensures_named fun _ => ensures_named fun _ => ensures_inState fun _ _ => ?_
    split <;> exact SlotsReach.of_eq rfl
  · exact ensures_named fun _ => ensures_named fun _ => ensures_inState fun _ _ => ensures_defined fun _ _ => .of_eq rfl
  · refine ensures_named fun _ => ensures_contextPart fun x => ?_
    split
    · exact SlotsReach.of_eq rfl
    · split
      · exact SlotsReach.of_eq rfl
      · trivial
  · exact SlotsReach.of_eq rfl
  · exact SlotsReach.of_eq rfl
  · refine ensures_require fun _ => ?_
    split
    · trivial
    · exact SlotsReach.of_eq rfl
  · exact replyWithdrawReprint_reach ..

theorem takeWithin_reach (s : State) (p : PortId) : SlotsReach s.slots (takeWithin s p).slots := by
  rcases takeWithin_cases s p with h | ⟨body, c, act, -, -, ha, h⟩
  · exact .of_eq (by rw [h])
  · rw [h]
    refine onFrame_ensures (P := fun t => SlotsReach s.slots t.slots) (fun _ _ _ hu => hu) (fun u hu => ?_) .refl
    exact serve_ensures (P := fun t => SlotsReach s.slots t.slots) (fun _ _ _ hu => hu)
      ((replyWithin_reach ha u).mono fun _ ht => hu.trans ht) hu

theorem trackBoundary_reach (o : BoundaryOrder) (s : State) : SlotsReach s.slots (trackBoundary o s).slots := by
  have hs1 : SlotsReach s.slots (suspension (changeover s)).slots := (changeover_reach s).trans (suspension_reach _)
  have hrequests : ∀ u : State, SlotsReach u.slots (o.requests.foldl takeWithin u).slots :=
    foldl_reach State.slots takeWithin_reach _
  unfold trackBoundary
  simp only []
  split
  · exact hs1.trans ((retire_reach _).trans ((hrequests _).trans (allocate_reach _)))
  · exact hs1.trans ((allocate_reach _).trans ((hrequests _).trans (retire_reach _)))

theorem runPhase_reach (o : BoundaryOrder) (n : Option WebNotice) (s : State) (p : Phase) :
    SlotsReach s.slots (runPhase o n s p).slots := by
  cases p with
  | measure => exact .of_eq (measureBoundary_slots s)
  | window => exact .of_eq (closeWindow_slots s)
  | track => exact trackBoundary_reach o s
  | heads => exact .of_eq (takeHeads_slots o s)
  | webNotice => cases n <;> exact .refl

theorem boundaryWork_reach (o : BoundaryOrder) (n : Option WebNotice) (s : State) :
    SlotsReach s.slots (boundaryWork o n s).slots := by
  unfold boundaryWork
  rw [handOver_slots]
  exact foldl_reach State.slots (runPhase_reach o n) _ s

theorem boundary_reach (k : Opening) (position : Nat) (n : Option WebNotice) (s : State) :
    SlotsReach s.slots (boundary k position n s).slots :=
  boundaryWork_reach (chosenOrder s) n { s with wpu := s.wpu.openCycle k position, choices := s.choices + 1 }

/-! ## The events -/

theorem forwardEdge_reach (s : State) : SlotsReach s.slots (forwardEdge s).slots := by
  unfold forwardEdge
  simp only []
  split
  · split
    · exact boundary_reach ..
    · exact .of_eq (by simp)
  · split
    · exact boundary_reach ..
    · exact .of_eq (by simp)

theorem countedEdge_reach (d : Direction) (s : State) : SlotsReach s.slots (countedEdge d s).slots := by
  unfold countedEdge
  split
  · exact forwardEdge_reach s
  · unfold backedForward leaveBacked
    split <;> exact .refl
  · unfold reverseEdge
    split <;> exact .of_eq (by simp)
  · unfold backedReverse
    simp only []
    split <;> exact .refl

theorem watchEncoder_reach (s : State) : SlotsReach s.slots (watchEncoder s).slots := by
  unfold watchEncoder
  split
  · rename_i r now _ _
    unfold judgeTransition
    simp only []
    split
    · exact .refl
    · exact countedEdge_reach .forward
        (modifyWpu (Wpu.edge .forward) (modifyWpu (fun w => { w with reference := some now }) s))
    · exact countedEdge_reach .reverse
        (modifyWpu (Wpu.edge .reverse) (modifyWpu (fun w => { w with reference := some now }) s))
    · exact .refl
  · exact .refl

theorem takeIndex_reach (s : State) : SlotsReach s.slots (takeIndex s).slots := by
  unfold takeIndex
  split
  · unfold judgeIndex indexSetsBack
    simp only []
    split
    · exact boundary_reach ..
    · split
      · exact .of_eq (by simp)
      · split
        · exact .of_eq (by simp)
        · split
          · exact boundary_reach ..
          · exact .refl
  · exact .refl

theorem hearLine_reach (f : LineFunction) (level : Bool) (s : State) : SlotsReach s.slots (hearLine f level s).slots := by
  unfold hearLine
  split
  · exact watchEncoder_reach s
  · exact watchEncoder_reach s
  · split
    · exact takeIndex_reach s
    · exact .refl
  · exact .of_eq (by split <;> simp)
  all_goals exact .refl

theorem commitSkip_slots (k : Skip) (x : Sequence) (v : Nat) (w : Bool) (s : State) :
    (commitSkip k x v w s).slots =
      (modifySequence k.slot k.sequence (fun y => (y.commit v w).countSkipped) s).slots := by
  unfold commitSkip
  simp only []
  split <;> rfl

theorem journalSkip_slots {k : Skip} {job : Nat} {x : Sequence} {v : Nat} {s t : State}
    (h : journalSkip k job x v s = some t) : t.slots = s.slots := by
  simp only [journalSkip] at h
  split at h
  · cases h; rfl
  · split at h
    · cases h; simp
    · cases h

theorem stepSkip_reach (k : Skip) (c : Context) (x : Sequence) (s : State) :
    SlotsReach s.slots (stepSkip k c x s).slots := by
  unfold stepSkip
  split
  · exact modifySequence_reach fun _ _ _ _ => .exhausted
  · rename_i v w _
    split
    · exact .refl
    · rename_i s1 hs1
      rw [commitSkip_slots, ← journalSkip_slots hs1]
      exact modifySequence_reach fun _ _ _ _ => .skipped v w

theorem takeCompletion_slots (h : HeadId) (t : Cycle) (res : PrintResult) (s : State) :
    (takeCompletion h t res s).slots = s.slots := by
  unfold takeCompletion
  split
  · cases res <;> simp
  · rfl

theorem takeStateMessage_slots (h : HeadId) (rep : HeadReport) (s : State) :
    (takeStateMessage h rep s).slots = s.slots := by
  have hdevice : ∀ d u, (setDevice h d u).slots = u.slots := fun d u => by unfold setDevice; split <;> rfl
  unfold takeStateMessage
  split
  · exact hdevice ..
  · simp only [hdevice]
    split <;> simp

theorem takeHeadFrame_slots (f : RxFrame) (s : State) : (takeHeadFrame f s).slots = s.slots := by
  unfold takeHeadFrame
  split
  · rfl
  · split
    · split
      · split
        · exact takeCompletion_slots ..
        · split
          · exact takeCompletion_slots ..
          · rfl
      · rfl
    · split
      · split
        · exact takeStateMessage_slots ..
        · split
          · exact takeStateMessage_slots ..
          · rfl
      · rfl
    · rfl

/-! ## Every step -/

/-- A request whose acceptance leaves the slot table leaves it. -/
theorem request_reach_of_slots {p : PortId} {c : Instr} {act : State → Reply} {s t : State}
    (h : request p c act s = .next t) (ha : ∀ u, (act u).Ensures fun t => t.slots = u.slots) :
    SlotsReach s.slots t.slots :=
  request_reach h fun u => (ha u).mono fun _ => .of_eq

theorem stepProbe_slots (p : Probe) (s : State) : (stepProbe p s).slots = s.slots := by
  unfold stepProbe
  split
  · rfl
  · split <;> rfl

theorem replyCancelBackground_slots (s : State) : (replyCancelBackground s).Ensures fun t => t.slots = s.slots := by
  unfold replyCancelBackground
  split
  · trivial
  · exact ensures_require fun _ => rfl
  · exact ensures_require fun _ => rfl

theorem releaseRecords_slots (n : Nat) (s : State) : (releaseRecords n s).slots = s.slots := by
  unfold releaseRecords
  split <;> simp

theorem replyClearStop_slots (cause : Nat) (s : State) : (replyClearStop cause s).Ensures fun t => t.slots = s.slots :=
  ensures_coded fun c => by
    have hclear : (clearStop c s).slots = s.slots := by cases c <;> simp [clearStop]
    split
    · exact ensures_require fun _ => hclear
    · rfl

theorem replyReadSet_slots (tag page : Nat) (s : State) : (replyReadSet tag page s).Ensures fun t => t.slots = s.slots := by
  unfold replyReadSet
  split
  · trivial
  · rfl

theorem execSkipDraw_reach {s t : State} (h : execSkipDraw s = .next t) : SlotsReach s.slots t.slots := by
  cases h
  split
  · split
    · split
      · exact .refl
      · split
        · exact .refl
        · exact stepSkip_reach ..
    · exact .refl
  · exact .refl
  · exact .refl

theorem execGarbledFrame_slots {p : PortId} {s t : State} (h : execGarbledFrame p s = .next t) : t.slots = s.slots := by
  obtain ⟨hwaits, htaken⟩ := takeFrame_ensures (P := fun t => t.slots = s.slots) (fun _ _ _ hu => hu) (p := p)
    (f := .garbled) (s := s) rfl
  cases h
  split
  · rename_i u hu; exact hwaits u hu
  · rename_i u hu; exact htaken u hu

theorem execUnknownRequestCode_slots {p : PortId} {body : List Byte} {s t : State}
    (h : execUnknownRequestCode p body s = .next t) : t.slots = s.slots := by
  cases h
  split
  · rfl
  · exact onFrame_ensures (P := fun t => t.slots = s.slots) (fun _ _ _ hu => hu) (fun _ hu => hu) rfl

/-- Every command changes the slot table by moves alone. -/
theorem exec_reach {c : Instr} {s t : State} (h : exec c s = .next t) : SlotsReach s.slots t.slots := by
  cases c with
  | deviceReset levels => cases h; exact SlotsMove.reset.reach
  | encoderTransition a b => cases h; exact watchEncoder_reach (setFunctionLevel .encB b (setFunctionLevel .encA a s))
  | indexEdge =>
    cases h
    split
    · exact takeIndex_reach (setFunctionLevel .index true s)
    · exact .refl
  | markEdge channel => cases h; exact .of_eq (by split <;> simp)
  | orderDeadline head => cases h; exact .of_eq (expireHead_slots ..)
  | orderSend => cases h; exact .of_eq (sendOrder_slots s)
  | orderFrameEnd => cases h; exact .refl
  | completion head tag result => cases h; exact .of_eq (takeCompletion_slots ..)
  | stateMessage head report => cases h; exact .of_eq (takeStateMessage_slots ..)
  | headFrameDiscard => cases h; exact .refl
  | headLinkGapTimeout | headLinkBadStopBit => cases h; exact .of_eq (by split <;> rfl)
  | probeDraw =>
    cases h
    split
    · split
      · exact .of_eq (stepProbe_slots ..)
      · exact .refl
    · exact .refl
    · exact .refl
  | skipDraw => exact execSkipDraw_reach h
  | skipResume => cases h; exact .of_eq (resumeSkip_slots s)
  | portFrameReceived port frame => cases h; exact .refl
  | frameGapTimeout port | badStopBit port => cases h; exact .of_eq (by unfold endGarbled; split <;> rfl)
  | portReset port => cases h; exact .refl
  | garbledFrame port => exact .of_eq (execGarbledFrame_slots h)
  | unknownRequestCode port body => exact .of_eq (execUnknownRequestCode_slots h)
  | frameSendStart port => cases h; exact .refl
  | frameSendEnd port => cases h; exact .refl
  | edgeAgeTick => cases h; exact .refl
  | portByteReceived port byte => cases h; exact .of_eq (by split <;> rfl)
  | headLinkByteReceived byte =>
    cases h
    split
    · exact .refl
    · exact .of_eq (takeHeadFrame_slots ..)
  | fieldLineLevelChange line level =>
    cases h
    split
    · exact .refl
    · exact hearLine_reach _ level
        { s with lm := { s.lm with lines := updateAt s.lm.lines line fun l => { l with level := level } } }
  | defineSequence p sl sq d f l st po sc => exact request_reach h fun _ => replyDefineSequence_reach ..
  | loadValue p sl sq v => exact request_reach h fun _ => replyLoadValue_reach ..
  | addExclusion p sl sq a b => exact request_reach h fun _ => replyAddExclusion_reach ..
  | removeExclusion p sl sq a => exact request_reach h fun _ => replyRemoveExclusion_reach ..
  | withdrawReprint p sl sq v => exact request_reach h fun _ => replyWithdrawReprint_reach ..
  | defineEntry p sl e la mo so rf => exact request_reach h fun _ => replyDefineEntry_reach ..
  | trimList p sl n => exact request_reach h fun _ => replyTrimList_reach ..
  | assignHead p sl hd a => exact request_reach h fun _ => replyAssignHead_reach ..
  | defineFormat p sl f items => exact request_reach h fun _ => replyDefineFormat_reach ..
  | defineMarks p sl ch en ps tol => exact request_reach h fun _ => replyDefineMarks_reach ..
  | setMarkWindow p sl m c => exact request_reach h fun _ => replySetMarkWindow_reach ..
  | setInspection p sl la e => exact request_reach h fun _ => replySetInspection_reach ..
  | openContext p sl job lanes po li => exact request_reach h fun _ => replyOpenContext_reach ..
  | discard p sl => exact request_reach h fun _ => replyDiscard_reach ..
  | closeBuild p sl => exact request_reach h fun _ => replyCloseBuild_reach ..
  | reopen p sl => exact request_reach h fun _ => replyReopen_reach ..
  | activate p sl e => exact request_reach h fun _ => replyActivate_reach ..
  | cancelActivation p => exact request_reach h replyCancelActivation_reach
  | suspend p sl => exact request_reach h fun _ => replySuspend_reach ..
  | flush p sl => exact request_reach h fun _ => replyFlush_reach ..
  | endJob p sl => exact request_reach h fun _ => replyEndJob_reach ..
  | probeSequence p sl sq n =>
    exact request_reach_of_slots h fun _ => ensures_named fun _ => ensures_named fun _ => ensures_require fun _ =>
      ensures_inState fun _ _ => ensures_require fun _ => ensures_defined fun _ _ => rfl
  | skipAhead p sl sq n =>
    exact request_reach_of_slots h fun _ => ensures_named fun _ => ensures_named fun _ => ensures_require fun _ =>
      ensures_inState fun _ _ => ensures_require fun _ => ensures_require fun _ => ensures_defined fun _ _ => rfl
  | cancelBackground p => exact request_reach_of_slots h replyCancelBackground_slots
  | setWeb p r tol =>
    exact request_reach_of_slots h fun _ => ensures_require fun _ => ensures_require fun _ => followMeasurement_slots _
  | setLags p m q g =>
    exact request_reach_of_slots h fun _ => ensures_require fun _ => ensures_require fun _ => ensures_require fun _ =>
      ensures_require fun _ => rfl
  | openRun p | closeRun p => exact request_reach_of_slots h fun _ => rfl
  | placeHead p hd pl =>
    exact request_reach_of_slots h fun _ => ensures_named fun _ => ensures_placed fun _ => ensures_require fun _ => rfl
  | setRegStop p n | setGate p n =>
    exact request_reach_of_slots h fun _ => ensures_require fun _ => ensures_require fun _ => rfl
  | reportRead p la ds c =>
    exact request_reach_of_slots h fun _ => ensures_namedLane fun _ => ensures_require fun _ =>
      ensures_reportedCheck fun _ => ensures_inWindow fun _ _ => rfl
  | reportDefect p la d =>
    exact request_reach_of_slots h fun _ => ensures_namedLane fun _ => ensures_require fun _ =>
      ensures_inWindow fun _ _ => rfl
  | rejectSets p t c m =>
    exact request_reach_of_slots h fun _ => ensures_require fun _ => ensures_require fun _ => rfl
  | releaseJournal p i => exact request_reach_of_slots h fun _ => releaseRecords_slots ..
  | assignLine p li f u =>
    exact request_reach_of_slots h fun _ => ensures_named fun _ => ensures_coded fun _ => ensures_flag fun _ =>
      ensures_require fun _ => ensures_require fun _ => rfl
  | writeLines p m l => exact request_reach_of_slots h fun _ => rfl
  | setStop p => exact request_reach_of_slots h fun u => latchStop_slots .operatorStop u
  | clearStop p c => exact request_reach_of_slots h fun _ => replyClearStop_slots ..
  | setRole p n r =>
    exact request_reach_of_slots h fun _ => ensures_named fun _ => ensures_grantable fun _ => ensures_require fun _ =>
      ensures_require fun _ => rfl
  | setNotices p c => exact request_reach_of_slots h fun _ => ensures_require fun _ => rfl
  | readStatus p | readLines p | readBackground p => exact request_reach_of_slots h fun _ => rfl
  | readRegistration p pg => exact request_reach_of_slots h fun _ => rfl
  | readHead p hd => exact request_reach_of_slots h fun _ => ensures_named fun _ => rfl
  | readSet p tag pg => exact request_reach_of_slots h fun _ => replyReadSet_slots ..
  | readSequence p sl sq pg => exact request_reach h (replyWithin_reach (c := .readSequence p sl sq pg) rfl)
  | readQueue p sl sq pg => exact request_reach h (replyWithin_reach (c := .readQueue p sl sq pg) rfl)
  | readContext p sl part f => exact request_reach h (replyWithin_reach (c := .readContext p sl part f) rfl)
  | readJournal p i n => exact request_reach h (replyWithin_reach (c := .readJournal p i n) rfl)

/-- Every step changes the slot table by moves alone. -/
theorem step_reach {s t : State} (h : step s = .next t) : SlotsReach s.slots t.slots := by
  unfold step at h
  split at h
  · cases h; exact .refl
  · rename_i rest _
    exact exec_reach (s := { s with pending := rest }) h

end Sys2Proof.Machine
end

section
/-! PROOFS. What every step keeps of the numbers: the counters, the reprint queues and the exclusion tables. -/

namespace Sys2Proof.Machine

/-! ## Counters and reprint queues -/

/-- Every defined sequence of the context has the property. -/
def Context.AllSequences (B : Sequence → Prop) (c : Context) : Prop :=
  ∀ (q : SeqId) (x : Sequence), c.sequences[q] = some x → B x

theorem sequenceOf_eq_some {s : State} {k : SlotId} {q : SeqId} {x : Sequence} :
    sequenceOf s k q = some x ↔ ∃ c, s.slots[k] = some c ∧ c.sequences[q] = some x := by
  simp [sequenceOf, Option.bind_eq_some_iff]

theorem allSequences_iff {B : Sequence → Prop} {s : State} :
    (∀ (k : SlotId) (q : SeqId) (x : Sequence), sequenceOf s k q = some x → B x) ↔
      ∀ (k : SlotId) (c : Context), s.slots[k] = some c → c.AllSequences B := by
  simp only [sequenceOf_eq_some, Context.AllSequences]
  exact ⟨fun h k c hc q x hx => h k q x ⟨c, hc, hx⟩, fun h k q x ⟨c, hc, hx⟩ => h k c hc q x hx⟩

section
variable {B : Sequence → Prop} (hm : ∀ x y, SequenceMove x y → B x → B y)
  (hf : ∀ digits first last step e h, B (freshSequence digits first last step e h))
include hm hf

theorem ContextMove.keeps_allSequences {c d : Context} (h : ContextMove c d) (hc : c.AllSequences B) :
    d.AllSequences B := by
  cases h with
  | numbersKept _ hq hx => intro q x hx; rw [hq] at hx; exact hc q x hx
  | sequence q f hmove =>
    intro j y hy
    simp only [Context.modifySequence, Fin.getElem_fin, updateAt_getElem] at hy
    split at hy
    · rename_i hqj
      obtain rfl := Fin.ext hqj
      obtain ⟨x, hx, rfl⟩ := Option.map_eq_some_iff.mp hy
      exact hm x _ (hmove x hx) (hc q x hx)
    · exact hc j y hy
  | defined q digits first last step e h =>
    intro j y hy
    simp only [Context.define, Fin.getElem_fin, Vector.getElem_set] at hy
    split at hy
    · cases hy; exact hf ..
    · exact hc j y hy
  | excluded | readmitted => exact hc

/-- What every move of a sequence keeps and a fresh one has, every step keeps of all sequences. -/
theorem step_keeps_allSequences {s t : State} (h : step s = .next t)
    (hs : ∀ (k : SlotId) (q : SeqId) (x : Sequence), sequenceOf s k q = some x → B x) :
    ∀ (k : SlotId) (q : SeqId) (x : Sequence), sequenceOf t k q = some x → B x :=
  allSequences_iff.mpr <| (step_reach h).keeps (fun _ _ hmove => hmove.keeps_allSequences hm hf)
    (fun _ _ _ _ q x hx => by simp [openedContext] at hx) (allSequences_iff.mp hs)

end

theorem SequenceMove.keeps_balanced {x y : Sequence} (h : SequenceMove x y) (hx : x.balanced) : y.balanced := by
  unfold Sequence.balanced at hx ⊢
  cases h with
  | drawn v w => simp only [Sequence.countHeld, Sequence.commit, hx]; ring
  | skipped v w => simp only [Sequence.countSkipped, Sequence.commit, hx]; ring
  | exhausted => exact hx
  | loaded v => exact hx
  | issued => simp only [Sequence.heldToIssued, hx]; ring
  | voided => simp only [Sequence.heldToVoided, hx]; ring
  | requeued e => simp only [Sequence.requeue, hx]; ring
  | reprinted => simp only [Sequence.takeOldest, hx]; ring
  | withdrawn e => simp only [Sequence.withdraw, hx]; ring

theorem SequenceMove.keeps_queueSound {x y : Sequence} (h : SequenceMove x y) (hx : x.queueSound) : y.queueSound := by
  obtain ⟨hlen, hcount, hnodup⟩ := hx
  have hpred : ∀ n : Nat, 1 ≤ n → BitVec.ofNat 48 n - 1 = BitVec.ofNat 48 (n - 1) := fun n hn => by
    obtain ⟨m, rfl⟩ := Nat.exists_eq_add_of_le' hn
    simp [BitVec.ofNat_add]
  cases h with
  | drawn | skipped | exhausted | issued | voided | loaded => exact ⟨hlen, hcount, hnodup⟩
  | requeued e hroom hnew =>
    refine ⟨by simpa [Sequence.requeue] using hroom, by simp [Sequence.requeue, hcount, BitVec.ofNat_add], ?_⟩
    simp only [Sequence.requeue, List.map_append, List.map_cons, List.map_nil]
    refine hnodup.append (List.nodup_singleton _) ?_
    simpa using hnew
  | reprinted hne =>
    have hpos : 1 ≤ x.queue.length := List.length_pos_iff.mpr hne
    refine ⟨by simp [Sequence.takeOldest]; omega, ?_, ?_⟩
    · simp only [Sequence.takeOldest, List.length_tail, hcount]
      exact hpred _ hpos
    · exact hnodup.sublist (x.queue.tail_sublist.map _)
  | withdrawn e he =>
    have hpos : 1 ≤ x.queue.length := List.length_pos_of_mem he
    have herase : (x.queue.eraseP fun d => d.value == e.value).length = x.queue.length - 1 :=
      List.length_eraseP_of_mem he (by simp)
    refine ⟨by simp only [Sequence.withdraw, herase]; omega, ?_, ?_⟩
    · simp only [Sequence.withdraw, herase, hcount]
      exact hpred _ hpos
    · exact hnodup.sublist ((List.eraseP_sublist ..).map _)

/-- Settles O54: each move of a sequence shifts what it takes from one counter to another, and lengthens or shortens the
queue with its counter. -/
theorem numbersStayAccounted : Obligations.NumbersStayAccounted := fun _ _ h =>
  ⟨step_keeps_allSequences (fun _ _ => SequenceMove.keeps_balanced)
      (fun _ _ _ _ _ _ => by simp [Sequence.balanced, freshSequence]) h,
   step_keeps_allSequences (fun _ _ => SequenceMove.keeps_queueSound)
      (fun _ _ _ _ _ _ => by simp [Sequence.queueSound, freshSequence]) h⟩

/-! ## Exclusion tables -/

theorem Exclusion.before_iff {r t : Exclusion} :
    r.before t = true ↔ r.sequence < t.sequence ∨ r.sequence = t.sequence ∧ r.low < t.low := by
  simp [Exclusion.before]

/-- A table gains the inserted range alone. -/
theorem insertRange_perm (r : Exclusion) (l : List Exclusion) : (insertRange r l).Perm (r :: l) := by
  induction l with
  | nil => exact .refl _
  | cons t ts ih =>
    unfold insertRange
    split
    · exact .refl _
    · exact (ih.cons t).trans (.swap r t ts)

/-- An order that the inserted range fits into, by the test that finds its place, stays. -/
theorem insertRange_pairwise {R : Exclusion → Exclusion → Prop} {r : Exclusion} {l : List Exclusion} (hl : l.Pairwise R)
    (hmono : ∀ t u, R t u → t ∈ l → r.before t = true → r.before u = true)
    (hbefore : ∀ t ∈ l, r.before t = true → R r t) (hafter : ∀ t ∈ l, ¬r.before t = true → R t r) :
    (insertRange r l).Pairwise R := by
  induction l with
  | nil => exact List.pairwise_singleton ..
  | cons t ts ih =>
    obtain ⟨hfirst, hrest⟩ := List.pairwise_cons.mp hl
    unfold insertRange
    split
    · rename_i hrt
      refine List.pairwise_cons.mpr ⟨fun u hu => ?_, hl⟩
      rcases List.mem_cons.mp hu with rfl | hu'
      · exact hbefore u hu hrt
      · exact hbefore u hu (hmono t u (hfirst u hu') (List.mem_cons_self ..) hrt)
    · rename_i hrt
      refine List.pairwise_cons.mpr ⟨fun u hu => ?_, ih hrest ?_ ?_ ?_⟩
      · rcases List.mem_cons.mp ((insertRange_perm r ts).mem_iff.mp hu) with rfl | hu
        · exact hafter t (List.mem_cons_self ..) hrt
        · exact hfirst u hu
      · exact fun a b hab ha => hmono a b hab (List.mem_cons_of_mem _ ha)
      · exact fun a ha => hbefore a (List.mem_cons_of_mem _ ha)
      · exact fun a ha => hafter a (List.mem_cons_of_mem _ ha)

/-- The place of a range whose sequence and lower end no range of a sorted table has. -/
theorem insertRange_sorted {r : Exclusion} {l : List Exclusion}
    (hl : l.Pairwise fun a b => a.sequence < b.sequence ∨ a.sequence = b.sequence ∧ a.low < b.low)
    (hnew : ∀ t ∈ l, t.sequence = r.sequence → t.low ≠ r.low) :
    (insertRange r l).Pairwise fun a b => a.sequence < b.sequence ∨ a.sequence = b.sequence ∧ a.low < b.low := by
  refine insertRange_pairwise hl (fun t u htu _ hrt => ?_) (fun t _ hrt => Exclusion.before_iff.mp hrt) fun t ht hrt => ?_
  · rw [Exclusion.before_iff] at hrt ⊢
    simp only [Fin.lt_def, Fin.ext_iff] at htu hrt ⊢; omega
  · have hlow := hnew t ht
    rw [Exclusion.before_iff] at hrt
    simp only [Fin.lt_def, Fin.ext_iff] at hlow hrt ⊢; omega

/-- The bounds of a sequence are set by its definition alone. -/
theorem SequenceMove.bounds_eq {x y : Sequence} (h : SequenceMove x y) : y.lo = x.lo ∧ y.hi = x.hi := by
  cases h <;> exact ⟨rfl, rfl⟩

theorem excluded_keeps_sound {c : Context} {q : SeqId} {a b : Nat} {x : Sequence} (hx : c.sequences[q] = some x)
    (hab : a ≤ b) (hlo : x.lo ≤ a) (hhi : b ≤ x.hi) (hapart : ∀ r ∈ c.rangesOf q, r.overlaps a b = false)
    (hroom : c.exclusions.length < 16) (hc : c.exclusionsSound) :
    ({ c with exclusions := insertRange { sequence := q, low := a, high := b } c.exclusions } : Context).exclusionsSound := by
  obtain ⟨hlen, hsorted, hin⟩ := hc
  have hfree : ∀ r ∈ c.exclusions, r.sequence = q → b < r.low ∨ r.high < a := fun r hr hrq => by
    have := hapart r (by simp [Context.rangesOf, hr, hrq])
    simp only [Exclusion.overlaps, Bool.and_eq_false_iff, decide_eq_false_iff_not] at this
    omega
  have hperm := insertRange_perm { sequence := q, low := a, high := b } c.exclusions
  refine ⟨?_, ?_, fun r hr => ?_⟩
  · have := hperm.length_eq
    simp only [List.length_cons] at this
    simp only [this]; omega
  · refine insertRange_pairwise hsorted (fun t u htu ht hrt => ?_) (fun t ht hrt => ?_) fun t ht hrt => ?_
    · have hends := (hin t ht).1
      rw [Exclusion.before_iff] at hrt ⊢
      simp only [Fin.lt_def, Fin.ext_iff] at htu hrt ⊢; omega
    · have hends := (hin t ht).1
      have hapart := hfree t ht
      rw [Exclusion.before_iff] at hrt
      simp only [Fin.lt_def, Fin.ext_iff] at hapart hrt ⊢; omega
    · have hends := (hin t ht).1
      have hapart := hfree t ht
      rw [Exclusion.before_iff] at hrt
      simp only [Fin.lt_def, Fin.ext_iff] at hapart hrt ⊢; omega
  · rcases List.mem_cons.mp (hperm.mem_iff.mp hr) with rfl | hr
    · exact ⟨hab, x, hx, hlo, hhi⟩
    · exact hin r hr

theorem ContextMove.keeps_exclusionsSound {c d : Context} (h : ContextMove c d) (hc : c.exclusionsSound) :
    d.exclusionsSound := by
  cases h with
  | numbersKept _ hq hx => unfold Context.exclusionsSound at hc ⊢; rwa [hq, hx]
  | sequence q f hmove =>
    obtain ⟨hlen, hsorted, hin⟩ := hc
    refine ⟨hlen, hsorted, fun r hr => ?_⟩
    obtain ⟨hr', x, hx, hlo, hhi⟩ := hin r hr
    by_cases hqr : q = r.sequence
    · subst hqr
      obtain ⟨elo, ehi⟩ := (hmove x hx).bounds_eq
      refine ⟨hr', f x, ?_, elo ▸ hlo, ehi ▸ hhi⟩
      simp only [Fin.getElem_fin] at hx
      simp [Context.modifySequence, hx]
    · refine ⟨hr', x, ?_, hlo, hhi⟩
      simpa [Context.modifySequence, updateAt_get_ne _ _ _ _ hqr] using hx
  | defined q digits first last step e h =>
    obtain ⟨hlen, hsorted, hin⟩ := hc
    refine ⟨(List.length_filter_le ..).trans hlen, hsorted.filter _, fun r hr => ?_⟩
    obtain ⟨hr, hrq⟩ := List.mem_filter.mp hr
    obtain ⟨hr', x, hx, hlo, hhi⟩ := hin r hr
    have hne : (q : Nat) ≠ r.sequence := fun e => by simp [Fin.ext_iff, e] at hrq
    exact ⟨hr', x, by simpa [Context.define, Vector.getElem_set, hne] using hx, hlo, hhi⟩
  | excluded q a b x hx hab hlo hhi hapart hroom => exact excluded_keeps_sound hx hab hlo hhi hapart hroom hc
  | readmitted p =>
    obtain ⟨hlen, hsorted, hin⟩ := hc
    have hsub := List.eraseP_sublist (p := p) (l := c.exclusions)
    exact ⟨hsub.length_le.trans hlen, hsorted.sublist hsub, fun r hr => hin r (hsub.subset hr)⟩

/-- Settles O17: ADD_EXCLUSION inserts at the place the order gives and within the bounds, and no other move of a context
adds a range or changes the bounds of a sequence that has one. -/
theorem exclusionTablesStaySorted : Obligations.ExclusionTablesStaySorted :=
  ⟨fun r l hl hnew => ⟨insertRange_sorted hl hnew, insertRange_perm r l⟩,
   fun _ _ h => (step_reach h).keeps (fun _ _ => ContextMove.keeps_exclusionsSound)
    fun _ _ _ _ => by simp [Context.exclusionsSound, openedContext]⟩

end Sys2Proof.Machine
end

section
/-! PROOFS. The draw (R11 to R16) and the check characters (R17 to R19), on a sequence record alone. -/

namespace Sys2Proof.Machine

/-! ## Bounds, ranges and the check step -/

/-- The candidate lies within the bounds (R12). -/
def Sequence.Inside (q : Sequence) (c : Int) : Prop := (q.lo : Int) ≤ c ∧ c ≤ q.hi

/-- The candidate lies in none of the ranges, and the check step does not pass over it (R13, R14). -/
def Sequence.Allowed (q : Sequence) (ranges : List Exclusion) (c : Int) : Prop :=
  (∀ r ∈ ranges, ¬((r.low : Int) ≤ c ∧ c ≤ r.high)) ∧ ¬(q.scheme = .m11 ∧ checkM11 q.digits c.toNat = 10)

/-- The first `k` candidates from `a` lie within the bounds and are not allowed. -/
def Sequence.Passed (q : Sequence) (ranges : List Exclusion) (a : Int) (k : Nat) : Prop :=
  ∀ j < k, q.Inside (a + j * q.step) ∧ ¬q.Allowed ranges (a + j * q.step)

section
variable {q : Sequence} {ranges : List Exclusion} {a c : Int} {w : Bool} {n k m : Nat}

theorem bounds_of_inside (h : q.Inside c) : q.bounds c w = some (c, w) := by
  unfold Sequence.bounds Sequence.Inside at *; rw [if_pos h]

theorem bounds_of_outside (h : ¬q.Inside c) :
    q.bounds c w = if q.policy = .wrap ∧ w = false then some ((q.first : Int), true) else none := by
  unfold Sequence.bounds Sequence.Inside at *; rw [if_neg h]

/-- F lies within the bounds it sets (R1). -/
theorem inside_first (q : Sequence) : q.Inside q.first := by
  simp [Sequence.Inside, Sequence.lo, Sequence.hi]

theorem skips_iff : q.skips c = true ↔ q.scheme = .m11 ∧ checkM11 q.digits c.toNat = 10 := by
  simp [Sequence.skips]

theorem rangeAt_some {r : Exclusion} (h : rangeAt ranges c = some r) : r ∈ ranges ∧ (r.low : Int) ≤ c ∧ c ≤ r.high :=
  ⟨List.mem_of_find?_eq_some h, by simpa using List.find?_some h⟩

theorem rangeAt_none : rangeAt ranges c = none ↔ ∀ r ∈ ranges, ¬((r.low : Int) ≤ c ∧ c ≤ r.high) := by
  simp [rangeAt]

/-- What lies between two candidates within the bounds lies within them. -/
theorem inside_between (ha : q.Inside a) (hm : q.Inside (a + m * q.step)) (hk : k ≤ m) :
    q.Inside (a + k * q.step) := by
  have hkm : (k : Int) ≤ m := by exact_mod_cast hk
  unfold Sequence.Inside at *
  rcases le_total 0 q.step with hs | hs
  · have hle := mul_le_mul_of_nonneg_right hkm hs
    have hpos : 0 ≤ (k : Int) * q.step := mul_nonneg (by omega) hs
    omega
  · have hle := mul_le_mul_of_nonpos_right hkm hs
    have hneg : (k : Int) * q.step ≤ 0 := mul_nonpos_of_nonneg_of_nonpos (by omega) hs
    omega

/-- A sweep of the bounds passes no more candidates than they hold (R15). -/
theorem passed_length (hs : q.step ≠ 0) (h : q.Passed ranges a k) : k ≤ q.hi - q.lo + 1 := by
  cases k with
  | zero => omega
  | succ k =>
    have hfirst := (h 0 (by omega)).1
    have hlast := (h k (by omega)).1
    simp only [Sequence.Inside, Nat.cast_zero, zero_mul, add_zero] at hfirst hlast
    have hwidth : (k : Int) ≤ |(k : Int) * q.step| := by
      rw [abs_mul, Nat.abs_cast]
      exact le_mul_of_one_le_right (by omega) (Int.one_le_abs hs)
    rcases abs_cases ((k : Int) * q.step) with ⟨he, -⟩ | ⟨he, -⟩ <;> omega

/-- A sweep ends: at an allowed candidate or outside the bounds. -/
theorem passed_ends (hs : q.step ≠ 0) (ranges : List Exclusion) (a : Int) :
    ∃ k, q.Passed ranges a k ∧ (q.Inside (a + k * q.step) → q.Allowed ranges (a + k * q.step)) := by
  by_contra hno
  push Not at hno
  have hall : ∀ k, q.Passed ranges a k := fun k => by
    induction k with
    | zero => exact fun j hj => absurd hj (Nat.not_lt_zero j)
    | succ k ih =>
      intro j hj
      rcases Nat.lt_succ_iff_lt_or_eq.mp hj with hj | rfl
      · exact ih j hj
      · exact hno j ih
  have := passed_length hs (hall (q.hi - q.lo + 2))
  omega

/-! ## One pass -/

theorem search_allowed (hi : q.Inside c) (ha : q.Allowed ranges c) : q.search ranges (n + 1) c w = .yields c.toNat w := by
  unfold Sequence.search
  simp only [bounds_of_inside hi, rangeAt_none.mpr ha.1]
  rw [if_neg fun h => ha.2 (skips_iff.mp h)]

/-- The exclusion jump goes on by steps, and every step it leaps over lies in the range (R13). -/
theorem jumpPast_steps (hs : q.step ≠ 0) {r : Exclusion} (hlow : (r.low : Int) ≤ c) (hhigh : c ≤ r.high) :
    ∃ m : Nat, 1 ≤ m ∧ jumpPast q.step r c = c + m * q.step ∧
      ∀ j < m, (r.low : Int) ≤ c + j * q.step ∧ c + j * q.step ≤ r.high := by
  unfold jumpPast
  rcases lt_or_gt_of_ne hs with hneg | hpos
  · have hdiv : 0 ≤ (c - r.low) / (-q.step) := Int.ediv_nonneg (by omega) (by omega)
    refine ⟨((c - r.low) / (-q.step)).toNat + 1, by omega, ?_, fun j hj => ?_⟩
    · rw [if_neg (by omega)]; push_cast; rw [Int.toNat_of_nonneg hdiv]; ring
    · have hj' : (j : Int) ≤ (c - r.low) / (-q.step) := by omega
      have hmul := (Int.le_ediv_iff_mul_le (by omega)).mp hj'
      have hstep : (j : Int) * q.step ≤ 0 := mul_nonpos_of_nonneg_of_nonpos (by omega) (by omega)
      rw [mul_neg] at hmul
      constructor <;> omega
  · have hdiv : 0 ≤ (r.high - c) / q.step := Int.ediv_nonneg (by omega) (by omega)
    refine ⟨((r.high - c) / q.step).toNat + 1, by omega, ?_, fun j hj => ?_⟩
    · rw [if_pos hpos]; push_cast; rw [Int.toNat_of_nonneg hdiv]; ring
    · have hj' : (j : Int) ≤ (r.high - c) / q.step := by omega
      have hmul := (Int.le_ediv_iff_mul_le hpos).mp hj'
      have hstep : 0 ≤ (j : Int) * q.step := mul_nonneg (by omega) (by omega)
      constructor <;> omega

/-- A pass over a candidate that is not allowed goes on by steps and leaps over no allowed one. -/
theorem search_passes (hs : q.step ≠ 0) (hi : q.Inside c) (ha : ¬q.Allowed ranges c) :
    ∃ m : Nat, 1 ≤ m ∧ (∀ j < m, ¬q.Allowed ranges (c + j * q.step)) ∧
      ∀ n w, q.search ranges (n + 1) c w = q.search ranges n (c + m * q.step) w := by
  cases hr : rangeAt ranges c with
  | some r =>
    obtain ⟨hmem, hlow, hhigh⟩ := rangeAt_some hr
    obtain ⟨m, hm, hjump, hin⟩ := jumpPast_steps hs hlow hhigh
    refine ⟨m, hm, fun j hj hall => hall.1 r hmem (hin j hj), fun n w => ?_⟩
    conv_lhs => unfold Sequence.search
    simp only [bounds_of_inside hi, hr, hjump]
  | none =>
    have hskip : q.skips c = true := by
      by_contra hno
      exact ha ⟨rangeAt_none.mp hr, fun h => hno (skips_iff.mpr h)⟩
    refine ⟨1, le_rfl, fun j hj => ?_, fun n w => ?_⟩
    · obtain rfl : j = 0 := by omega
      simpa using ha
    · conv_lhs => unfold Sequence.search
      simp only [bounds_of_inside hi, hr, hskip, if_true, Nat.cast_one, one_mul]

theorem search_outside_fails (ho : ¬q.Inside c) (h : q.policy = .halt ∨ w = true) : q.search ranges n c w = .fails := by
  cases n with
  | zero => rfl
  | succ n =>
    unfold Sequence.search
    rw [bounds_of_outside ho, if_neg]
    rintro ⟨hp, rfl⟩
    simp [hp] at h

theorem search_outside_wraps (ho : ¬q.Inside c) (h : q.policy = .wrap) :
    q.search ranges (n + 1) c false = q.search ranges (n + 1) q.first true := by
  unfold Sequence.search
  rw [bounds_of_outside ho, if_pos ⟨h, rfl⟩, bounds_of_inside (inside_first q)]

/-! ## A sweep -/

/-- A sweep that passes `k` candidates ends at the next one when it is allowed, or goes on from outside the bounds with
what is left of its passes. -/
theorem search_passed (hs : q.step ≠ 0) (hp : q.Passed ranges c k) (hn : k < n) (w : Bool) :
    (q.Inside (c + k * q.step) → q.Allowed ranges (c + k * q.step) →
      q.search ranges n c w = .yields (c + k * q.step).toNat w) ∧
    (¬q.Inside (c + k * q.step) →
      ∃ n' c', n ≤ n' + k ∧ ¬q.Inside c' ∧ q.search ranges n c w = q.search ranges n' c' w) := by
  induction k using Nat.strong_induction_on generalizing c n with
  | _ k ih =>
    obtain ⟨n, rfl⟩ : ∃ n', n = n' + 1 := ⟨n - 1, by omega⟩
    cases k with
    | zero =>
      simp only [Nat.cast_zero, zero_mul, add_zero]
      exact ⟨search_allowed, fun ho => ⟨n + 1, c, le_rfl, ho, rfl⟩⟩
    | succ k =>
      obtain ⟨hin, hnot⟩ := hp 0 (by omega)
      simp only [Nat.cast_zero, zero_mul, add_zero] at hin hnot
      obtain ⟨m, hm, hleaps, hpass⟩ := search_passes hs hin hnot
      rw [hpass]
      by_cases hmk : m ≤ k + 1
      · have hshift : ∀ j : Nat, c + m * q.step + j * q.step = c + ((m + j : Nat) : Int) * q.step := fun j => by
          push_cast; ring
        have hrest : q.Passed ranges (c + m * q.step) (k + 1 - m) := fun j hj => by
          rw [hshift]; exact hp (m + j) (by omega)
        obtain ⟨hyields, hleaves⟩ := ih (k + 1 - m) (by omega) hrest (by omega : k + 1 - m < n)
        rw [hshift, Nat.add_sub_cancel' hmk] at hyields hleaves
        refine ⟨hyields, fun ho => ?_⟩
        obtain ⟨n', c', hn', hc', he⟩ := hleaves ho
        exact ⟨n', c', by omega, hc', he⟩
      · exact ⟨fun _ ha => absurd ha (hleaps _ (by omega)),
          fun ho => ⟨n, _, by omega, fun hi => ho (inside_between hin hi (by omega)), rfl⟩⟩

/-! ## The whole draw -/

/-- Passes enough for two sweeps of the bounds and the pass that fails (R15). -/
theorem sweeps_fit (hs : q.step ≠ 0) (hk : q.Passed ranges a k) (hm : q.Passed ranges c m) (hn : q.drawFuel ≤ n) :
    k + m + 1 < n := by
  have := passed_length hs hk
  have := passed_length hs hm
  unfold Sequence.drawFuel at hn
  omega

theorem search_yields_first (hs : q.step ≠ 0) (hp : q.Passed ranges a k) (hn : q.drawFuel ≤ n)
    (hi : q.Inside (a + k * q.step)) (ha : q.Allowed ranges (a + k * q.step)) :
    q.search ranges n a false = .yields (a + k * q.step).toNat false := by
  have hfit := sweeps_fit hs hp hp hn
  exact (search_passed hs hp (by omega) false).1 hi ha

theorem search_halts (hs : q.step ≠ 0) (hp : q.Passed ranges a k) (hn : q.drawFuel ≤ n)
    (ho : ¬q.Inside (a + k * q.step)) (hh : q.policy = .halt) : q.search ranges n a false = .fails := by
  have hfit := sweeps_fit hs hp hp hn
  obtain ⟨n', c', -, hc', he⟩ := (search_passed hs hp (by omega : k < n) false).2 ho
  rw [he, search_outside_fails hc' (.inl hh)]

theorem search_wraps (hs : q.step ≠ 0) (hp : q.Passed ranges a k) (hn : q.drawFuel ≤ n)
    (ho : ¬q.Inside (a + k * q.step)) (hw : q.policy = .wrap) (hm : q.Passed ranges q.first m) :
    (q.Inside (q.first + m * q.step) → q.Allowed ranges (q.first + m * q.step) →
      q.search ranges n a false = .yields (q.first + m * q.step).toNat true) ∧
    (¬q.Inside (q.first + m * q.step) → q.search ranges n a false = .fails) := by
  have hfit := sweeps_fit hs hp hm hn
  obtain ⟨n', c', hn', hc', he⟩ := (search_passed hs hp (by omega : k < n) false).2 ho
  obtain ⟨n', rfl⟩ : ∃ i, n' = i + 1 := ⟨n' - 1, by omega⟩
  rw [he, search_outside_wraps hc' hw]
  obtain ⟨hyields, hleaves⟩ := search_passed hs hm (by omega : m < n' + 1) true
  refine ⟨hyields, fun ho' => ?_⟩
  obtain ⟨n'', c'', -, hc'', he'⟩ := hleaves ho'
  rw [he', search_outside_fails hc'' (.inr rfl)]

/-- More passes than drawFuel change nothing (log 21). -/
theorem search_more_fuel (hs : q.step ≠ 0) (n : Nat) :
    q.search ranges (q.drawFuel + n) a false = q.search ranges q.drawFuel a false := by
  have hmore : q.drawFuel ≤ q.drawFuel + n := Nat.le_add_right ..
  obtain ⟨k, hk, hend⟩ := passed_ends hs ranges a
  by_cases hi : q.Inside (a + k * q.step)
  · rw [search_yields_first hs hk hmore hi (hend hi), search_yields_first hs hk le_rfl hi (hend hi)]
  · cases hp : q.policy with
    | halt => rw [search_halts hs hk hmore hi hp, search_halts hs hk le_rfl hi hp]
    | wrap =>
      obtain ⟨m, hm, hend'⟩ := passed_ends hs ranges q.first
      have hfuel := search_wraps hs hk hmore hi hp hm
      have hfuel' := search_wraps hs hk le_rfl hi hp hm
      by_cases hi' : q.Inside (q.first + m * q.step)
      · rw [hfuel.1 hi' (hend' hi'), hfuel'.1 hi' (hend' hi')]
      · rw [hfuel.2 hi', hfuel'.2 hi']

/-- What a search yields lies within the bounds and is allowed, and it wraps only under WRAP. -/
theorem search_yields_sound {v : Nat} {w' : Bool} (h : q.search ranges n c w = .yields v w') :
    q.Inside v ∧ q.Allowed ranges v ∧ (w' = true → w = true ∨ q.policy = .wrap) := by
  induction n generalizing c w with
  | zero => cases h
  | succ n ih =>
    have hstep : ∀ {c' : Int} {u : Bool}, q.bounds c w = some (c', u) →
        q.Inside c' ∧ (u = true → w = true ∨ q.policy = .wrap) := fun {c' u} hb => by
      by_cases hi : q.Inside c
      · cases (bounds_of_inside hi).symm.trans hb
        exact ⟨hi, .inl⟩
      · rw [bounds_of_outside hi] at hb
        split at hb
        · rename_i hw; cases hb; exact ⟨inside_first q, fun _ => .inr hw.1⟩
        · cases hb
    have hlater : ∀ {d : Int} {u : Bool}, (u = true → w = true ∨ q.policy = .wrap) →
        q.search ranges n d u = .yields v w' →
        q.Inside v ∧ q.Allowed ranges v ∧ (w' = true → w = true ∨ q.policy = .wrap) := fun hu hs => by
      obtain ⟨hi, ha, hw⟩ := ih hs
      exact ⟨hi, ha, fun e => (hw e).elim hu .inr⟩
    unfold Sequence.search at h
    split at h
    · cases h
    · rename_i c' u hb
      obtain ⟨hi, hu⟩ := hstep hb
      split at h
      · exact hlater hu h
      · rename_i hr
        split at h
        · exact hlater hu h
        · rename_i hskip
          cases h
          have hc' : ((c'.toNat : Nat) : Int) = c' := Int.toNat_of_nonneg (le_trans (Int.natCast_nonneg _) hi.1)
          rw [hc']
          exact ⟨hi, ⟨rangeAt_none.mp hr, fun e => hskip (skips_iff.mpr e)⟩, hu⟩

theorem draw_of_live (h : q.state = .live) : q.draw ranges = q.search ranges q.drawFuel q.value false := by
  simp only [Sequence.draw, h]

theorem draw_of_exhausted (h : q.state = .exhausted) : q.draw ranges = .fails := by
  simp only [Sequence.draw, h]

/-- What a draw yields comes of a LIVE sequence, lies within the bounds and is allowed, and it wraps only under WRAP. -/
theorem draw_yields_sound {v : Nat} (h : q.draw ranges = .yields v w) :
    q.state = .live ∧ q.Inside v ∧ q.Allowed ranges v ∧ (w = true → q.policy = .wrap) := by
  cases hq : q.state with
  | exhausted => rw [draw_of_exhausted hq] at h; cases h
  | live =>
    rw [draw_of_live hq] at h
    obtain ⟨hi, ha, hw⟩ := search_yields_sound h
    exact ⟨rfl, hi, ha, fun e => (hw e).resolve_left Bool.false_ne_true⟩

end

/-- Settles O14: a sweep passes exactly the candidates that are not allowed, from V and after a wrap from F. -/
theorem drawFindsAllowedValue : Obligations.DrawFindsAllowedValue := by
  intro q ranges inside allowed passed
  have hinside : inside = q.Inside := by
    funext c; simp only [inside, Sequence.Inside, Sequence.lo, Sequence.hi, Nat.cast_min, Nat.cast_max]
  have hpassed : passed = q.Passed ranges := by
    funext a k; simp only [passed, hinside]; rfl
  rw [hinside, hpassed]
  refine ⟨fun v w => draw_yields_sound, draw_of_exhausted, fun hs n => search_more_fuel hs n, fun hl hs k hk => ?_⟩
  rw [draw_of_live hl]
  exact ⟨search_yields_first hs hk le_rfl, search_halts hs hk le_rfl, fun ho hw m hm => search_wraps hs hk le_rfl ho hw hm⟩

/-! ## Check characters -/

/-- The weighted sum of R17 and R18, digit by digit. -/
theorem weighted_digits {ws : List Nat} {d : Nat} (h : d ≤ ws.length) (v : Nat) :
    weighted ws (digitsOf d v) = ∑ i ∈ Finset.range d, ws.getD i 0 * (v / 10 ^ i % 10) := by
  have hzip : List.zipWith (· * ·) ws (digitsOf d v) = (List.range d).map fun i => ws.getD i 0 * (v / 10 ^ i % 10) := by
    refine List.ext_getElem (by simp [digitsOf, h]) fun i hi _ => ?_
    have hiw : i < ws.length := by simp at hi; omega
    simp [digitsOf, hiw]
  rw [weighted, hzip]
  clear h hzip
  induction d with
  | zero => rfl
  | succ d ih => rw [List.range_succ, Finset.sum_range_succ, ← ih]; simp

/-- A table of ten weights gives the digits of a value of up to ten their weights. -/
theorem weighted_table {ws : List Nat} {f : Nat → Nat} (hw : ws.length = 10 ∧ ∀ i < 10, ws.getD i 0 = f i) {d : Nat}
    (hd : d ≤ 10) (v : Nat) : weighted ws (digitsOf d v) = ∑ i ∈ Finset.range d, f i * (v / 10 ^ i % 10) := by
  rw [weighted_digits (hw.1.symm ▸ hd)]
  refine Finset.sum_congr rfl fun i hi => ?_
  rw [hw.2 i (by have := Finset.mem_range.mp hi; omega)]

theorem weights_w31 : [3, 1, 3, 1, 3, 1, 3, 1, 3, 1].length = 10 ∧
    ∀ i < 10, [3, 1, 3, 1, 3, 1, 3, 1, 3, 1].getD i 0 = if i % 2 = 0 then 3 else 1 := by decide

theorem weights_m11 : [2, 3, 4, 5, 6, 7, 2, 3, 4, 5].length = 10 ∧
    ∀ i < 10, [2, 3, 4, 5, 6, 7, 2, 3, 4, 5].getD i 0 = 2 + i % 6 := by decide

/-- Settles O15: the tables of weights are those of R17 and R18, and the check step passes over what cannot be printed. -/
theorem checkCharacters : Obligations.CheckCharacters := by
  refine ⟨fun d v hd => ⟨?_, ?_, rfl, rfl⟩, fun q ranges v w hq h => ?_⟩
  · simp only [checkOf, checkW31, weighted_table weights_w31 hd]
  · simp only [checkOf, checkM11, weighted_table weights_m11 hd]
  · have hprintable := (draw_yields_sound h).2.2.1.2
    have hmod : checkM11 q.digits v < 11 := Nat.mod_lt _ (by omega)
    refine ⟨_, rfl, ?_⟩
    simp only [hq, true_and, Int.toNat_natCast] at hprintable
    omega

end Sys2Proof.Machine
end

section
/-! PROOFS. The requests on sequences and exclusions, and the background operations: what each accepted request and each
draw comes to. -/

namespace Sys2Proof.Machine

/-! ## Accepted and refused requests -/

theorem acceptedAs_of_reply {p : PortId} {c : Instr} {r : List Byte} {effect : State → State} {s : State}
    {act : State → Reply} (hexec : exec c s = request p c act s)
    (h : act (takenOn p s) = .accept (effect (takenOn p s)) r) : AcceptedAs p c r effect s := fun hf ha => by
  rw [hexec, request_accept hf ha h]; rfl

theorem refusedAs_of_reply {p : PortId} {c : Instr} {st : Status} {r : List Byte} {s : State} {act : State → Reply}
    (hexec : exec c s = request p c act s) (h : act (takenOn p s) = .refuse st r) : RefusedAs p c st r s := fun hf ha => by
  rw [hexec, request_refuse hf ha h]; rfl

theorem isPendingSlot_eq_false {k : SlotId} {s : State} : isPendingSlot s k = false ↔ NotPending k s := by
  simp [isPendingSlot, NotPending, Option.any_eq_false]

theorem isIdle_iff {j : JobState} : j.isIdle = true ↔ j = .ready ∨ j = .parked := by
  simp [JobState.isIdle]

/-! ## Contexts and sequences that are there -/

theorem modifyContext_of_some {k : SlotId} {c : Context} {s : State} (h : s.slots[(k : Nat)] = some c)
    (f : Context → Context) : modifyContext k f s = { s with slots := s.slots.set k (some (f c)) } := by
  simp [modifyContext, updateAt, h]

theorem Context.modifySequence_of_some {c : Context} {q : SeqId} {x : Sequence} (h : c.sequences[(q : Nat)] = some x)
    (f : Sequence → Sequence) : c.modifySequence q f = { c with sequences := c.sequences.set q (some (f x)) } := by
  simp [Context.modifySequence, updateAt, h]

theorem modifySequence_of_some {k : SlotId} {q : SeqId} {c : Context} {x : Sequence} {s : State}
    (hc : s.slots[(k : Nat)] = some c) (hx : c.sequences[(q : Nat)] = some x) (f : Sequence → Sequence) :
    modifySequence k q f s =
      { s with slots := s.slots.set k (some { c with sequences := c.sequences.set q (some (f x)) }) } := by
  rw [modifySequence, modifyContext_of_some hc, Context.modifySequence_of_some hx]

/-! ## DEFINE_SEQUENCE, LOAD_VALUE, ADD_EXCLUSION and REMOVE_EXCLUSION -/

theorem endPolicy_ofCode {n : Nat} {e : EndPolicy} (h : n = 0 ∧ e = .halt ∨ n = 1 ∧ e = .wrap) :
    EndPolicy.ofCode n = some e := by
  rcases h with ⟨rfl, rfl⟩ | ⟨rfl, rfl⟩ <;> rfl

theorem checkScheme_ofCode {n : Nat} {h : CheckScheme}
    (hn : n = 0 ∧ h = .none ∨ n = 1 ∧ h = .w31 ∨ n = 2 ∧ h = .m11 ∨ n = 3 ∧ h = .m7) :
    CheckScheme.ofCode n = some h := by
  rcases hn with ⟨rfl, rfl⟩ | ⟨rfl, rfl⟩ | ⟨rfl, rfl⟩ | ⟨rfl, rfl⟩ <;> rfl

theorem define_eq (c : Context) (q : SeqId) (x : Sequence) :
    c.define q x = { c with
      sequences := c.sequences.set q (some x), exclusions := c.exclusions.filter fun r => r.sequence ≠ q } := by
  simp [Context.define, bne, beq_eq_decide]

section
variable {s : State} {k : SlotId} {q : SeqId} {c : Context} {x : Sequence} (hc : s.slots[(k : Nat)] = some c)
include hc

theorem replyDefineSequence_accept {d f l po sc : Nat} {st : Int} {e : EndPolicy} {h : CheckScheme}
    (hd : 1 ≤ d ∧ d ≤ 10) (hf : f ≤ 9999999999) (hl : l ≤ 9999999999) (hst : st ≠ 0 ∧ -999 ≤ st ∧ st ≤ 999)
    (he : EndPolicy.ofCode po = some e) (hh : CheckScheme.ofCode sc = some h) (hb : c.state = .building)
    (hfree : busySlotOf s.background ≠ some k) :
    replyDefineSequence k q d f l st po sc s =
      .accept { s with slots := s.slots.set k (some (c.define q (freshSequence d f l st e h))) } [] := by
  simp [replyDefineSequence, hd, hf, hl, bne_iff_ne.mpr hst.1, hst.2, he, hh, coded, maxValue, inState_some hc, hb,
    notBusy, bne_iff_ne.mpr hfree,    modifyContext_of_some hc]

theorem replyLoadValue_accept {v : Int} (hx : c.sequences[(q : Nat)] = some x) (hidle : c.state = .ready ∨ c.state = .parked)
    (hpending : NotPending k s) (hfree : busySlotOf s.background ≠ some k) (hempty : x.queue = [])
    (hwire : -549755813888 ≤ v ∧ v ≤ 549755813887) (hin : x.Inside v) (hroom : 1 ≤ s.ij.unreserved) :
    replyLoadValue k q v s =
      .accept (journalUnreserved k c.job s.wpu.cycle (.valueLoaded q x.value v)
        { s with slots := s.slots.set k (some { c with sequences := c.sequences.set q (some (x.load v)) }) }) [] := by
  have hin' : (x.lo : Int) ≤ v ∧ v ≤ x.hi := hin
  simp [replyLoadValue, hwire, inState_some hc, isIdle_iff.mpr hidle, isPendingSlot_eq_false.mpr hpending, notBusy,
    bne_iff_ne.mpr hfree, defined_some hx, hempty, hin', journalRoom, hroom, modifySequence_of_some hc hx]

theorem journalExclusion_keeps_slot (a b : Nat) : (journalExclusion k c q a b s).slots[(k : Nat)] = some c := by
  rw [journalExclusion_slots, hc]

theorem replyAddExclusion_accept {a b : Nat} (hx : c.sequences[(q : Nat)] = some x) (hstate : c.state ≠ .draining)
    (hab : a ≤ b) (hlo : x.lo ≤ a) (hhi : b ≤ x.hi) (hb : b ≤ 9999999999)
    (hapart : ∀ r ∈ c.exclusions, r.sequence = q → b < r.low ∨ r.high < a) (hlen : c.exclusions.length < 16)
    (hroom : c.state = .building ∨ 1 ≤ s.ij.unreserved) :
    replyAddExclusion k q a b s =
      .accept (makeStale k q
        { journalExclusion k c q a b s with slots := (journalExclusion k c q a b s).slots.set k (some { c with
          exclusions := insertRange { sequence := q, low := a, high := b } c.exclusions }) }) [] := by
  have ha : a ≤ 9999999999 := hab.trans hb
  have hover : (c.rangesOf q).any (fun r => r.overlaps a b) = false := by
    simp only [List.any_eq_false, Context.rangesOf, List.mem_filter, beq_iff_eq, Exclusion.overlaps, Bool.and_eq_true,
      decide_eq_true_eq]
    rintro r ⟨hr, hrq⟩ ⟨h1, h2⟩
    rcases hapart r hr hrq with h | h <;> omega
  have hspace : (if c.state = .building then 0 else 1) ≤ s.ij.unreserved := by
    split
    · omega
    · rename_i h; exact hroom.resolve_left h
  simp [replyAddExclusion, ha, hb, maxValue, inState_some hc, hstate, defined_some hx, hab, hlo, hhi, hover, hlen,
    journalRoom, hspace, modifyContext_of_some (journalExclusion_keeps_slot hc a b)]

theorem replyRemoveExclusion_accept {a : Nat} (hx : c.sequences[(q : Nat)] = some x) (hstate : c.state = .building)
    (ha : a ≤ 9999999999) (hthere : c.exclusions.any (Exclusion.beginsAt q a) = true) :
    replyRemoveExclusion k q a s =
      .accept (makeStale k q { s with slots := s.slots.set k (some { c with
        exclusions := c.exclusions.eraseP (Exclusion.beginsAt q a) }) }) [] := by
  simp [replyRemoveExclusion, ha, maxValue, inState_some hc, hstate, defined_some hx, hthere, modifyContext_of_some hc]

end

/-- Settles O16: each of the four requests meets its checks and changes what its rule names. -/
theorem sequencesAndExclusionsEdited : Obligations.SequencesAndExclusionsEdited := by
  refine ⟨?_, ?_, ?_, ?_⟩
  · intro p s k q d f l st po sc e h c hd hd' hf hl hst hst' hst'' he hh hc hb hfree
    refine acceptedAs_of_reply rfl ((replyDefineSequence_accept (s := takenOn p s) hc ⟨hd, hd'⟩ hf hl
      ⟨hst, hst', hst''⟩ (endPolicy_ofCode he) (checkScheme_ofCode hh) hb hfree).trans ?_)
    rw [define_eq]; rfl
  · intro p s k q v c x hc hidle hpending hfree hx hempty hlow hhigh hlo hhi hroom
    exact acceptedAs_of_reply rfl (replyLoadValue_accept (s := takenOn p s) hc hx hidle hpending hfree hempty
      ⟨hlow, hhigh⟩ ⟨by simpa [Sequence.lo] using hlo, by simpa [Sequence.hi] using hhi⟩ hroom)
  · intro p s k q a b c x hc hstate hx hab hlo hhi hb hapart hlen hroom
    exact acceptedAs_of_reply rfl
      (replyAddExclusion_accept (s := takenOn p s) hc hx hstate hab hlo hhi hb hapart hlen hroom)
  · intro p s k q a c x r hc hstate hx ha hr
    exact acceptedAs_of_reply rfl (replyRemoveExclusion_accept (s := takenOn p s) hc hx hstate ha
      (List.any_eq_true.mpr ⟨r, List.mem_of_find?_eq_some hr, List.find?_some hr⟩))

/-! ## PROBE_SEQUENCE, SKIP_AHEAD and CANCEL_BACKGROUND -/

section
variable {s : State} {k : SlotId} {q : SeqId} {n : Nat} {c : Context} {x : Sequence}
  (hc : s.slots[(k : Nat)] = some c) (hx : c.sequences[(q : Nat)] = some x) (hn : 1 ≤ n ∧ n ≤ 65535)
  (hfree : busySlotOf s.background = none)
include hc hx hn hfree

theorem replyProbeSequence_accept :
    replyProbeSequence k q n s = .accept
      (setProbe
        { slot := k, sequence := q, count := n, copy := x, ranges := c.rangesOf q, draws := 0, wraps := 0,
          stale := false, ended := none } s) [] := by
  simp [replyProbeSequence, hn, inState_some hc, backgroundFree, hfree, defined_some hx]

theorem replySkipAhead_accept (hidle : c.state = .ready ∨ c.state = .parked) (hpending : NotPending k s) :
    replySkipAhead k q n s = .accept
      (setSkip
        { slot := k, sequence := q, count := n, remaining := n, voided := 0, next := x.value, held := false,
          ended := none } s) [] := by
  simp [replySkipAhead, hn, inState_some hc, isIdle_iff.mpr hidle, isPendingSlot_eq_false.mpr hpending, backgroundFree,
    hfree, defined_some hx]

end

theorem replyCancelBackground_probe {s : State} {b : Probe} (h : s.background = .probe b) (hrun : b.ended = none) :
    replyCancelBackground s =
      .accept (endProbe b .cancelled s) (backgroundBytes (.probe { b with ended := some .cancelled })) := by
  simp [replyCancelBackground, h, hrun]

theorem replyCancelBackground_skip {s : State} {b : Skip} (h : s.background = .skip b) (hrun : b.ended = none) :
    replyCancelBackground s =
      .accept (endSkip b .cancelled s) (backgroundBytes (.skip { b with held := false, ended := some .cancelled })) := by
  simp [replyCancelBackground, h, hrun]

/-- Settles O19: the background record is free to start an operation, and a running one is cancelled. -/
theorem backgroundStartedAndCancelled : Obligations.BackgroundStartedAndCancelled := by
  refine ⟨?_, ?_, ?_, ?_⟩
  · intro p s k q n c x hn hn' hc hfree hx
    exact acceptedAs_of_reply rfl (replyProbeSequence_accept (s := takenOn p s) hc hx ⟨hn, hn'⟩ hfree)
  · intro p s k q n c x hn hn' hc hidle hpending hfree hx
    exact acceptedAs_of_reply rfl (replySkipAhead_accept (s := takenOn p s) hc hx ⟨hn, hn'⟩ hfree hidle hpending)
  · intro p s b hb hrun
    exact acceptedAs_of_reply rfl (replyCancelBackground_probe (s := takenOn p s) hb hrun)
  · intro p s b hb hrun
    exact acceptedAs_of_reply rfl (replyCancelBackground_skip (s := takenOn p s) hb hrun)

/-! ## PROBE_DRAW -/

theorem execProbeDraw_running {s : State} {b : Probe} (h : s.background = .probe b) (hrun : b.ended = none) :
    exec .probeDraw s = .next (stepProbe b s) := by
  simp [exec, execProbeDraw, h, hrun]

section
variable {b : Probe} {v : Nat} {w : Bool}

theorem stepProbe_goes_on (h : b.copy.draw b.ranges = .yields v w) (hmore : b.draws + 1 ≠ b.count) (s : State) :
    stepProbe b s = setProbe (b.drew v w) s := by
  have : (b.drew v w).draws ≠ b.count := hmore
  simp [stepProbe, h, this]

theorem stepProbe_completes (h : b.copy.draw b.ranges = .yields v w) (hlast : b.draws + 1 = b.count) (s : State) :
    stepProbe b s = endProbe (b.drew v w) (.complete v) s := by
  have : (b.drew v w).draws = b.count := hlast
  simp [stepProbe, h, this]

theorem stepProbe_exhausts (h : b.copy.draw b.ranges = .fails) (s : State) :
    stepProbe b s = endProbe { b with copy := b.copy.exhaust } (.exhausted b.draws) s := by
  simp [stepProbe, h]

end

/-- Settles O20: a running probe goes on, completes or exhausts its copy by what the draw on the copy comes to. -/
theorem probeDrawsOnItsCopy : Obligations.ProbeDrawsOnItsCopy := by
  intro s b hb hrun
  rw [execProbeDraw_running hb hrun]
  refine ⟨fun v w h => ⟨fun hmore => ?_, fun hlast => ?_⟩, fun h => ?_⟩
  · rw [stepProbe_goes_on h hmore, setProbe, Probe.drew, Sequence.commit]
  · rw [stepProbe_completes h hlast]; rfl
  · rw [stepProbe_exhausts h]; rfl

/-! ## SKIP_DRAW and SKIP_RESUME -/

theorem resumeSkip_held {s : State} {b : Skip} (h : s.background = .skip b) (hheld : b.held = true) (hrun : b.ended = none) :
    resumeSkip s = if 0 < s.ij.unreserved then { s with background := .skip { b with held := false } } else s := by
  simp [resumeSkip, h, hheld, hrun]

section
variable {s : State} {b : Skip} {c : Context} {x : Sequence} {v : Nat} {w : Bool}

theorem execSkipDraw_running (h : s.background = .skip b) (hrun : b.ended = none) (hheld : b.held = false)
    (hc : s.slots[(b.slot : Nat)] = some c) (hx : c.sequences[(b.sequence : Nat)] = some x) :
    exec .skipDraw s = .next (stepSkip b c x s) := by
  simp [exec, execSkipDraw, h, hrun, hheld, hc, hx]

theorem stepSkip_exhausts (h : x.draw (c.rangesOf b.sequence) = .fails) :
    stepSkip b c x s = endSkip b .exhausted (modifySequence b.slot b.sequence Sequence.exhaust s) := by
  simp [stepSkip, h]

theorem stepSkip_holds (h : x.draw (c.rangesOf b.sequence) = .yields v w) (hj : journalSkip b c.job x v s = none) :
    stepSkip b c x s = setSkip { b with held := true } s := by
  simp [stepSkip, h, hj]

theorem stepSkip_commits {u : State} (h : x.draw (c.rangesOf b.sequence) = .yields v w)
    (hj : journalSkip b c.job x v s = some u) : stepSkip b c x s = commitSkip b x v w u := by
  simp [stepSkip, h, hj]

theorem journalSkip_merges {j : Journal} (h : s.ij.merge b.slot c.job (.voidRun b.sequence v v 1 x.step) = some j) :
    journalSkip b c.job x v s = some { s with ij := j } := by
  simp [journalSkip, h]

theorem journalSkip_appends (h : s.ij.merge b.slot c.job (.voidRun b.sequence v v 1 x.step) = none)
    (hroom : 1 ≤ s.ij.unreserved) : journalSkip b c.job x v s =
      some (journalUnreserved b.slot c.job s.wpu.cycle (.voidRun b.sequence v v 1 x.step) s) := by
  simp [journalSkip, h]; omega

theorem journalSkip_no_room (h : s.ij.merge b.slot c.job (.voidRun b.sequence v v 1 x.step) = none)
    (hfull : s.ij.unreserved = 0) : journalSkip b c.job x v s = none := by
  simp [journalSkip, h, hfull]

end

section
variable {b : Skip} {c : Context} {x : Sequence} {v : Nat} {w : Bool} {u : State}
  (hc : u.slots[(b.slot : Nat)] = some c) (hx : c.sequences[(b.sequence : Nat)] = some x)
include hc hx

theorem commitSkip_goes_on (hmore : 2 ≤ b.remaining) :
    commitSkip b x v w u =
      setSkip (b.drew (x.commit v w).value) { u with slots := u.slots.set b.slot (some { c with
        sequences := c.sequences.set b.sequence (some (x.commit v w).countSkipped) }) } := by
  have : (b.drew (x.commit v w).value).remaining ≠ 0 := by simp only [Skip.drew]; omega
  simp only [commitSkip, this, if_false, modifySequence_of_some hc hx]

theorem commitSkip_ends (hlast : b.remaining = 1) :
    commitSkip b x v w u =
      endSkip (b.drew (x.commit v w).value) .done { u with slots := u.slots.set b.slot (some { c with
        sequences := c.sequences.set b.sequence (some (x.commit v w).countSkipped) }) } := by
  have : (b.drew (x.commit v w).value).remaining = 0 := by simp [Skip.drew, hlast]
  simp only [commitSkip, this, if_true, modifySequence_of_some hc hx]

end

/-- Settles O21: a running skip-ahead is journaled and commits, holds or exhausts by what its draw and the journal come to. -/
theorem skipDrawsVoidValues : Obligations.SkipDrawsVoidValues := by
  refine ⟨fun s b hb hheld hrun => ?_, fun s b c x hb hrun hheld hc hx => ?_⟩
  · have hexec : exec .skipResume s = .next (resumeSkip s) := rfl
    rw [hexec, resumeSkip_held hb hheld hrun]
    exact ⟨fun hroom => by rw [if_pos (by omega)], fun hfull => by rw [if_neg (by omega)]⟩
  · rw [execSkipDraw_running hb hrun hheld hc hx]
    refine ⟨fun v w hdraw => ⟨fun hmerge hfull => ?_, fun hmerge hroom => ⟨fun hmore => ?_, fun hlast => ?_⟩,
      fun j hmerge => ⟨fun hmore => ?_, fun hlast => ?_⟩⟩, fun hdraw => ?_⟩
    · rw [stepSkip_holds hdraw (journalSkip_no_room hmerge hfull)]; rfl
    · rw [stepSkip_commits hdraw (journalSkip_appends hmerge hroom), commitSkip_goes_on (by simpa using hc) hx hmore]
      simp [setSkip, Skip.drew, Sequence.commit, Sequence.countSkipped, hheld]
    · rw [stepSkip_commits hdraw (journalSkip_appends hmerge hroom), commitSkip_ends (by simpa using hc) hx hlast]
      simp [endSkip, setSkip, Skip.drew, Sequence.commit, Sequence.countSkipped, hheld]
    · rw [stepSkip_commits hdraw (journalSkip_merges hmerge), commitSkip_goes_on (u := { s with ij := j }) hc hx hmore]
      simp [setSkip, Skip.drew, Sequence.commit, Sequence.countSkipped, hheld]
    · rw [stepSkip_commits hdraw (journalSkip_merges hmerge), commitSkip_ends (u := { s with ij := j }) hc hx hlast]
      simp [endSkip, setSkip, Skip.drew, Sequence.commit, Sequence.countSkipped, hheld]
    · rw [stepSkip_exhausts hdraw, modifySequence_of_some hc hx]
      simp [endSkip, setSkip, Sequence.exhaust, hheld]

end Sys2Proof.Machine
end

section
/-! PROOFS. The reads answer what they name and change nothing, and what every step keeps holds at reset. -/

namespace Sys2Proof.Machine

/-! ## Lengths on the wire (R197) -/

@[simp] theorem length_be (n v : Nat) : (be n v).length = n := by
  induction n with
  | zero => rfl
  | succ n ih => simp [be, ih]

@[simp] theorem length_wordBytes (c : Cycle) : (wordBytes c).length = 4 := length_be ..

theorem length_optBytes_le {α : Type} {f : α → List Byte} {n : Nat} (h : ∀ a, (f a).length ≤ n) (o : Option α) :
    (optBytes f o).length ≤ n + 1 := by
  cases o with
  | none => simp [optBytes]
  | some a => simpa [optBytes] using h a

theorem length_flatMap_le {α : Type} {f : α → List Byte} {n : Nat} (h : ∀ a, (f a).length ≤ n) (l : List α) :
    (l.flatMap f).length ≤ l.length * n := by
  induction l with
  | nil => simp
  | cons a l ih => have := h a; simp only [List.flatMap_cons, List.length_append, List.length_cons]; linarith

/-! ## The groups of a status response -/

theorem length_wpuBytes (s : State) : (wpuBytes s).length ≤ 22 := by
  have hopening := length_optBytes_le (f := fun o => [Opening.code o]) (n := 1) (fun _ => le_rfl) s.wpu.opening
  simp only [wpuBytes, List.length_append, List.length_cons, List.length_nil, length_be, length_wordBytes]
  omega

theorem length_trackerBytes (t : Tracker) : (trackerBytes t).length ≤ 14 := by
  have htags := length_optBytes_le (f := fun p : Cycle × Cycle => wordBytes p.1 ++ wordBytes p.2) (n := 8)
    (fun _ => by simp) (ringTags t.ring)
  simp only [trackerBytes, List.length_append, List.length_cons, List.length_nil]
  omega

theorem length_gatesBytes (t : Tracker) : (gatesBytes t).length ≤ 34 := by
  have hgates := length_flatMap_le (f := gateBytes) (n := 8) (fun g => by cases g <;> simp [gateBytes]) t.gates.toList
  simp only [Vector.length_toList] at hgates
  simp only [gatesBytes, List.length_append, length_be]
  omega

theorem length_journalBytes (j : Journal) : (journalBytes j).length ≤ 28 := by
  have holdest := length_optBytes_le (f := wordBytes) (n := 4) (fun _ => by simp) j.oldest
  have htail := length_optBytes_le (f := fun p : Cycle × Bool => wordBytes p.1 ++ [flagByte (!p.2)]) (n := 5)
    (fun _ => by simp) (tailBytes j)
  simp only [journalBytes, List.length_append, List.length_cons, List.length_nil, length_be, length_wordBytes,
    List.length_map, Vector.length_toList]
  omega

theorem length_slotsBytes (s : State) : (slotsBytes s).length ≤ 11 := by
  have hactivation := length_optBytes_le
    (f := fun a : Activation => byte a.slot :: wordBytes a.effective ++ [a.origin.code]) (n := 6) (fun _ => by simp)
    s.activation
  simp only [slotsBytes, List.length_append, List.length_map, Vector.length_toList]
  omega

theorem length_portsBytes (p : PortId) (s : State) : (portsBytes p s).length = 9 := by
  simp [portsBytes, rolesBytes]

theorem length_statusBytes (p : PortId) (s : State) : (statusBytes p s).length ≤ 121 := by
  have hwpu := length_wpuBytes s
  have htracker := length_trackerBytes s.st
  have hgates := length_gatesBytes s.st
  have hjournal := length_journalBytes s.ij
  have hslots := length_slotsBytes s
  have hports := length_portsBytes p s
  simp only [statusBytes, List.length_append, List.length_cons]
  omega

/-- A field of the ports beside the receive buffer is as it was when a frame is taken. -/
theorem takenOn_ports_map {β : Type} (p : PortId) (s : State) (f : Port → β)
    (hf : ∀ (q : Port) (b : List BufferedFrame), f { q with buffer := b } = f q) :
    (takenOn p s).ports.toList.map f = s.ports.toList.map f := by
  refine List.ext_getElem (by simp) fun i hi _ => ?_
  simp only [takenOn, modifyPort, List.getElem_map, Vector.getElem_toList, updateAt_getElem]
  split
  · exact hf ..
  · rfl

theorem takenOn_statusBytes (p : PortId) (s : State) : statusBytes p (takenOn p s) = statusBytes p s := by
  have hports : portsBytes p (takenOn p s) = portsBytes p s := by
    simp only [portsBytes, rolesBytes]
    rw [takenOn_ports_map p s _ fun _ _ => rfl, takenOn_ports_map p s _ fun _ _ => rfl]
  unfold statusBytes
  rw [hports]; rfl

/-! ## What each read answers -/

theorem readSet_held {p : PortId} {s : State} {t : Nat} {r : SetRecord} (h : setTagged s (BitVec.ofNat 32 t) = some r)
    (pg : Option Nat) : AcceptedAs p (.readSet p t pg)
      (if pg.getD 0 = 0 then setFixedBytes s r else setPageBytes s r (pg.getD 0)) id s :=
  acceptedAs_of_reply rfl (by
    have h' : setTagged (takenOn p s) (BitVec.ofNat 32 t) = some r := h
    simp only [replyReadSet, h']; rfl)

theorem readSet_absent {p : PortId} {s : State} {t : Nat} (h : setTagged s (BitVec.ofNat 32 t) = none) (pg : Option Nat) :
    RefusedAs p (.readSet p t pg) .notFound [] s :=
  refusedAs_of_reply rfl (by
    have h' : setTagged (takenOn p s) (BitVec.ofNat 32 t) = none := h
    simp only [replyReadSet, h'])

section
variable {p : PortId} {s : State} {k : SlotId} {q : SeqId} {c : Context} (hc : s.slots[(k : Nat)] = some c)
include hc

theorem readSequence_defined {x : Sequence} (hx : c.sequences[(q : Nat)] = some x) (pg : Option Nat) :
    AcceptedAs p (.readSequence p k q pg)
      (sequenceBytes x ++ listBytes (fun r => be 5 r.low ++ be 5 r.high) (pageOf 6 (pg.getD 0) (c.rangesOf q))) id s :=
  acceptedAs_of_reply rfl (by simp [replyReadSequence, inState_some (s := takenOn p s) hc, hx])

theorem readSequence_undefined (hx : c.sequences[(q : Nat)] = none) (pg : Option Nat) :
    AcceptedAs p (.readSequence p k q pg) [0] id s :=
  acceptedAs_of_reply rfl (by simp [replyReadSequence, inState_some (s := takenOn p s) hc, hx, seqStateCode])

theorem readQueue_defined {x : Sequence} (hx : c.sequences[(q : Nat)] = some x) (pg : Option Nat) :
    AcceptedAs p (.readQueue p k q pg)
      ([c.policy.code, byte c.limit, byte x.queue.length, byte (pg.getD 0)] ++
        listBytes queueEntryBytes (pageOf 8 (pg.getD 0) x.queue)) id s :=
  acceptedAs_of_reply rfl (by simp [replyReadQueue, inState_some (s := takenOn p s) hc, defined_some hx])

theorem readQueue_undefined (hx : c.sequences[(q : Nat)] = none) (pg : Option Nat) :
    RefusedAs p (.readQueue p k q pg) .notFound [] s :=
  refusedAs_of_reply rfl (by simp [replyReadQueue, inState_some (s := takenOn p s) hc, defined, hx])

theorem readContext_part {part : Nat} {f : Option Nat} {x : ContextPart}
    (hpart : ∀ g, contextPart part f g = g x) : AcceptedAs p (.readContext p k part f) (partBytes s k c x) id s :=
  acceptedAs_of_reply rfl (by
    have hc' : (takenOn p s).slots[k] = some c := hc
    simp only [replyReadContext, named_fin, hpart, hc']
    cases x <;> rfl)

end

theorem readContext_empty_summary {p : PortId} {s : State} {k : SlotId} (h : s.slots[(k : Nat)] = none) :
    AcceptedAs p (.readContext p k 0 none) [0] id s :=
  acceptedAs_of_reply rfl (by simp [replyReadContext, contextPart, h, jobStateCode])

theorem readContext_empty_list {p : PortId} {s : State} {k : SlotId} (h : s.slots[(k : Nat)] = none) :
    RefusedAs p (.readContext p k 1 none) .wrongState [] s :=
  refusedAs_of_reply rfl (by simp [replyReadContext, contextPart, h])

/-- Settles O44: each read accepts the state as it is, with the layout of its rule. -/
theorem readsAnswerAndChangeNothing : Obligations.ReadsAnswerAndChangeNothing := by
  intro p s
  refine ⟨⟨acceptedAs_of_reply rfl ?_, length_statusBytes p s⟩,
    fun t pg => ⟨fun r h => readSet_held h pg, fun h => readSet_absent h pg⟩,
    fun k q pg c hc => ⟨fun x hx => ⟨readSequence_defined hc hx pg, readQueue_defined hc hx pg⟩,
      fun hx => ⟨readSequence_undefined hc hx pg, readQueue_undefined hc hx pg⟩⟩,
    fun k c hc => ⟨readContext_part hc (x := .summary) fun _ => rfl, readContext_part hc (x := .list) fun _ => rfl,
      readContext_part hc (x := .heads) fun _ => rfl,
      fun f => readContext_part hc (x := .format f) fun g => named_fin f fun x => g (.format x),
      readContext_part hc (x := .marks) fun _ => rfl, readContext_part hc (x := .inspection) fun _ => rfl⟩,
    fun k h => ⟨readContext_empty_summary h, readContext_empty_list h⟩,
    fun h => acceptedAs_of_reply rfl ?_, fun pg => acceptedAs_of_reply rfl rfl, acceptedAs_of_reply rfl rfl,
    acceptedAs_of_reply rfl rfl⟩
  · exact congrArg _ (takenOn_statusBytes p s)
  · exact named_fin h _

/-! ## Reset -/

@[simp] theorem reset_slot (k : SlotId) : State.reset.slots[(k : Nat)] = none := by simp [State.reset]

@[simp] theorem reset_head (h : HeadId) : State.reset.hou.heads[(h : Nat)] = Head.reset := by simp [State.reset]

@[simp] theorem reset_line (i : LineId) : State.reset.lm.lines[(i : Nat)] = Line.reset := by simp [State.reset]

theorem reset_port (p : PortId) : State.reset.ports[(p : Nat)] = Port.reset (if p = 0 then .supervisor else .monitor) := by
  simp [State.reset]

@[simp] theorem reset_slotState (k : SlotId) : slotState State.reset k = none := by simp [slotState]

@[simp] theorem reset_sequenceOf (k : SlotId) (q : SeqId) : sequenceOf State.reset k q = none := by simp [sequenceOf]

theorem reset_oneSupervisor : OneSupervisor State.reset := by
  have hone : ∀ p : PortId, State.reset.ports[p].role = .supervisor → p = 0 := fun p h => by
    by_contra hp
    simp [reset_port, Port.reset, hp] at h
  exact fun p q hp hq => (hone p hp).trans (hone q hq).symm

theorem reset_portsBounded : PortsBounded State.reset := fun p => by
  simp [Port.bounded, reset_port, Port.reset, Port.noticeCount, Receiver.sound]

theorem reset_journalSound : JournalSound State.reset := by
  simp [JournalSound, Journal.indexed, Journal.tailSound, State.reset]

theorem reset_nothingRuns : NothingRuns State.reset := ⟨by simp, rfl⟩

theorem reset_runSound : RunSound State.reset where
  oneActive := by simp
  oneDraining := by simp
  suspended := by simp
  draining := by simp
  pending := fun a h => by cases h
  lags := .inl ⟨rfl, rfl, rfl⟩
  fitted := fun h => absurd reset_nothingRuns h
  owned := fun r h => by cases h
  counted := by simp
  ordered := .nil
  young := fun r h => by cases h

theorem reset_spaceSound : SpaceSound State.reset where
  fits := by decide
  sum := by decide
  covers := fun r h => by cases h
  contexts := fun k => by
    have hholds : contextHolds State.reset k = 0 := by simp [contextHolds, isPendingSlot, State.reset, slotState]
    rw [hholds]
    exact ⟨by simp [State.reset], by omega⟩
  waits := fun h => absurd rfl h
  parked := fun d h => by cases h

theorem reset_ordersSound : OrdersSound State.reset where
  placed := by simp [Head.reset]
  fitted := by simp
  outstanding := by simp [Head.reset]
  issued := by simp [Head.reset]
  waiting := fun w h => by cases h
  sending := .nil

/-- Settles O60. -/
theorem invariantsHoldAtReset : Obligations.InvariantsHoldAtReset := by
  refine ⟨by simp [CountersBalance], by simp [QueuesSound], ?_, reset_oneSupervisor, reset_portsBounded, ?_,
    reset_journalSound, by simp [ExclusionsSound], reset_runSound, reset_spaceSound, reset_ordersSound, trivial, ?_⟩
  · simp [LinesUnique, Line.reset, LineFunction.isGeneral]
  · simp [WebInRange, Wpu.inRange, State.reset]
  · simp [lineDrive, driveOf, Line.reset]

end Sys2Proof.Machine
end

section
/-! PROOFS. What every step keeps of the press and the ports: the functions of the field lines, the roles and bounds of the
ports, the ranges of the WPU and the receiver of the head link. -/

namespace Sys2Proof.Machine

/-! ## The relation -/

/-- The fields that the invariants of press and ports speak of. -/
def State.press (s : State) : LineMatrix × Vector Port 4 × Wpu × Receiver := (s.lm, s.ports, s.wpu, s.hou.receiver)

/-- What holds of the lines, the ports, the WPU and the head link's receiver before a change holds after it. -/
structure KeepsPress (s t : State) : Prop where
  lines : LinesUnique s → LinesUnique t
  roles : OneSupervisor s → OneSupervisor t
  ports : PortsBounded s → PortsBounded t
  web : WebInRange s → WebInRange t
  receiver : s.hou.receiver.sound → t.hou.receiver.sound

namespace KeepsPress

theorem refl (s : State) : KeepsPress s s := ⟨id, id, id, id, id⟩

theorem trans {s t u : State} (h : KeepsPress s t) (g : KeepsPress t u) : KeepsPress s u :=
  ⟨g.lines ∘ h.lines, g.roles ∘ h.roles, g.ports ∘ h.ports, g.web ∘ h.web, g.receiver ∘ h.receiver⟩

/-- A change beside these fields. -/
theorem of_eq {s t : State} (h : t.press = s.press) : KeepsPress s t := by
  simp only [State.press, Prod.mk.injEq] at h
  obtain ⟨hlm, hports, hwpu, hreceiver⟩ := h
  exact ⟨by simp [LinesUnique, hlm], by simp [OneSupervisor, hports], by simp [PortsBounded, hports],
    by simp [WebInRange, hwpu], by simp [hreceiver]⟩

/-- A change beside these fields, before another change. -/
theorem after_eq {s t u : State} (g : KeepsPress t u) (h : t.press = s.press := by rfl) : KeepsPress s u := (of_eq h).trans g

/-- A change beside these fields, after another change. -/
theorem then_eq {s t u : State} (g : KeepsPress s t) (h : u.press = t.press := by rfl) : KeepsPress s u := g.trans (of_eq h)

theorem foldl {σ α : Type} (f : σ → State) {g : σ → α → σ} (h : ∀ s x, KeepsPress (f s) (f (g s x))) (l : List α)
    (s : σ) : KeepsPress (f s) (f (l.foldl g s)) := by
  induction l generalizing s with
  | nil => exact refl _
  | cons x xs ih => exact (h s x).trans (ih _)

theorem ite {s t u : State} {b : Prop} [Decidable b] (h : b → KeepsPress s t) (g : ¬b → KeepsPress s u) :
    KeepsPress s (if b then t else u) := by
  split
  · exact h ‹_›
  · exact g ‹_›

/-- A change of the lines that leaves each its function. -/
theorem of_lines {s : State} {v : Vector Line 24} (h : ∀ i : LineId, v[i].function = s.lm.lines[i].function) :
    KeepsPress s { s with lm := { s.lm with lines := v } } where
  lines hs i j hij hg := hs i j ((h i).symm.trans (hij.trans (h j))) (by rw [← h i]; exact hg)
  roles := id
  ports := id
  web := id
  receiver := id

/-- A change of the ports that leaves each its role and its bounds. -/
theorem of_ports {s : State} {v : Vector Port 4} (hr : ∀ p : PortId, v[p].role = s.ports[p].role)
    (hb : ∀ p : PortId, s.ports[p].bounded → v[p].bounded) : KeepsPress s { s with ports := v } where
  lines := id
  roles hs p q hp hq := hs p q ((hr p).symm.trans hp) ((hr q).symm.trans hq)
  ports hs p := hb p (hs p)
  web := id
  receiver := id

/-- A change of the WPU within its ranges. -/
theorem of_wpu {s : State} {f : Wpu → Wpu} (h : s.wpu.inRange → (f s.wpu).inRange) : KeepsPress s (modifyWpu f s) where
  lines := id
  roles := id
  ports := id
  web := h
  receiver := id

/-- A change of the head link's fields that leaves a sound receiver. -/
theorem of_hou {s : State} {x : Hou} (h : s.hou.receiver.sound → x.receiver.sound) : KeepsPress s { s with hou := x } where
  lines := id
  roles := id
  ports := id
  web := id
  receiver := h

end KeepsPress

/-! ## Ports -/

theorem Port.offer_role (category : Nat) (body : List Byte) (q : Port) : (q.offer category body).role = q.role := by
  unfold Port.offer; (repeat' split) <;> rfl

/-- A notice is queued only where there is room for it (R195). -/
theorem Port.offer_bounded {category : Nat} {body : List Byte} {q : Port} (h : q.bounded) :
    (q.offer category body).bounded := by
  unfold Port.offer
  split
  · split
    · rename_i hroom
      obtain ⟨hbuffer, -, hframes, hreceiver⟩ := h
      refine ⟨hbuffer, ?_, hframes, hreceiver⟩
      simpa [Port.noticeCount, List.filter_append] using hroom
    · exact h
  · exact h

theorem notify_press (k : NoticeKind) (b : List Byte) (s : State) : KeepsPress s (notify k b s) :=
  .of_ports (fun p => by simp [Port.offer_role]) fun p h => by simpa using Port.offer_bounded h

theorem modifyPort_press {p : PortId} {s : State} {f : Port → Port} (hr : (f s.ports[p]).role = s.ports[p].role)
    (hb : s.ports[p].bounded → (f s.ports[p]).bounded) : KeepsPress s (modifyPort p f s) := by
  refine .of_ports (fun j => ?_) fun j h => ?_
  · simp only [Fin.getElem_fin, updateAt_getElem]; split
    · rename_i hpj; obtain rfl := Fin.ext hpj; exact hr
    · rfl
  · simp only [Fin.getElem_fin, updateAt_getElem]; split
    · rename_i hpj; obtain rfl := Fin.ext hpj; exact hb h
    · exact h

theorem Port.receive_role (f : RxFrame) (q : Port) : (q.receive f).role = q.role := by
  unfold Port.receive; split <;> rfl

theorem Port.receive_bounded {f : RxFrame} (hf : f.wf = true) {q : Port} (h : q.bounded) : (q.receive f).bounded := by
  obtain ⟨hbuffer, hnotices, hframes, hreceiver⟩ := h
  unfold Port.receive
  split
  · refine ⟨by simp; omega, hnotices, fun b hb => ?_, hreceiver⟩
    rcases List.mem_append.mp hb with hb | hb
    · exact hframes b hb
    · obtain rfl := List.mem_singleton.mp hb; exact hf
  · exact ⟨hbuffer, hnotices, hframes, hreceiver⟩

theorem receive_press (p : PortId) {f : RxFrame} (hf : f.wf = true) (s : State) :
    KeepsPress s (modifyPort p (Port.receive f) s) :=
  modifyPort_press (Port.receive_role f _) (Port.receive_bounded hf)

theorem endFrame_press {p : PortId} {f : RxFrame} {s : State} (hf : s.ports[p].bounded → f.wf = true) :
    KeepsPress s (endFrame p f s) :=
  modifyPort_press (Port.receive_role f { s.ports[p] with receiver := .hunting }) fun h => by
    have ⟨hbuffer, hnotices, hframes, _⟩ := h
    exact Port.receive_bounded (hf h) ⟨hbuffer, hnotices, hframes, trivial⟩

theorem length_markTaken (b : List BufferedFrame) : (markTaken b).length = b.length := by
  induction b with
  | nil => rfl
  | cons f fs ih => unfold markTaken; split <;> simp [ih]

/-- The taking of a frame leaves the frames themselves as they are. -/
theorem frame_of_mem_markTaken {b : List BufferedFrame} {f : BufferedFrame} (h : f ∈ markTaken b) :
    ∃ g ∈ b, g.frame = f.frame := by
  induction b with
  | nil => cases h
  | cons g gs ih =>
    unfold markTaken at h
    split at h
    · rcases List.mem_cons.mp h with rfl | h
      · exact ⟨f, List.mem_cons_self .., rfl⟩
      · obtain ⟨x, hx, e⟩ := ih h
        exact ⟨x, List.mem_cons_of_mem _ hx, e⟩
    · rcases List.mem_cons.mp h with rfl | h
      · exact ⟨g, List.mem_cons_self .., rfl⟩
      · exact ⟨f, List.mem_cons_of_mem _ h, rfl⟩

/-- A frame that arrives where there is room may be taken at once (log 2). -/
theorem arrive_press {p : PortId} {f : RxFrame} {s : State} (hroom : s.ports[p].buffer.length < 2) (hf : f.wf = true) :
    KeepsPress s (modifyPort p (fun q => { q with buffer := q.buffer ++ [{ frame := f, taken := true }] }) s) := by
  refine modifyPort_press rfl fun ⟨_, hnotices, hframes, hreceiver⟩ => ⟨?_, hnotices, fun b hb => ?_, hreceiver⟩
  · simp only [List.length_append, List.length_singleton]; omega
  · rcases List.mem_append.mp hb with hb | hb
    · exact hframes b hb
    · obtain rfl := List.mem_singleton.mp hb; exact hf

theorem takeFrame_press {p : PortId} {f : RxFrame} (hf : f.wf = true) (s : State) :
    (∀ t, takeFrame p f s = .waits t → KeepsPress s t) ∧ ∀ t, takeFrame p f s = .taken t → KeepsPress s t := by
  have hmark : KeepsPress s (modifyPort p (fun q => { q with buffer := markTaken q.buffer }) s) :=
    modifyPort_press rfl fun ⟨hbuffer, hnotices, hframes, hreceiver⟩ =>
      ⟨by simpa [length_markTaken] using hbuffer, hnotices, fun b hb => by
        obtain ⟨g, hg, e⟩ := frame_of_mem_markTaken hb
        exact e ▸ hframes g hg, hreceiver⟩
  unfold takeFrame
  split
  · split
    · simpa using hmark
    · simpa using receive_press p hf s
  · split
    · rename_i hroom
      simpa using arrive_press hroom hf
    · simpa using receive_press p hf s

/-- A response takes no place in the notice queue. -/
theorem answerAt_press (p : PortId) (place code : Nat) (st : Status) (r : List Byte) (s : State) :
    KeepsPress s (answerAt p place code st r s) :=
  modifyPort_press rfl fun ⟨hbuffer, hnotices, hframes, hreceiver⟩ => by
    refine ⟨hbuffer, ?_, hframes, hreceiver⟩
    have hsplit := congrArg (fun l => (l.filter fun f : OutFrame => !f.response).length) (s.ports[p].out.take_append_drop place)
    simp only [List.filter_append, List.length_append] at hsplit
    simpa [Port.noticeCount, List.filter_append] using hsplit.trans_le hnotices

theorem onFrame_press {p : PortId} {body : List Byte} {f : State → State} (hf : ∀ u, KeepsPress u (f u)) (s : State) :
    KeepsPress s (onFrame p body f s) := by
  rcases onFrame_cases p body f s with ⟨-, e⟩ | ⟨hb, h⟩
  · exact e ▸ receive_press p rfl s
  · obtain ⟨hwaits, htaken⟩ := takeFrame_press (p := p) (f := .sound body) hb s
    rcases h with ⟨t, ht, e⟩ | ⟨u, hu, e⟩
    · exact e ▸ hwaits t ht
    · exact e ▸ (htaken u hu).trans (hf u)

theorem serve_press {p : PortId} {code : Nat} {act : State → Reply} {s : State} (h : (act s).Ensures (KeepsPress s)) :
    KeepsPress s (serve p code act s) := by
  simp only [serve]
  split
  · cases e : act s with
    | accept t r => rw [e] at h; exact KeepsPress.trans h (answerAt_press ..)
    | refuse st r => exact answerAt_press ..
  · exact answerAt_press ..

/-- A request keeps what its acceptance keeps. -/
theorem request_press {p : PortId} {c : Instr} {act : State → Reply} {s t : State} (h : request p c act s = .next t)
    (ha : ∀ u, (act u).Ensures (KeepsPress u)) : KeepsPress s t := by
  cases h
  exact onFrame_press (fun u => serve_press (ha u)) s

/-! ## Lines, stop causes, gates and the journal -/

theorem showDriven_press (f : LineFunction) (v : Bool) (s : State) : KeepsPress s (showDriven f v s) :=
  .of_lines fun i => by simp only [Fin.getElem_fin, mapTable_getElem]; split <;> rfl

theorem changeStops_press (c : StopCause) (n : StopSet) (b : Byte) (s : State) : KeepsPress s (changeStops c n b s) := by
  have hstops : KeepsPress s { s with lm := { s.lm with stops := n } } := ⟨id, id, id, id, id⟩
  unfold changeStops
  refine .trans (.ite (fun _ => hstops) fun _ => ?_) (notify_press ..)
  exact hstops.trans (showDriven_press ..)

theorem latchStop_press (c : StopCause) (s : State) : KeepsPress s (latchStop c s) :=
  .ite (fun _ => .refl s) fun _ => changeStops_press ..

theorem setGateRecord_press (k : LaneId) (g : Gate) (s : State) : KeepsPress s (setGateRecord k g s) := by
  unfold setGateRecord
  exact .ite (fun _ => .of_eq rfl) fun _ => (showDriven_press ..).after_eq

theorem gateStep_press (due : Option SetRecord) (s : State) : KeepsPress s (gateStep due s) :=
  .foldl id (fun _ _ => setGateRecord_press ..) _ s

theorem releaseGates_press (s : State) : KeepsPress s (releaseGates s) := by
  refine .foldl id (fun u k => ?_) _ s
  simp only [id]
  split
  · exact .ite (fun _ => setGateRecord_press ..) fun _ => .refl u
  · exact .refl u
  · exact .refl u

theorem testThreshold_press (s : State) : KeepsPress s (testThreshold s) :=
  .ite (fun _ => latchStop_press ..) fun _ => .refl s

theorem journalUnreserved_press (k : SlotId) (job : Nat) (t : Cycle) (b : RecordBody) (s : State) :
    KeepsPress s (journalUnreserved k job t b s) :=
  (testThreshold_press _).after_eq

theorem appendContextRecord_press (d : Deferred) (s : State) : KeepsPress s (appendContextRecord d s) := by
  unfold appendContextRecord
  split
  · exact journalUnreserved_press ..
  · exact .of_eq rfl

theorem contextRecord_press (d : Deferred) (s : State) : KeepsPress s (contextRecord d s) :=
  .ite (fun _ => appendContextRecord_press ..) fun _ => .of_eq rfl

theorem appendDeferred_press (l : List Deferred) (s : State) : KeepsPress s (appendDeferred l s) := by
  induction l generalizing s with
  | nil => exact .of_eq rfl
  | cons d ds ih =>
    exact .ite (fun _ => (appendContextRecord_press d s).trans (ih _)) fun _ => .of_eq rfl

theorem resumeSkip_press (s : State) : KeepsPress s (resumeSkip s) := .of_eq (by simp [State.press])

theorem afterRaise_press (s : State) : KeepsPress s (afterRaise s) :=
  (appendDeferred_press _ s).trans (resumeSkip_press _)

theorem returnReserved_press (n : Nat) (s : State) : KeepsPress s (returnReserved n s) :=
  .ite (fun _ => .refl s) fun _ => (afterRaise_press _).after_eq

theorem reserveRecords_press (n : Nat) (s : State) : KeepsPress s (reserveRecords n s) :=
  .ite (fun _ => .refl s) fun _ => (testThreshold_press _).after_eq

theorem parkContext_press (k : SlotId) (s : State) : KeepsPress s (parkContext k s) := by
  unfold parkContext
  split
  · exact .refl s
  · exact (contextRecord_press ..).after_eq

theorem notifyJob_press (k : SlotId) (job : Option Nat) (a b : Option JobState) (s : State) :
    KeepsPress s (notifyJob k job a b s) :=
  notify_press ..

/-! ## The boundary -/

theorem closeMeasurement_press (c : CloseCause) (s : State) : KeepsPress s (closeMeasurement c s) := by
  unfold closeMeasurement
  split
  · exact .refl s
  · extract_lets record mtu closed judged
    have hjudged : KeepsPress s judged := by
      simp only [judged]
      split <;> exact .of_eq rfl
    refine .ite (fun _ => ?_) fun _ => hjudged
    have hfault := hjudged.trans (notify_press .regFault (regFaultPayload record) judged)
    exact .ite (fun _ => hfault.trans (latchStop_press ..)) fun _ => hfault

theorem followMeasurement_press (s : State) : KeepsPress s (followMeasurement s) := by
  unfold followMeasurement
  split
  · exact .ite (fun _ => (closeMeasurement_press ..).after_eq) fun _ => .of_eq rfl
  · exact .refl s

theorem takeMark_press (k : ChannelId) (h : Hit) (s : State) : KeepsPress s (takeMark k h s) := by
  unfold takeMark
  split
  · refine .ite (fun _ => .ite (fun _ => ?_) fun _ => .of_eq rfl) fun _ => .refl s
    exact .ite (fun _ => (closeMeasurement_press ..).after_eq) fun _ => .of_eq rfl
  · exact .refl s

theorem markEdge_press (k : ChannelId) (s : State) : KeepsPress s (markEdge k s) :=
  .ite (fun _ => .refl s) fun _ => takeMark_press ..

theorem measureBoundary_press (s : State) : KeepsPress s (measureBoundary s) :=
  (KeepsPress.ite (fun _ => closeMeasurement_press .boundary s) fun _ => .refl s).then_eq

theorem removeSet_press (r : SetRecord) (a : Settling) : KeepsPress a.state (removeSet r a) := by
  unfold removeSet
  extract_lets state st s1 s2 job s3
  have h2 : KeepsPress a.state s2 := .after_eq (t := modifyContext _ _ s1) (returnReserved_press ..)
  have h3 : KeepsPress a.state s3 := .ite (fun _ => h2.trans (notify_press ..)) fun _ => h2
  split
  · exact .ite (fun _ => h3.trans ((parkContext_press ..).trans (notifyJob_press ..))) fun _ => h3
  · exact h3

theorem settleLane_press (r : SetRecord) (a : Settling) (l : LaneId) :
    KeepsPress a.state (settleLane r a l).state :=
  .of_eq (by simp [State.press])

theorem retire_press (s : State) : KeepsPress s (retire s) := by
  unfold retire
  split
  · exact gateStep_press ..
  · rename_i r _
    refine (gateStep_press (some r) s).trans (.trans ?_ (removeSet_press r _))
    exact .foldl Settling.state (settleLane_press r) (List.finRange 4)
      { state := gateStep (some r) s, left := r.reservation }

theorem fillFresh_press (k : SlotId) (l : LaneId) (q : SeqId) (x : Sequence) (ranges : List Exclusion) (a : Filling) :
    KeepsPress a.state (fillFresh k l q x ranges a).state := by
  unfold fillFresh
  split
  · exact .of_eq (by simp [State.press])
  · refine .trans ?_ (latchStop_press ..)
    exact (returnReserved_press ..).after_eq (by simp [State.press])

theorem fillEntry_press (k : SlotId) (a : Filling) (e : AllocEntry) : KeepsPress a.state (fillEntry k a e).state := by
  unfold fillEntry
  split
  · exact .of_eq rfl
  · exact .of_eq rfl
  · split
    · exact .of_eq rfl
    · split
      · exact .of_eq rfl
      · split
        · exact .of_eq rfl
        · exact fillFresh_press ..

theorem numberSet_press (k : SlotId) (l : List AllocEntry) (s : State) : KeepsPress s (numberSet k l s).state := by
  unfold numberSet
  split
  · exact (reserveRecords_press (freshCount l) s).trans (.foldl Filling.state (fillEntry_press k) l
      { state := reserveRecords (freshCount l) s, parts := [], left := freshCount l })
  · exact .refl s

theorem allocate_press (s : State) : KeepsPress s (allocate s) := by
  unfold allocate
  split
  · split
    · exact .refl s
    · exact (numberSet_press ..).then_eq
  · exact .refl s

theorem demote_press (k : SlotId) (s : State) : KeepsPress s (demote k s) := by
  unfold demote
  split
  · exact .refl s
  · exact .ite (fun _ => .of_eq rfl) fun _ => parkContext_press ..

theorem changeover_press (s : State) : KeepsPress s (changeover s) := by
  unfold changeover
  split
  · exact .refl s
  · refine .ite (fun _ => ?_) fun _ => .refl s
    split
    · exact .of_eq rfl
    · extract_lets old s1 s2 s3 s4
      have h2 : KeepsPress s s2 := (contextRecord_press ..).after_eq
      clear_value old
      cases old with
      | none => exact h2.trans (notifyJob_press ..)
      | some k => exact h2.trans ((demote_press k s2).trans ((notifyJob_press ..).trans (notifyJob_press ..)))

theorem suspension_press (s : State) : KeepsPress s (suspension s) := by
  unfold suspension
  split
  · exact .refl s
  · split
    · exact .refl s
    · exact .ite (fun _ => (notifyJob_press ..).after_eq) fun _ => .refl s

theorem replyWithin_press {c : Instr} {act : State → Reply} (hc : replyWithin c = some act) (s : State) :
    (act s).Ensures (KeepsPress s) := by
  cases h : act s with
  | refuse => trivial
  | accept t r =>
    rcases replyWithin_accept hc h with rfl | ⟨start, n, rfl⟩ | ⟨k, x, q, e, rfl⟩
    · exact .refl t
    · exact .of_eq rfl
    · exact (journalUnreserved_press ..).after_eq

theorem takeWithin_press (s : State) (p : PortId) : KeepsPress s (takeWithin s p) := by
  rcases takeWithin_cases s p with h | ⟨body, c, act, -, -, ha, h⟩
  · rw [h]; exact .refl s
  · rw [h]; exact onFrame_press (fun u => serve_press (replyWithin_press ha u)) s

theorem trackBoundary_press (o : BoundaryOrder) (s : State) : KeepsPress s (trackBoundary o s) := by
  have hs := (changeover_press s).trans (suspension_press _)
  have hrequests : ∀ u : State, KeepsPress u (o.requests.foldl takeWithin u) := .foldl id takeWithin_press _
  unfold trackBoundary
  exact .ite (fun _ => hs.trans ((retire_press _).trans ((hrequests _).trans (allocate_press _))))
    fun _ => hs.trans ((allocate_press _).trans ((hrequests _).trans (retire_press _)))

/-! ### The heads: the receiver of the head link is left alone -/

@[simp] theorem settleLate_receiver (h : HeadId) (t : Cycle) (s : State) :
    (settleLate h t s).hou.receiver = s.hou.receiver := rfl
@[simp] theorem settleFailed_receiver (h : HeadId) (t : Cycle) (s : State) :
    (settleFailed h t s).hou.receiver = s.hou.receiver := rfl
@[simp] theorem settlePrinted_receiver (h : HeadId) (t : Cycle) (s : State) :
    (settlePrinted h t s).hou.receiver = s.hou.receiver := rfl
@[simp] theorem expireHead_receiver (h : HeadId) (s : State) : (expireHead h s).hou.receiver = s.hou.receiver := by
  unfold expireHead
  split
  · rfl
  · simp only []; split <;> rfl
@[simp] theorem issueHead_receiver (h : HeadId) (s : State) : (issueHead h s).hou.receiver = s.hou.receiver := by
  unfold issueHead issueOrder
  simp only []
  (repeat' split) <;> rfl
@[simp] theorem sendOrder_receiver (s : State) : (sendOrder s).hou.receiver = s.hou.receiver := by
  unfold sendOrder; split <;> rfl
@[simp] theorem failOrders_receiver (h : HeadId) (s : State) : (failOrders h s).hou.receiver = s.hou.receiver :=
  foldl_keeps (fun s : State => s.hou.receiver) (fun _ _ => settleFailed_receiver ..) _ s

theorem headStep_press (s : State) (x : HouStep) : KeepsPress s (headStep s x) := by
  refine .of_eq ?_
  have hreceiver : (headStep s x).hou.receiver = s.hou.receiver := by
    cases x with
    | head h => simp only [headStep, headBoundary]; split <;> simp
    | link l =>
      cases l with
      | chooses => simp only [headStep, sendOlder]; (repeat' split) <;> simp
      | ends => rfl
  simp [State.press, hreceiver]

theorem handStep_press (s : State) (x : HouStep) : KeepsPress s (handStep s x) := by
  refine .of_eq ?_
  have hreceiver : (handStep s x).hou.receiver = s.hou.receiver := by
    cases x with
    | head h => simp only [handStep]; split <;> simp
    | link l =>
      cases l with
      | chooses => exact sendOrder_receiver s
      | ends => rfl
  simp [State.press, hreceiver]

theorem runPhase_press (o : BoundaryOrder) (n : Option WebNotice) (s : State) (p : Phase) :
    KeepsPress s (runPhase o n s p) := by
  cases p with
  | measure => exact measureBoundary_press s
  | window => exact .of_eq (by simp [runPhase, State.press])
  | track => exact trackBoundary_press o s
  | heads => exact .foldl id headStep_press _ s
  | webNotice =>
    cases n with
    | none => exact .refl s
    | some w => exact notify_press ..

theorem boundaryWork_press (o : BoundaryOrder) (n : Option WebNotice) (s : State) : KeepsPress s (boundaryWork o n s) :=
  (KeepsPress.foldl id (runPhase_press o n) _ s).trans (.foldl id handStep_press _ _)

/-- A boundary puts the position where it is told; every caller tells it a place within the cycle (R32, R36, R41). -/
theorem boundary_press (k : Opening) {pos : Nat} (n : Option WebNotice) {s : State} (hb : s.wpu.backed = false)
    (hpos : s.wpu.inRange → pos < s.wpu.repeatLength + s.wpu.tolerance) : KeepsPress s (boundary k pos n s) := by
  refine .trans (t := modifyWpu (Wpu.openCycle k pos) s) (.of_wpu fun h => ?_) (.after_eq (boundaryWork_press ..))
  obtain ⟨hrl, hrl', htol, -, hinterval, hage, -, hclear⟩ := id h
  exact ⟨hrl, hrl', htol, hpos h, hinterval, hage, fun h => by simp [Wpu.openCycle, hb] at h, hclear⟩

/-! ## The events -/

theorem Wpu.edge_inRange (d : Direction) {w : Wpu} (h : w.inRange) : (w.edge d).inRange := by
  obtain ⟨hrl, hrl', htol, hpos, -, hage, hbacked, hclear⟩ := h
  exact ⟨hrl, hrl', htol, hpos, hage, Nat.zero_le _, hbacked, hclear⟩

/-- A change of the position to a place within the cycle, while not BACKED. -/
theorem modifyPosition_press {s : State} {f : Wpu → Wpu} (p : Nat) (pending : IndexPending)
    (hf : f s.wpu = { s.wpu with position := p, indexPending := pending }) (hb : s.wpu.backed = false)
    (hpos : s.wpu.inRange → p < s.wpu.repeatLength + s.wpu.tolerance) : KeepsPress s (modifyWpu f s) :=
  .of_wpu fun h => by
    obtain ⟨hrl, hrl', htol, -, hinterval, hage, -, hclear⟩ := id h
    rw [hf]
    exact ⟨hrl, hrl', htol, hpos h, hinterval, hage, fun h => by simp [hb] at h, hclear⟩

/-- The position after a forward edge lies within the cycle, and so does the surplus that a boundary carries (R36). -/
theorem forwardEdge_press {s : State} (hb : s.wpu.backed = false) : KeepsPress s (forwardEdge s) := by
  have hcount : ∀ {u : State}, u.wpu.backed = false →
      (u.wpu.inRange → u.wpu.position + 1 < u.wpu.repeatLength + u.wpu.tolerance) →
      KeepsPress u (releaseGates (followMeasurement (modifyWpu (fun w => { w with position := u.wpu.position + 1 }) u))) :=
    fun hb h => (modifyPosition_press _ _ rfl hb h).trans ((followMeasurement_press _).trans (releaseGates_press _))
  have hbound : s.wpu.inRange → s.wpu.position + 1 - s.wpu.repeatLength < s.wpu.repeatLength + s.wpu.tolerance := by
    rintro ⟨hrl, -, -, hpos, -⟩; omega
  unfold forwardEdge
  simp only []
  refine .ite (fun _ => .ite (fun _ => boundary_press _ _ hb hbound) fun h => hcount hb fun _ => by omega)
    fun _ => .ite (fun _ => boundary_press _ _ hb hbound) fun h => hcount hb fun _ => by omega

theorem backedForward_press {s : State} (hb : s.wpu.backed = true) : KeepsPress s (backedForward s) := by
  unfold backedForward
  refine .ite (fun _ => ?_) fun hd => .of_wpu ?_
  · refine .trans (.of_wpu ?_) (notify_press ..)
    rintro ⟨hrl, hrl', htol, -, hinterval, hage, -⟩
    exact ⟨hrl, hrl', htol, by dsimp only; omega, hinterval, hage, nofun, fun _ => ⟨rfl, rfl⟩⟩
  · rintro ⟨hrl, hrl', htol, hpos, hinterval, hage, hbacked, -⟩
    obtain ⟨hzero, -, hmax, hmax'⟩ := hbacked hb
    exact ⟨hrl, hrl', htol, hpos, hinterval, hage, fun _ => ⟨hzero, by dsimp only; omega, by dsimp only; omega, hmax'⟩,
      fun h => by simp [hb] at h⟩

theorem reverseEdge_press {s : State} (hb : s.wpu.backed = false) : KeepsPress s (reverseEdge s) := by
  unfold reverseEdge
  refine .ite (fun _ => ?_) fun hzero => ?_
  · refine .trans (modifyPosition_press _ _ rfl hb ?_) (followMeasurement_press _)
    rintro ⟨-, -, -, hpos, -⟩; omega
  · refine .trans (.of_wpu ?_) (notify_press ..)
    rintro ⟨hrl, hrl', htol, hpos, hinterval, hage, -⟩
    exact ⟨hrl, hrl', htol, hpos, hinterval, hage, fun _ => ⟨by dsimp only; omega, le_rfl, le_rfl, by dsimp only; omega⟩, nofun⟩

theorem backedReverse_press {s : State} (hb : s.wpu.backed = true) : KeepsPress s (backedReverse s) := by
  unfold backedReverse
  extract_lets d s1
  have h1 : KeepsPress s s1 := .of_wpu fun ⟨hrl, hrl', htol, hpos, hinterval, hage, hbacked, _⟩ => by
    obtain ⟨hzero, hone, hmax, hmax'⟩ := hbacked hb
    exact ⟨hrl, hrl', htol, hpos, hinterval, hage, fun _ => ⟨hzero, by simp only [d]; omega, by simp only []; omega,
      by simp only [d]; omega⟩, fun h => by simp [hb] at h⟩
  refine .ite (fun _ => h1.trans (.trans (.of_wpu ?_) (notify_press ..))) fun _ => h1
  rintro ⟨hrl, hrl', htol, hpos, hinterval, hage, hbacked, -⟩
  exact ⟨hrl, hrl', htol, hpos, hinterval, hage, hbacked, fun h => by simp [s1, hb] at h⟩

theorem countedEdge_press (d : Direction) (s : State) : KeepsPress s (countedEdge d s) := by
  unfold countedEdge
  split <;> rename_i hb
  · exact forwardEdge_press hb
  · exact backedForward_press hb
  · exact reverseEdge_press hb
  · exact backedReverse_press hb

theorem judgeTransition_press (r now : Levels) (s : State) : KeepsPress s (judgeTransition r now s) := by
  have href : KeepsPress s (modifyWpu (fun w => { w with reference := some now }) s) := .of_wpu id
  have hedge : ∀ d u, KeepsPress u (countedEdge d (modifyWpu (Wpu.edge d) u)) := fun d u =>
    .trans (.of_wpu (Wpu.edge_inRange d)) (countedEdge_press d _)
  unfold judgeTransition
  simp only []
  split
  · exact .refl s
  · exact href.trans (hedge ..)
  · exact href.trans (hedge ..)
  · exact href.trans (notify_press ..)

theorem watchEncoder_press (s : State) : KeepsPress s (watchEncoder s) := by
  unfold watchEncoder
  split
  · exact judgeTransition_press ..
  · exact .refl s

theorem indexSetsBack_press {s : State} (hb : s.wpu.backed = false) : KeepsPress s (indexSetsBack s) :=
  .trans (modifyPosition_press 0 .none rfl hb fun ⟨hrl, _⟩ => by omega) (followMeasurement_press _)

theorem takeIndex_press (s : State) : KeepsPress s (takeIndex s) := by
  unfold takeIndex
  refine .ite (fun ⟨_, hb⟩ => ?_) fun _ => .refl s
  have hstart : s.wpu.inRange → 0 < s.wpu.repeatLength + s.wpu.tolerance := fun ⟨hrl, _⟩ => by omega
  unfold judgeIndex
  refine .ite (fun _ => boundary_press _ _ hb hstart) fun _ => .ite (fun _ => ?_) fun _ => .ite (fun _ => ?_) fun _ =>
    .ite (fun _ => boundary_press _ _ hb hstart) fun _ => .refl s
  · exact (indexSetsBack_press hb).trans (notify_press ..)
  · exact indexSetsBack_press hb

theorem hearLine_press (f : LineFunction) (level : Bool) (s : State) : KeepsPress s (hearLine f level s) := by
  unfold hearLine
  split
  · exact watchEncoder_press s
  · exact watchEncoder_press s
  · exact .ite (fun _ => takeIndex_press s) fun _ => .refl s
  · exact .ite (fun _ => markEdge_press ..) fun _ => .refl s
  all_goals exact .refl s

theorem startRole_eq_supervisor {levels : BitVec 24} {p : PortId} :
    startRole levels p = .supervisor ↔
      strappedRole levels p = .supervisor ∧ ∀ q, q < p → strappedRole levels q ≠ .supervisor := by
  unfold startRole
  by_cases hp : strappedRole levels p = .supervisor <;> simp [hp]

/-- Of the ports strapped SUPERVISOR only the lowest-lettered one takes it (R178). -/
theorem startRole_supervisor_unique {levels : BitVec 24} {p q : PortId} (hp : startRole levels p = .supervisor)
    (hq : startRole levels q = .supervisor) : p = q := by
  rw [startRole_eq_supervisor] at hp hq
  rcases lt_trichotomy p q with h | h | h
  · exact absurd hp.1 (hq.2 p h)
  · exact h
  · exact absurd hq.1 (hp.2 q h)

/-- A device reset puts every line on GEN_IN, gives one port at most SUPERVISOR and empties ports and receivers. -/
theorem execDeviceReset_press {levels : BitVec 24} {s t : State} (h : execDeviceReset levels s = .next t) :
    KeepsPress s t := by
  cases h
  refine ⟨fun _ i j _ hg => ?_, fun _ p q hp hq => ?_, fun _ p => ?_, fun _ => ?_, fun _ => trivial⟩
  · simp [Line.reset, LineFunction.isGeneral] at hg
  · simp only [Fin.getElem_fin, tabulate_getElem, Port.reset] at hp hq
    exact startRole_supervisor_unique hp hq
  · simp [Port.bounded, Port.reset, Port.noticeCount, Receiver.sound]
  · simp [WebInRange, Wpu.inRange, State.reset]

/-! ### The head link -/

theorem takeCompletion_press (h : HeadId) (t : Cycle) (res : PrintResult) (s : State) :
    KeepsPress s (takeCompletion h t res s) := by
  unfold takeCompletion
  refine .ite (fun _ => ?_) fun _ => notify_press ..
  cases res <;> exact .of_eq (by simp [State.press])

theorem setDevice_press (h : HeadId) (d : Device) (s : State) : KeepsPress s (setDevice h d s) :=
  .ite (fun _ => .refl s) fun _ => (notify_press ..).after_eq

theorem takeStateMessage_press (h : HeadId) (rep : HeadReport) (s : State) :
    KeepsPress s (takeStateMessage h rep s) := by
  unfold takeStateMessage
  split
  · exact setDevice_press ..
  · have hfail : KeepsPress s (failOrders h s) := .of_eq (by simp [State.press])
    exact .trans (.ite (fun _ => hfail.trans (latchStop_press ..)) fun _ => hfail) (setDevice_press ..)

theorem takeHeadFrame_press (f : RxFrame) (s : State) : KeepsPress s (takeHeadFrame f s) := by
  unfold takeHeadFrame
  split
  · exact .refl s
  · split
    · split
      · exact .ite (fun _ => takeCompletion_press ..) fun _ => .ite (fun _ => takeCompletion_press ..) fun _ => .refl s
      · exact .refl s
    · split
      · exact .ite (fun _ => takeStateMessage_press ..) fun _ => .ite (fun _ => takeStateMessage_press ..) fun _ => .refl s
      · exact .refl s
    · exact .refl s

theorem headLinkHunting_press (s : State) : KeepsPress s (headLinkHunting s) := .of_hou fun _ => trivial

/-- A byte leaves a receiver sound, and a frame that it ends is one that a frame can carry (R188). -/
theorem Receiver.step_sound {r : Receiver} (h : r.sound) (b : Byte) :
    (∀ r', r.step b = .within r' → r'.sound) ∧ ∀ f, r.step b = .ended f → f.wf = true := by
  cases r with
  | hunting =>
    refine ⟨fun r' e => ?_, nofun⟩
    simp only [Receiver.step, RxStep.within.injEq] at e
    subst e; split <;> trivial
  | length =>
    simp only [Receiver.step]
    split
    · rename_i hb
      refine ⟨fun r' e => ?_, nofun⟩
      cases e
      exact ⟨hb.2, hb.1⟩
    · refine ⟨nofun, fun f e => ?_⟩
      cases e; rfl
  | body n got =>
    obtain ⟨hn, hgot⟩ := h
    refine ⟨fun r' e => ?_, nofun⟩
    simp only [Receiver.step, RxStep.within.injEq] at e
    subst e
    split
    · exact ⟨hn, by simpa⟩
    · exact ⟨by simp, by simp; omega⟩
  | check got high =>
    cases high with
    | none =>
      refine ⟨fun r' e => ?_, nofun⟩
      cases e; exact h
    | some x =>
      simp only [Receiver.step]
      split <;> refine ⟨nofun, fun f e => ?_⟩ <;> cases e
      · simpa [RxFrame.wf, Receiver.sound] using h
      · rfl

theorem execHeadLinkByteReceived_press {b : Byte} {s t : State} (h : execHeadLinkByteReceived b s = .next t) :
    KeepsPress s t := by
  cases h
  split
  · rename_i r hr
    exact .of_hou fun hs => (Receiver.step_sound hs b).1 r hr
  · exact (headLinkHunting_press s).trans (takeHeadFrame_press ..)

/-! ### The ports -/

theorem RxFrame.checked_wf (f : RxFrame) : (RxFrame.checked f).wf = true := by
  cases f with
  | garbled => rfl
  | sound body =>
    simp only [RxFrame.checked]
    split
    · rename_i h; exact h
    · rfl

theorem endGarbled_press (p : PortId) (s : State) : KeepsPress s (endGarbled p s) :=
  .ite (fun _ => endFrame_press fun _ => rfl) fun _ => .refl s

theorem execPortByteReceived_press {p : PortId} {b : Byte} {s t : State} (h : execPortByteReceived p b s = .next t) :
    KeepsPress s t := by
  cases h
  split
  · rename_i r hr
    exact modifyPort_press rfl fun ⟨hbuffer, hnotices, hframes, hreceiver⟩ =>
      ⟨hbuffer, hnotices, hframes, (Receiver.step_sound hreceiver b).1 r hr⟩
  · rename_i f hf
    exact endFrame_press fun ⟨_, _, _, hreceiver⟩ => (Receiver.step_sound hreceiver b).2 f hf

theorem execGarbledFrame_press {p : PortId} {s t : State} (h : execGarbledFrame p s = .next t) : KeepsPress s t := by
  obtain ⟨hwaits, htaken⟩ := takeFrame_press (p := p) (f := .garbled) rfl s
  cases h
  split
  · rename_i u hu; exact hwaits u hu
  · rename_i u hu; exact (htaken u hu).trans (answerAt_press ..)

theorem execUnknownRequestCode_press {p : PortId} {body : List Byte} {s t : State}
    (h : execUnknownRequestCode p body s = .next t) : KeepsPress s t := by
  cases h
  exact .ite (fun _ => .refl s) fun _ => onFrame_press (fun _ => answerAt_press ..) s

theorem Port.broken_bounded (q : Port) : q.broken.bounded :=
  ⟨Nat.zero_le _, Nat.zero_le _, nofun, trivial⟩

theorem Port.startSending_role (q : Port) : q.startSending.role = q.role := by
  unfold Port.startSending; split <;> rfl

theorem Port.startSending_bounded {q : Port} (h : q.bounded) : q.startSending.bounded := by
  unfold Port.startSending
  split
  · rename_i f rest _ hout
    obtain ⟨hbuffer, hnotices, hframes, hreceiver⟩ := h
    refine ⟨hbuffer, le_trans ?_ hnotices, hframes, hreceiver⟩
    rw [Port.noticeCount, Port.noticeCount, hout]
    exact ((List.sublist_cons_self f rest).filter _).length_le
  · exact h

theorem Port.endSending_role (q : Port) : q.endSending.role = q.role := by
  unfold Port.endSending; split <;> rfl

theorem Port.endSending_bounded {q : Port} (h : q.bounded) : q.endSending.bounded := by
  unfold Port.endSending
  split
  · exact h
  · obtain ⟨hbuffer, hnotices, hframes, hreceiver⟩ := h
    have hsub : ∀ b : Bool, (if b then q.buffer.eraseP BufferedFrame.taken else q.buffer).Sublist q.buffer := fun b => by
      cases b
      · exact .refl _
      · exact List.eraseP_sublist ..
    exact ⟨(hsub _).length_le.trans hbuffer, hnotices, fun b hb => hframes b ((hsub _).subset hb), hreceiver⟩

/-! ## The requests that reach the press and the ports -/

theorem replySetWeb_press (rl tol : Nat) (s : State) : (replySetWeb rl tol s).Ensures (KeepsPress s) :=
  ensures_require fun hrange => ensures_require fun _ => by
    simp only [Bool.and_eq_true, decide_eq_true_eq] at hrange
    obtain ⟨⟨hrl, hrl'⟩, -⟩ := hrange
    refine .trans (.of_wpu fun ⟨_, _, _, _, hinterval, hage, _⟩ => ?_) (followMeasurement_press _)
    exact ⟨hrl, hrl', Nat.min_le_right .., by dsimp only [Wpu.setWeb]; omega, hinterval, hage, nofun, fun _ => ⟨rfl, rfl⟩⟩

/-- A line takes a function that no other line holds, or one that several may hold (R179). -/
theorem assignLine_press {i : LineId} {f : LineFunction} {u : Bool} {s : State}
    (hf : f.isGeneral = true ∨ heldElsewhere s i f = false) : KeepsPress s (assignLine i f u s) := by
  have hother : ∀ j : LineId, j ≠ i → f.isGeneral = false → s.lm.lines[j].function ≠ f := fun j hj hg e => by
    rcases hf with h | h
    · exact absurd (h.symm.trans hg) (by decide)
    · have := List.any_eq_false.mp h j (List.mem_finRange j)
      simp [hj] at this
      exact this e
  have hline : ∀ j : LineId, (assignLine i f u s).lm.lines[j].function = if j = i then f else s.lm.lines[j].function := by
    intro j
    simp only [assignLine, followAssignment, modifyWpu, Fin.getElem_fin, Vector.getElem_set, Fin.ext_iff, eq_comm]
    split <;> simp
  refine ⟨fun hs j k hjk hg => ?_, id, id, id, id⟩
  rw [hline j, hline k] at hjk
  rw [hline j] at hg
  by_cases hj : j = i <;> by_cases hk : k = i <;> simp only [hj, hk, if_true, if_false] at hjk hg ⊢
  · exact absurd hjk.symm (hother k hk hg)
  · exact absurd hjk (hother j hj (hjk ▸ hg))
  · exact hs j k hjk hg

theorem replyAssignLine_press (line f u : Nat) (s : State) : (replyAssignLine line f u s).Ensures (KeepsPress s) :=
  ensures_named fun i => ensures_coded fun f => ensures_flag fun _ => ensures_require fun _ => ensures_require fun hfree =>
    assignLine_press (by simpa using hfree)

theorem writeLatches_press (mask levels : Nat) (s : State) : KeepsPress s (writeLatches mask levels s) :=
  .of_lines fun i => by simp only [Fin.getElem_fin, tabulate_getElem]; split <;> rfl

theorem ensures_grantable_ne {P : State → Prop} {n : Nat} {f : Role → Reply}
    (h : ∀ r, r ≠ .supervisor → (f r).Ensures P) : (grantable n f).Ensures P := by
  unfold grantable
  split
  · trivial
  · split
    · trivial
    · exact h _ ‹_›

/-- SET_ROLE gives no port SUPERVISOR (R194). -/
theorem replySetRole_press (p : PortId) (n r : Nat) (s : State) : (replySetRole p n r s).Ensures (KeepsPress s) :=
  ensures_named fun i => ensures_grantable_ne fun r hr => ensures_require fun _ => ensures_require fun _ => by
    have hrole : ∀ j : PortId, (modifyPort i (fun q => { q with role := r }) s).ports[j].role = .supervisor →
        s.ports[j].role = .supervisor := fun j => by
      simp only [modifyPort_ports, Fin.getElem_fin, updateAt_getElem]
      split
      · exact fun h => absurd h hr
      · exact id
    refine ⟨id, fun hs j k hj hk => hs j k (hrole j hj) (hrole k hk), fun hs j => ?_, id, id⟩
    simp only [modifyPort_ports, Fin.getElem_fin, updateAt_getElem]
    split <;> exact hs j

theorem replyClearStop_press (c : Nat) (s : State) : (replyClearStop c s).Ensures (KeepsPress s) :=
  ensures_coded fun c => by
    split
    · refine ensures_require fun _ => ?_
      cases c with
      | regRun => exact (changeStops_press ..).after_eq
      | seqExhausted | journalHigh | headFault | operatorStop => exact changeStops_press ..
    · exact .refl s

/-! ## The requests on numbers and jobs: they reach the ports and the lines by notices and stop causes alone -/

theorem journalExclusion_press (k : SlotId) (c : Context) (q : SeqId) (a b : Nat) (s : State) :
    KeepsPress s (journalExclusion k c q a b s) :=
  .ite (fun _ => .refl s) fun _ => journalUnreserved_press ..

theorem reserveContext_press (k : SlotId) (s : State) : KeepsPress s (reserveContext k s) :=
  (reserveRecords_press ..).after_eq

theorem replyCancelBackground_press (s : State) : (replyCancelBackground s).Ensures (KeepsPress s) := by
  unfold replyCancelBackground
  split
  · trivial
  · exact ensures_require fun _ => (notify_press ..).after_eq
  · exact ensures_require fun _ => (notify_press ..).after_eq

theorem replyCancelActivation_press (s : State) : (replyCancelActivation s).Ensures (KeepsPress s) := by
  unfold replyCancelActivation
  split
  · trivial
  · exact .trans (.after_eq (returnReserved_press ..)) (notifyJob_press ..)

theorem replySuspend_press (sl : Nat) (s : State) : (replySuspend sl s).Ensures (KeepsPress s) :=
  ensures_named fun k => ensures_inState fun _ _ => ensures_require fun _ =>
    .ite (fun _ => (parkContext_press k s).trans (notifyJob_press ..)) fun _ => .of_eq rfl

theorem endEntry_press (k : SlotId) (job : Nat) (q : SeqId) (s : State) (e : QueueEntry) :
    KeepsPress s (endEntry k job q s e) :=
  .after_eq (t := modifySequence k q Sequence.voidOldest s) (journalUnreserved_press ..)

theorem endQueues_press (k : SlotId) (job : Nat) (s : State) : KeepsPress s (endQueues k job s) :=
  .foldl id (fun u q => .foldl id (endEntry_press k job q) (queueOf u k q) u) _ s

theorem setSlot_press (k : SlotId) (c : Option Context) (s : State) : KeepsPress s (setSlot k c s) := .of_eq rfl

theorem endJob_press (k : SlotId) (c : Context) (s : State) : KeepsPress s (endJob k c s) :=
  (endQueues_press k c.job s).trans <| (journalUnreserved_press ..).trans <| (setSlot_press ..).trans <|
    notifyJob_press ..

theorem replyEndJob_press (sl : Nat) (s : State) : (replyEndJob sl s).Ensures (KeepsPress s) :=
  ensures_named fun k => ensures_inState fun c _ => ensures_require fun _ => ensures_require fun _ =>
    ensures_require fun _ => endJob_press k c s

theorem releaseRecords_press (n : Nat) (s : State) : KeepsPress s (releaseRecords n s) :=
  .ite (fun _ => .refl s) fun _ => (afterRaise_press _).after_eq

theorem replyReadSet_press (tag page : Nat) (s : State) : (replyReadSet tag page s).Ensures (KeepsPress s) := by
  unfold replyReadSet
  split
  · trivial
  · exact .refl s

theorem stepProbe_press (p : Probe) (s : State) : KeepsPress s (stepProbe p s) := by
  unfold stepProbe
  split
  · exact (notify_press ..).after_eq
  · exact .ite (fun _ => (notify_press ..).after_eq) fun _ => .of_eq rfl

theorem journalSkip_press {k : Skip} {job : Nat} {x : Sequence} {v : Nat} {s t : State}
    (h : journalSkip k job x v s = some t) : KeepsPress s t := by
  simp only [journalSkip] at h
  split at h
  · cases h; exact .of_eq rfl
  · split at h
    · cases h; exact journalUnreserved_press ..
    · cases h

theorem stepSkip_press (k : Skip) (c : Context) (x : Sequence) (s : State) : KeepsPress s (stepSkip k c x s) := by
  unfold stepSkip
  split
  · exact (notify_press ..).after_eq
  · split
    · exact .of_eq rfl
    · rename_i hs1
      exact (journalSkip_press hs1).trans (.ite (fun _ => (notify_press ..).after_eq) fun _ => .of_eq rfl)

theorem execSkipDraw_press {s t : State} (h : execSkipDraw s = .next t) : KeepsPress s t := by
  cases h
  split
  · refine .ite (fun _ => ?_) fun _ => .refl s
    split
    · exact .refl s
    · split
      · exact .refl s
      · exact stepSkip_press ..
  · exact .refl s
  · exact .refl s

/-- A change of a context in BUILDING reaches no line and no port. -/
theorem building_press {k : SlotId} {s : State} {f : Context → Context} {r : Context → List Byte} :
    (building s k fun c => .accept (modifyContext k f s) (r c)).Ensures (KeepsPress s) :=
  ensures_inState fun _ _ => .of_eq rfl

/-! ## Every step -/

/-- Every command keeps what holds of press and ports. -/
theorem exec_press {c : Instr} {s t : State} (h : exec c s = .next t) : KeepsPress s t := by
  cases c with
  | deviceReset levels => exact execDeviceReset_press h
  | encoderTransition a b =>
    cases h
    exact (showDriven_press .encA a s).trans ((showDriven_press .encB b _).trans (watchEncoder_press _))
  | indexEdge => cases h; exact .ite (fun _ => (showDriven_press ..).trans (takeIndex_press _)) fun _ => .refl s
  | markEdge channel => cases h; exact .ite (fun _ => (showDriven_press ..).trans (markEdge_press ..)) fun _ => .refl s
  | orderDeadline head => cases h; exact .of_eq (by simp [State.press])
  | orderSend => cases h; exact .of_eq (by simp [State.press])
  | orderFrameEnd => cases h; exact .of_eq rfl
  | completion head tag result => cases h; exact takeCompletion_press ..
  | stateMessage head report => cases h; exact takeStateMessage_press ..
  | headFrameDiscard => cases h; exact headLinkHunting_press s
  | headLinkGapTimeout | headLinkBadStopBit => cases h; exact .ite (fun _ => headLinkHunting_press s) fun _ => .refl s
  | headLinkByteReceived byte => exact execHeadLinkByteReceived_press h
  | probeDraw =>
    cases h
    split
    · exact .ite (fun _ => stepProbe_press ..) fun _ => .refl s
    · exact .refl s
    · exact .refl s
  | skipDraw => exact execSkipDraw_press h
  | skipResume => cases h; exact resumeSkip_press s
  | portFrameReceived port frame => cases h; exact endFrame_press fun _ => RxFrame.checked_wf frame
  | portByteReceived port byte => exact execPortByteReceived_press h
  | frameGapTimeout port | badStopBit port => cases h; exact endGarbled_press port s
  | portReset port => cases h; exact modifyPort_press rfl fun _ => Port.broken_bounded _
  | garbledFrame port => exact execGarbledFrame_press h
  | unknownRequestCode port body => exact execUnknownRequestCode_press h
  | frameSendStart port => cases h; exact modifyPort_press (Port.startSending_role _) Port.startSending_bounded
  | frameSendEnd port => cases h; exact modifyPort_press (Port.endSending_role _) Port.endSending_bounded
  | edgeAgeTick =>
    cases h
    exact .of_wpu fun ⟨hrl, hrl', htol, hpos, hinterval, _, hbacked, hclear⟩ =>
      ⟨hrl, hrl', htol, hpos, hinterval, Nat.min_le_left .., hbacked, hclear⟩
  | fieldLineLevelChange line level =>
    cases h
    refine .ite (fun _ => .refl s) fun _ => .trans (.of_lines fun i => ?_) (hearLine_press ..)
    simp only [Fin.getElem_fin, updateAt_getElem]
    split <;> rfl
  | defineSequence p sl sq d f l st po sc =>
    exact request_press h fun _ => ensures_named fun _ => ensures_named fun _ => ensures_require fun _ =>
      ensures_require fun _ => ensures_coded fun _ => ensures_coded fun _ => ensures_inState fun _ _ =>
      ensures_require fun _ => .of_eq rfl
  | loadValue p sl sq v =>
    exact request_press h fun _ => ensures_named fun _ => ensures_named fun _ => ensures_require fun _ =>
      ensures_inState fun _ _ => ensures_require fun _ => ensures_require fun _ => ensures_defined fun _ _ =>
      ensures_require fun _ => ensures_require fun _ => ensures_require fun _ => (journalUnreserved_press ..).after_eq
  | addExclusion p sl sq a b =>
    exact request_press h fun u => ensures_named fun k => ensures_named fun q => ensures_require fun _ =>
      ensures_inState fun c _ => ensures_defined fun _ _ => ensures_require fun _ => ensures_require fun _ =>
      (journalExclusion_press k c q a b u).then_eq (by simp [State.press])
  | removeExclusion p sl sq a =>
    exact request_press h fun _ => ensures_named fun _ => ensures_named fun _ => ensures_require fun _ =>
      ensures_inState fun _ _ => ensures_defined fun _ _ => ensures_require fun _ => .of_eq (by simp [State.press])
  | withdrawReprint p sl sq v => exact request_press h (replyWithin_press (c := .withdrawReprint p sl sq v) rfl)
  | defineEntry p sl e la mo so rf =>
    exact request_press h fun _ => ensures_named fun _ => ensures_named fun _ => ensures_namedLane fun _ =>
      ensures_entryMode fun _ => ensures_inState fun _ _ => ensures_require fun _ => .of_eq rfl
  | trimList p sl n => exact request_press h fun _ => ensures_named fun _ => ensures_require fun _ => building_press
  | assignHead p sl hd a =>
    exact request_press h fun _ => ensures_named fun _ => ensures_named fun _ => ensures_assigned fun _ => building_press
  | defineFormat p sl f items =>
    exact request_press h fun _ => ensures_named fun _ => ensures_named fun _ => ensures_require fun _ =>
      ensures_coded fun _ => building_press
  | defineMarks p sl ch en ps tol =>
    exact request_press h fun _ => ensures_named fun _ => ensures_namedChannel fun _ => ensures_flag fun _ =>
      ensures_channelMarks fun _ => building_press
  | setMarkWindow p sl m c => exact request_press h fun _ => ensures_named fun _ => ensures_require fun _ => building_press
  | setInspection p sl la e =>
    exact request_press h fun _ => ensures_named fun _ => ensures_namedLane fun _ => ensures_entryOrNone fun _ =>
      building_press
  | openContext p sl job lanes po li =>
    exact request_press h fun _ => ensures_named fun _ => ensures_require fun _ => ensures_coded fun _ =>
      ensures_require fun _ => ensures_require fun _ => (notifyJob_press ..).after_eq
  | discard p sl =>
    exact request_press h fun _ => ensures_named fun _ => ensures_inState fun _ _ => ensures_require fun _ =>
      (notifyJob_press ..).after_eq
  | closeBuild p sl =>
    exact request_press h fun _ => ensures_named fun _ => ensures_inState fun _ _ =>
      ensures_consistent (.after_eq (notifyJob_press ..))
  | reopen p sl =>
    exact request_press h fun _ => ensures_named fun _ => ensures_inState fun _ _ => ensures_require fun _ =>
      ensures_require fun _ => (notifyJob_press ..).after_eq
  | activate p sl e =>
    exact request_press h fun u => ensures_named fun k => ensures_effectiveCycle fun _ => ensures_inState fun _ _ =>
      ensures_require fun _ => ensures_require fun _ => ensures_consistent <| ensures_require fun _ =>
      .trans (.then_eq (reserveContext_press k u)) (notifyJob_press ..)
  | cancelActivation p => exact request_press h replyCancelActivation_press
  | suspend p sl => exact request_press h (replySuspend_press sl)
  | flush p sl =>
    exact request_press h fun _ => ensures_named fun _ => ensures_inState fun _ _ => ensures_require fun _ =>
      (journalUnreserved_press ..).after_eq
  | endJob p sl => exact request_press h (replyEndJob_press sl)
  | probeSequence p sl sq n =>
    exact request_press h fun _ => ensures_named fun _ => ensures_named fun _ => ensures_require fun _ =>
      ensures_inState fun _ _ => ensures_require fun _ => ensures_defined fun _ _ => .of_eq rfl
  | skipAhead p sl sq n =>
    exact request_press h fun _ => ensures_named fun _ => ensures_named fun _ => ensures_require fun _ =>
      ensures_inState fun _ _ => ensures_require fun _ => ensures_require fun _ => ensures_defined fun _ _ => .of_eq rfl
  | cancelBackground p => exact request_press h replyCancelBackground_press
  | setWeb p r tol => exact request_press h (replySetWeb_press r tol)
  | setLags p m q g =>
    exact request_press h fun _ => ensures_require fun _ => ensures_require fun _ => ensures_require fun _ =>
      ensures_require fun _ => .of_eq rfl
  | openRun p | closeRun p => exact request_press h fun _ => .of_eq rfl
  | placeHead p hd pl =>
    exact request_press h fun _ => ensures_named fun _ => ensures_placed fun _ => ensures_require fun _ => .of_eq rfl
  | setRegStop p n | setGate p n =>
    exact request_press h fun _ => ensures_require fun _ => ensures_require fun _ => .of_eq rfl
  | reportRead p la ds c =>
    exact request_press h fun _ => ensures_namedLane fun _ => ensures_require fun _ => ensures_reportedCheck fun _ =>
      ensures_inWindow fun _ _ => .of_eq rfl
  | reportDefect p la d =>
    exact request_press h fun _ => ensures_namedLane fun _ => ensures_require fun _ => ensures_inWindow fun _ _ =>
      (notify_press ..).after_eq
  | rejectSets p t c m =>
    exact request_press h fun _ => ensures_require fun _ => ensures_require fun _ => .of_eq rfl
  | releaseJournal p i => exact request_press h fun _ => releaseRecords_press ..
  | assignLine p li f u => exact request_press h (replyAssignLine_press li f u)
  | writeLines p m l => exact request_press h (writeLatches_press m l)
  | setStop p => exact request_press h (latchStop_press .operatorStop)
  | clearStop p c => exact request_press h (replyClearStop_press c)
  | setRole p n r => exact request_press h (replySetRole_press p n r)
  | setNotices p c =>
    exact request_press h fun _ => ensures_require fun _ => modifyPort_press rfl id
  | readStatus p | readLines p | readBackground p => exact request_press h .refl
  | readRegistration p pg => exact request_press h .refl
  | readHead p hd => exact request_press h fun u => ensures_named fun _ => .refl u
  | readSet p tag pg => exact request_press h (replyReadSet_press tag (pg.getD 0))
  | readSequence p sl sq pg => exact request_press h (replyWithin_press (c := .readSequence p sl sq pg) rfl)
  | readQueue p sl sq pg => exact request_press h (replyWithin_press (c := .readQueue p sl sq pg) rfl)
  | readContext p sl part f => exact request_press h (replyWithin_press (c := .readContext p sl part f) rfl)
  | readJournal p i n => exact request_press h (replyWithin_press (c := .readJournal p i n) rfl)

/-- Settles O55: every command keeps each of the five, and the queue of commands is none of their business. -/
theorem pressAndPortsStaySound : Obligations.PressAndPortsStaySound := by
  intro s t h
  have hkeeps : KeepsPress s t := by
    unfold step at h
    split at h
    · cases h; exact .refl s
    · exact (exec_press h).after_eq
  exact ⟨hkeeps.lines, hkeeps.roles, hkeeps.ports, hkeeps.web, hkeeps.receiver⟩

end Sys2Proof.Machine
end

section
/-! PROOFS. The web: counted edges, invalid transitions and index edges, and the mark edges of the registration. -/

namespace Sys2Proof.Machine

/-! ## Lines and their functions -/

theorem showDriven_line (f : LineFunction) (v : Bool) (s : State) (i : LineId) :
    (showDriven f v s).lm.lines[(i : Nat)] =
      if s.lm.lines[(i : Nat)].function = f then { s.lm.lines[(i : Nat)] with level := v } else s.lm.lines[(i : Nat)] := by
  simp [showDriven]

@[simp] theorem showDriven_function (f : LineFunction) (v : Bool) (s : State) (i : LineId) :
    (showDriven f v s).lm.lines[(i : Nat)].function = s.lm.lines[(i : Nat)].function := by
  rw [showDriven_line]; split <;> rfl

@[simp] theorem lineOf_showDriven (f g : LineFunction) (v : Bool) (s : State) :
    lineOf (showDriven f v s) g = lineOf s g := by
  simp [lineOf]

theorem holdsFunction_iff {s : State} {f : LineFunction} :
    holdsFunction s f = true ↔ ∃ i : LineId, s.lm.lines[i].function = f := by
  simp only [holdsFunction, List.any_eq_true, beq_iff_eq, Vector.mem_toList_iff, Vector.mem_iff_getElem]
  exact ⟨fun ⟨_, ⟨i, hi, rfl⟩, hf⟩ => ⟨⟨i, hi⟩, hf⟩, fun ⟨i, hf⟩ => ⟨_, ⟨i, i.isLt, rfl⟩, hf⟩⟩

@[simp] theorem holdsFunction_showDriven (f g : LineFunction) (v : Bool) (s : State) :
    holdsFunction (showDriven f v s) g = holdsFunction s g := by
  rw [Bool.eq_iff_iff, holdsFunction_iff, holdsFunction_iff]
  simp

theorem function_of_lineOf {s : State} {f : LineFunction} {i : LineId} (h : lineOf s f = some i) :
    s.lm.lines[(i : Nat)].function = f := by
  have := List.find?_some h
  simpa using this

/-! ## Counted edges -/

/-- The lines show the new levels, and the WPU's interval fields, direction and reference have taken the edge (R33, R35). -/
def edgeTaken (d : Direction) (now : Levels) (s : State) : State :=
  { showDriven .encB now.b (showDriven .encA now.a s) with wpu := { s.wpu with
    interval := s.wpu.edgeAge, edgeAge := 0, reversal := decide (s.wpu.direction ≠ d), direction := d,
    reference := some now } }

@[simp] theorem edgeTaken_wpu (d : Direction) (now : Levels) (s : State) :
    (edgeTaken d now s).wpu = { s.wpu with
      interval := s.wpu.edgeAge, edgeAge := 0, reversal := decide (s.wpu.direction ≠ d), direction := d,
      reference := some now } := rfl
@[simp] theorem edgeTaken_mtu (d : Direction) (now : Levels) (s : State) : (edgeTaken d now s).mtu = s.mtu := rfl
@[simp] theorem edgeTaken_st (d : Direction) (now : Levels) (s : State) : (edgeTaken d now s).st = s.st := rfl
@[simp] theorem edgeTaken_background (d : Direction) (now : Levels) (s : State) :
    (edgeTaken d now s).background = s.background := rfl
@[simp] theorem edgeTaken_slots (d : Direction) (now : Levels) (s : State) : (edgeTaken d now s).slots = s.slots := rfl
@[simp] theorem edgeTaken_activation (d : Direction) (now : Levels) (s : State) :
    (edgeTaken d now s).activation = s.activation := rfl
@[simp] theorem edgeTaken_hou (d : Direction) (now : Levels) (s : State) : (edgeTaken d now s).hou = s.hou := rfl
@[simp] theorem edgeTaken_ij (d : Direction) (now : Levels) (s : State) : (edgeTaken d now s).ij = s.ij := rfl
@[simp] theorem edgeTaken_ports (d : Direction) (now : Levels) (s : State) : (edgeTaken d now s).ports = s.ports := rfl
@[simp] theorem edgeTaken_pending (d : Direction) (now : Levels) (s : State) :
    (edgeTaken d now s).pending = s.pending := rfl

@[simp] theorem holdsFunction_edgeTaken (d : Direction) (now : Levels) (f : LineFunction) (s : State) :
    holdsFunction (edgeTaken d now s) f = holdsFunction s f :=
  (holdsFunction_showDriven .encB f now.b (showDriven .encA now.a s)).trans (holdsFunction_showDriven ..)

theorem judgeEdge_forward (r : Levels) : judgeEdge r ⟨!r.b, r.a⟩ = .forward := by
  obtain ⟨_ | _, _ | _⟩ := r <;> rfl

theorem judgeEdge_reverse (r : Levels) : judgeEdge r ⟨r.b, !r.a⟩ = .reverse := by
  obtain ⟨_ | _, _ | _⟩ := r <;> rfl

theorem judgeEdge_invalid (r : Levels) : judgeEdge r ⟨!r.a, !r.b⟩ = .invalid := by
  obtain ⟨_ | _, _ | _⟩ := r <;> rfl

section
variable {s : State} {i j : LineId} {r : Levels} (ha : lineOf s .encA = some i) (hb : lineOf s .encB = some j)
  (hr : s.wpu.reference = some r)
include ha hb hr

/-- With both encoder functions held and a reference, ENCODER_TRANSITION is judged at the levels that it gives. -/
theorem exec_encoderTransition (a b : Bool) :
    exec (.encoderTransition a b) s =
      .next (judgeTransition r ⟨a, b⟩ (showDriven .encB b (showDriven .encA a s))) := by
  have hlevels : encoderLevels (showDriven .encB b (showDriven .encA a s)) = some ⟨a, b⟩ := by
    simp only [encoderLevels, lineOf_showDriven, ha, hb]
    simp [showDriven_line, function_of_lineOf ha, function_of_lineOf hb]
  show Host.Outcome.next (watchEncoder _) = _
  simp only [watchEncoder, setFunctionLevel, hlevels, showDriven_wpu, hr]

theorem exec_forwardTransition :
    exec (.encoderTransition (!r.b) r.a) s = .next (countedEdge .forward (edgeTaken .forward ⟨!r.b, r.a⟩ s)) := by
  rw [exec_encoderTransition ha hb hr, judgeTransition, judgeEdge_forward]; rfl

theorem exec_reverseTransition :
    exec (.encoderTransition r.b (!r.a)) s = .next (countedEdge .reverse (edgeTaken .reverse ⟨r.b, !r.a⟩ s)) := by
  rw [exec_encoderTransition ha hb hr, judgeTransition, judgeEdge_reverse]; rfl

theorem exec_invalidTransition :
    exec (.encoderTransition (!r.a) (!r.b)) s =
      .next (notify .encoderError (r.bytes ++ [flagByte (!r.a), flagByte (!r.b)])
        (modifyWpu (fun w => { w with reference := some ⟨!r.a, !r.b⟩ })
          (showDriven .encB (!r.b) (showDriven .encA (!r.a) s)))) := by
  rw [exec_encoderTransition ha hb hr, judgeTransition, judgeEdge_invalid]; rfl

end

/-- Where a forward edge not BACKED takes a boundary: RL plus the tolerance with INDEX held, RL without (R36). -/
def cycleEnd (s : State) : Nat := s.wpu.repeatLength + (if holdsFunction s .index then s.wpu.tolerance else 0)

theorem forwardEdge_within {s : State} (h : s.wpu.position + 1 < cycleEnd s) :
    forwardEdge s =
      releaseGates (followMeasurement (modifyWpu (fun w => { w with position := s.wpu.position + 1 }) s)) := by
  unfold cycleEnd at h
  unfold forwardEdge
  cases hi : holdsFunction s .index <;> simp only [hi, if_true, if_false, Bool.false_eq_true] at h ⊢ <;>
    rw [if_neg (by omega)]

/-- The notice a forward edge's boundary sends: INDEX_MISSING where INDEX is held (R36). -/
def forwardNotice (s : State) : Option WebNotice :=
  if holdsFunction s .index then some { kind := .indexMissing, payload := [] } else none

theorem forwardEdge_boundary {s : State} (h : cycleEnd s ≤ s.wpu.position + 1) :
    forwardEdge s = boundary (if holdsFunction s .index then .synthetic else .indexless)
      (s.wpu.position + 1 - s.wpu.repeatLength) (forwardNotice s) s := by
  unfold cycleEnd at h
  unfold forwardEdge forwardNotice
  cases hi : holdsFunction s .index <;> simp only [hi, if_true, if_false, Bool.false_eq_true] at h ⊢ <;>
    rw [if_pos (by omega)]

/-! ## What the measurement does to the MTU and to the sets -/

/-- The MTU's fields after a close (R105, R109). -/
def Mtu.close (c : CloseCause) (rl : Nat) (m : Mtu) : Mtu :=
  match m.armed with
  | none => m
  | some a =>
    { m with
      state := .closed, last := some (closeRecord c rl a m), faults := (closeRecord c rl a m).counterAfter }

/-- The verdict of a close reaches its judged set, when there is one (R107). -/
def passVerdict (record : RegRecord) (s : State) : State :=
  match record.judged with
  | none => s
  | some t => modifySet t (SetRecord.verdict record.faulty) s

/-- A faulty close is reported, and latches REG_RUN once its counter has reached K (R108, R109). -/
def reportFault (record : RegRecord) (stopCount : Nat) (s : State) : State :=
  if record.faulty then
    let s1 := notify .regFault (regFaultPayload record) s
    if 0 < stopCount ∧ stopCount ≤ record.counterAfter then latchStop .regRun s1 else s1
  else s

@[simp] theorem passVerdict_mtu (record : RegRecord) (s : State) : (passVerdict record s).mtu = s.mtu := by
  unfold passVerdict; split <;> rfl
@[simp] theorem reportFault_mtu (record : RegRecord) (n : Nat) (s : State) : (reportFault record n s).mtu = s.mtu := by
  unfold reportFault; simp only []; (repeat' split) <;> simp
@[simp] theorem reportFault_st (record : RegRecord) (n : Nat) (s : State) : (reportFault record n s).st = s.st := by
  unfold reportFault; simp only []; (repeat' split) <;> simp

theorem closeMeasurement_armed {s : State} {a : Armed} (h : s.mtu.armed = some a) (c : CloseCause) :
    closeMeasurement c s =
      (let record := closeRecord c s.wpu.repeatLength a s.mtu
       reportFault record s.mtu.stopCount
        (passVerdict record { s with mtu := { s.mtu with
          state := .closed, last := some record, faults := record.counterAfter } })) := by
  unfold closeMeasurement
  rw [h]; rfl

theorem closeMeasurement_unarmed {s : State} (h : s.mtu.armed = none) (c : CloseCause) : closeMeasurement c s = s := by
  unfold closeMeasurement; rw [h]

theorem closeMeasurement_mtu (c : CloseCause) (s : State) :
    (closeMeasurement c s).mtu = s.mtu.close c s.wpu.repeatLength := by
  unfold Mtu.close
  cases h : s.mtu.armed with
  | none => rw [closeMeasurement_unarmed h]
  | some a => rw [closeMeasurement_armed h]; simp [h]

/-- The MTU's fields after it has followed a change of position (R99, R101). -/
def Mtu.follow (w : Wpu) (m : Mtu) : Mtu :=
  match m.state.isOpen, m.armed with
  | true, some a =>
    let m1 := { m with state := if a.settings.maskEnd ≤ w.position then .collecting else .masked }
    if a.settings.closeAt < w.repeatLength ∧ a.settings.closeAt ≤ w.position then m1.close .position w.repeatLength else m1
  | _, _ => m

theorem followMeasurement_mtu (s : State) : (followMeasurement s).mtu = s.mtu.follow s.wpu := by
  cases hopen : s.mtu.state.isOpen with
  | false => simp [followMeasurement, Mtu.follow, hopen]
  | true =>
    cases harmed : s.mtu.armed with
    | none => simp [followMeasurement, Mtu.follow, hopen, harmed]
    | some a =>
      simp only [followMeasurement, Mtu.follow, hopen, harmed]
      split
      · rw [closeMeasurement_mtu]
      · rfl

/-- What an allocation fixes of a set: tag, slot, entries and the number of its lanes (R67). -/
def SetRecord.shape (r : SetRecord) : Cycle × SlotId × List EntryPart × Nat := (r.tag, r.slot, r.entries, r.lanes.length)

/-- A tracker with the same sets in the same order, changed at most in what an allocation does not fix. -/
def Tracker.SameSets (t u : Tracker) : Prop :=
  u = { t with ring := u.ring } ∧ u.ring.map SetRecord.shape = t.ring.map SetRecord.shape

theorem Tracker.SameSets.refl (t : Tracker) : t.SameSets t := ⟨rfl, rfl⟩

theorem Tracker.SameSets.of_eq {t u : Tracker} (h : u = t) : t.SameSets u := h ▸ .refl t

theorem Tracker.SameSets.trans {t u v : Tracker} (h : t.SameSets u) (g : u.SameSets v) : t.SameSets v := by
  refine ⟨?_, g.2.trans h.2⟩
  rw [g.1, h.1]

theorem Tracker.SameSets.gates {t u : Tracker} (h : t.SameSets u) : u.gates = t.gates := by rw [h.1]

/-- Sets in the same order have the same tags. -/
theorem Tracker.SameSets.tags {t u : Tracker} (h : t.SameSets u) :
    u.ring.map SetRecord.tag = t.ring.map SetRecord.tag := by
  have hfst := congrArg (List.map Prod.fst) h.2
  simp only [List.map_map] at hfst
  exact hfst

theorem modifySet_sameSets {t : Cycle} {f : SetRecord → SetRecord} (h : ∀ r, (f r).shape = r.shape) (s : State) :
    s.st.SameSets (modifySet t f s).st := by
  refine ⟨rfl, ?_⟩
  simp only [modifySet, List.map_map]
  refine List.map_congr_left fun r _ => ?_
  simp only [Function.comp_apply]
  split
  · exact h r
  · rfl

theorem SetRecord.verdict_shape (faulty : Bool) (r : SetRecord) : (r.verdict faulty).shape = r.shape := by
  cases faulty <;> simp [SetRecord.verdict, SetRecord.shape]

theorem passVerdict_sameSets (record : RegRecord) (s : State) : s.st.SameSets (passVerdict record s).st := by
  unfold passVerdict
  split
  · exact .refl _
  · exact modifySet_sameSets (SetRecord.verdict_shape record.faulty) s

theorem closeMeasurement_sameSets (c : CloseCause) (s : State) : s.st.SameSets (closeMeasurement c s).st := by
  cases h : s.mtu.armed with
  | none => rw [closeMeasurement_unarmed h]; exact .refl _
  | some a =>
    rw [closeMeasurement_armed h]
    simp only [reportFault_st]
    exact passVerdict_sameSets ..

theorem followMeasurement_sameSets (s : State) : s.st.SameSets (followMeasurement s).st := by
  unfold followMeasurement
  split
  · simp only []
    split
    · exact closeMeasurement_sameSets ..
    · exact .refl _
  · exact .refl _

/-! ## Gates -/

theorem setGateRecord_st (k : LaneId) (g : Gate) (s : State) :
    (setGateRecord k g s).st = { s.st with gates := s.st.gates.set k g } := by
  unfold setGateRecord; simp only []; split <;> rfl

/-- A gate after the position has reached a place: released where its release point lies there or before (R122). -/
def Gate.passed (p : Nat) : Gate → Gate
  | .asserted tag (some at_) => if at_ ≤ p then .released else .asserted tag (some at_)
  | .asserted tag none => .asserted tag none
  | .released => .released

theorem Gate.passed_passed (p : Nat) (g : Gate) : (g.passed p).passed p = g.passed p := by
  cases g with
  | released => rfl
  | asserted tag at_ =>
    cases at_ with
    | none => rfl
    | some a => by_cases h : a ≤ p <;> simp [Gate.passed, h]

/-- The release of one gate by position (R122). -/
def releaseGate (s : State) (k : LaneId) : State :=
  match s.st.gates[k] with
  | .asserted _ (some at_) => if at_ ≤ s.wpu.position then setGateRecord k .released s else s
  | .asserted _ none | .released => s

theorem releaseGates_eq (s : State) : releaseGates s = (List.finRange 4).foldl releaseGate s := rfl

theorem releaseGate_wpu (s : State) (k : LaneId) : (releaseGate s k).wpu = s.wpu := by
  unfold releaseGate; (repeat' split) <;> simp

theorem releaseGate_st (s : State) (k : LaneId) :
    (releaseGate s k).st = { s.st with gates := s.st.gates.set k (s.st.gates[k].passed s.wpu.position) } := by
  unfold releaseGate
  cases hg : s.st.gates[k] with
  | released => simp only [Gate.passed, ← hg]; simp
  | asserted tag at_ =>
    cases at_ with
    | none => simp only [Gate.passed, ← hg]; simp
    | some a =>
      simp only [Gate.passed]
      split
      · exact setGateRecord_st ..
      · simp [← hg]

/-- A run of releases passes each gate that it names. -/
theorem foldl_releaseGate_gates (l : List LaneId) (s : State) (j : LaneId) :
    (l.foldl releaseGate s).st.gates[(j : Nat)] =
      if j ∈ l then s.st.gates[(j : Nat)].passed s.wpu.position else s.st.gates[(j : Nat)] := by
  induction l generalizing s with
  | nil => rfl
  | cons k l ih =>
    rw [List.foldl_cons, ih, releaseGate_wpu, releaseGate_st]
    by_cases hk : k = j
    · subst hk; simp [Gate.passed_passed]
    · have hne : (k : Nat) ≠ j := fun e => hk (Fin.ext e)
      simp [hne, Ne.symm hk, List.mem_cons]

theorem releaseGates_gates (s : State) (j : LaneId) :
    (releaseGates s).st.gates[(j : Nat)] = s.st.gates[(j : Nat)].passed s.wpu.position := by
  rw [releaseGates_eq, foldl_releaseGate_gates, if_pos (List.mem_finRange j)]

theorem releaseGates_st (s : State) : (releaseGates s).st = { s.st with gates := (releaseGates s).st.gates } := by
  have hrest : ({ (releaseGates s).st with gates := s.st.gates } : Tracker) = s.st :=
    foldl_keeps (fun u : State => ({ u.st with gates := s.st.gates } : Tracker)) (g := releaseGate)
      (fun u k => by simp only [releaseGate_st]) _ s
  calc (releaseGates s).st
      = { ({ (releaseGates s).st with gates := s.st.gates } : Tracker) with gates := (releaseGates s).st.gates } := rfl
    _ = { s.st with gates := (releaseGates s).st.gates } := by rw [hrest]

/-! ## What each counted edge comes to -/

theorem countedEdge_forward {s : State} (h : s.wpu.backed = false) : countedEdge .forward s = forwardEdge s := by
  unfold countedEdge; rw [h]

theorem countedEdge_reverse {s : State} (h : s.wpu.backed = false) : countedEdge .reverse s = reverseEdge s := by
  unfold countedEdge; rw [h]

theorem countedEdge_backedForward {s : State} (h : s.wpu.backed = true) : countedEdge .forward s = backedForward s := by
  unfold countedEdge; rw [h]

theorem countedEdge_backedReverse {s : State} (h : s.wpu.backed = true) : countedEdge .reverse s = backedReverse s := by
  unfold countedEdge; rw [h]

/-- Settles O4: the edge takes no boundary, so the measurement follows the new position and then the gates do. -/
theorem forwardEdgeCounts : Obligations.ForwardEdgeCounts := by
  intro s i j r ha hb hr hbacked hpos
  let u := modifyWpu (fun w => { w with position := s.wpu.position + 1 }) (edgeTaken .forward ⟨!r.b, r.a⟩ s)
  have hsets : s.st.SameSets (followMeasurement u).st := followMeasurement_sameSets u
  have hcounted : countedEdge .forward (edgeTaken .forward ⟨!r.b, r.a⟩ s) = releaseGates (followMeasurement u) :=
    (countedEdge_forward (s := edgeTaken .forward ⟨!r.b, r.a⟩ s) hbacked).trans
      (forwardEdge_within (by simpa [cycleEnd] using hpos))
  have hgates : (followMeasurement u).st.gates = s.st.gates := hsets.gates
  refine ⟨_, (exec_forwardTransition ha hb hr).trans (congrArg _ hcounted), by simp [u], by simp [u], by simp [u],
    by simp [u], by simp [u], by simp [u], ?_, ?_, fun k => ?_, by simp [u, followMeasurement_mtu], by simp [u]⟩
  · rw [releaseGates_st, hsets.1]
  · rw [releaseGates_st]; exact hsets.tags
  · simp only [Fin.getElem_fin, releaseGates_gates, hgates, followMeasurement_wpu]
    rfl

/-- Settles O5: the edge at the end of the cycle is a boundary, and a boundary changes the WPU as R32 says. -/
theorem forwardEdgeTakesBoundary : Obligations.ForwardEdgeTakesBoundary := by
  intro s i j r ha hb hr hbacked hpos
  have hcounted := (countedEdge_forward (s := edgeTaken .forward ⟨!r.b, r.a⟩ s) hbacked).trans
    (forwardEdge_boundary (by simpa [cycleEnd] using hpos))
  refine ⟨_, (exec_forwardTransition ha hb hr).trans (congrArg _ hcounted), ?_, by simp⟩
  cases hi : holdsFunction s .index <;> simp [hi, Wpu.openCycle]

/-- Settles O6: within the cycle the measurement follows the lower position; at 0 the web becomes BACKED and only a notice
goes out. -/
theorem reverseEdgeCounts : Obligations.ReverseEdgeCounts := by
  intro s i j r ha hb hr hbacked
  refine ⟨_, (exec_reverseTransition ha hb hr).trans (congrArg _ (countedEdge_reverse hbacked)), ?_⟩
  by_cases hpos : 0 < s.wpu.position
  · have hgates : (followMeasurement (modifyWpu (fun w => { w with position := w.position - 1 })
        (edgeTaken .reverse ⟨r.b, !r.a⟩ s))).st.gates = s.st.gates := (followMeasurement_sameSets _).gates
    simp [reverseEdge, hpos, hgates, followMeasurement_mtu]
  · simp [reverseEdge, hpos]

/-- Settles O7: each edge changes the WPU, and sends at most a notice. -/
theorem backedEdgesCountDeficit : Obligations.BackedEdgesCountDeficit := by
  intro s i j r ha hb hr hbacked
  have hfwd := (exec_forwardTransition ha hb hr).trans (congrArg _ (countedEdge_backedForward hbacked))
  refine ⟨⟨_, (exec_reverseTransition ha hb hr).trans (congrArg _ (countedEdge_backedReverse hbacked)), ?_⟩,
    fun hd => ⟨_, hfwd, ?_⟩, fun hd => ⟨_, hfwd, ?_⟩⟩
  · have hfull : min 65535 (s.wpu.deficit + 1) = 65535 ↔ 65535 ≤ s.wpu.deficit + 1 := by omega
    by_cases hd : 65535 ≤ s.wpu.deficit + 1 <;> cases hfar : s.wpu.far <;> simp [backedReverse, hfull, hd, hfar]
  · have : ¬s.wpu.deficit ≤ 1 := by omega
    simp [backedForward, this]
  · simp [backedForward, leaveBacked, hd]

theorem notify_port (k : NoticeKind) (b : List Byte) (s : State) (p : PortId) :
    (notify k b s).ports[(p : Nat)] =
      s.ports[(p : Nat)].offer k.category (k.code :: 0 :: wordBytes s.wpu.cycle ++ b) := by
  simp [notify]

/-- A port that is subscribed and has room queues the notice (R195). -/
theorem Port.offer_queued {category : Nat} {body : List Byte} {q : Port} (hs : q.subscription.getLsbD category = true)
    (hroom : q.noticeCount < 8) :
    q.offer category body = { q with out := q.out ++ [{ response := false, body := body }] } := by
  simp [Port.offer, hs, hroom]

/-- Settles O8: the transition goes to the reference and to the notice alone. -/
theorem invalidTransitionReported : Obligations.InvalidTransitionReported := by
  intro s i j r ha hb hr
  refine ⟨_, exec_invalidTransition ha hb hr, rfl, rfl, rfl, rfl, rfl, rfl, rfl, fun p hsub hroom => ?_⟩
  rw [Fin.getElem_fin, notify_port, modifyWpu_ports, showDriven_ports, showDriven_ports,
    Port.offer_queued (category := NoticeKind.encoderError.category) (q := s.ports[(p : Nat)]) hsub hroom]
  rfl

/-! ## Index edges -/

theorem exec_indexEdge {s : State} (h : holdsFunction s .index = true) :
    exec .indexEdge s = .next (takeIndex (showDriven .index true s)) := by
  show Host.Outcome.next _ = _
  rw [if_pos h]; rfl

theorem takeIndex_running {s : State} (hd : s.wpu.direction = .forward) (hb : s.wpu.backed = false) :
    takeIndex s = judgeIndex s :=
  if_pos ⟨hd, hb⟩

/-- An index edge within the tolerance of RL takes a NORMAL boundary (R41). -/
theorem judgeIndex_normal {s : State} (hlow : s.wpu.repeatLength ≤ s.wpu.position + s.wpu.tolerance)
    (hhigh : s.wpu.position ≤ s.wpu.repeatLength + s.wpu.tolerance) : judgeIndex s = boundary .normal 0 none s :=
  if_pos ⟨hlow, hhigh⟩

/-- An index edge before the window that nothing confirms takes an EARLY boundary (R41). -/
theorem judgeIndex_early {s : State} (hbefore : s.wpu.position + s.wpu.tolerance < s.wpu.repeatLength)
    (h : s.wpu.tolerance < s.wpu.position ∨ s.wpu.indexPending = .none) :
    judgeIndex s = boundary .early 0
      (some { kind := .indexSlip, payload := beSigned 2 (slipDeviation s.wpu.repeatLength s.wpu.position) }) s := by
  have hno : ∀ x, x ≠ IndexPending.none → ¬(s.wpu.position ≤ s.wpu.tolerance ∧ s.wpu.indexPending = x) := by
    rintro x hx ⟨hp, rfl⟩
    exact h.elim (by omega) hx
  unfold judgeIndex
  simp only []
  rw [if_neg (by omega), if_neg (hno .afterSynthetic (by decide)), if_neg (hno .afterRecovery (by decide)), if_pos hbefore]

/-- An index edge near the start of the cycle confirms a boundary that came without it (R41). -/
theorem judgeIndex_confirms {s : State} (hbefore : s.wpu.position + s.wpu.tolerance < s.wpu.repeatLength)
    (hp : s.wpu.position ≤ s.wpu.tolerance) (hpending : s.wpu.indexPending ≠ .none) :
    judgeIndex s = if s.wpu.indexPending = .afterSynthetic then
        notify .indexLate (be 3 s.wpu.position) (indexSetsBack s)
      else indexSetsBack s := by
  unfold judgeIndex
  simp only []
  rw [if_neg (by omega)]
  cases h : s.wpu.indexPending with
  | none => exact absurd h hpending
  | afterSynthetic => simp [hp]
  | afterRecovery => simp [hp]

/-- Settles O9: the edge raises the line and is judged by its position, or goes no further than the line. -/
theorem indexEdgeJudged : Obligations.IndexEdgeJudged := by
  intro s h
  have hforward : s.wpu.direction = .forward → s.wpu.backed = false →
      exec .indexEdge s = .next (judgeIndex (showDriven .index true s)) := fun hd hb =>
    (exec_indexEdge h).trans (congrArg _ (takeIndex_running hd hb))
  refine ⟨fun hd hb hlow hhigh => ?_, fun hd hb hbefore hp hpending => ?_, fun hd hb hbefore hnone => ?_, fun hno => ?_⟩
  · exact ⟨_, (hforward hd hb).trans (congrArg _ (judgeIndex_normal hlow hhigh)), by simp [Wpu.openCycle]⟩
  · refine ⟨_, (hforward hd hb).trans (congrArg _ (judgeIndex_confirms hbefore hp hpending)), ?_⟩
    split <;> simp [indexSetsBack]
  · exact ⟨_, (hforward hd hb).trans (congrArg _ (judgeIndex_early hbefore hnone)), by simp [Wpu.openCycle]⟩
  · rw [exec_indexEdge h, takeIndex, if_neg]
    rintro ⟨hd, hb⟩
    simp only [showDriven_wpu] at hd hb
    rcases hno with e | e
    · rw [hd] at e; cases e
    · rw [hb] at e; cases e

/-! ## Mark edges -/

theorem exec_markEdge {s : State} {k : ChannelId} (h : holdsFunction s (.mark k) = true)
    (hd : s.wpu.direction = .forward) (hb : s.wpu.backed = false) :
    exec (.markEdge k) s = .next (takeMark k s.wpu.place (showDriven (.mark k) true s)) := by
  have hedge : exec (.markEdge k) s = .next (markEdge k (showDriven (.mark k) true s)) := by
    show Host.Outcome.next _ = _
    rw [if_pos h]; rfl
  rw [hedge, markEdge, if_neg (by simp [hd, hb])]
  rfl

section
variable {s : State} {k : ChannelId} {h : Hit} {a : Armed}

theorem takeMark_idle (hs : s.mtu.state ≠ .collecting) : takeMark k h s = s := by
  unfold takeMark
  split
  · exact absurd ‹_› hs
  · rfl

theorem takeMark_not_enabled (ha : s.mtu.armed = some a) (hk : a.settings.channels[k] = none) : takeMark k h s = s := by
  unfold takeMark
  split
  · rename_i b _ hb
    obtain rfl := Option.some.inj (ha.symm.trans hb)
    simp [hk]
  · rfl

variable (hs : s.mtu.state = .collecting) (ha : s.mtu.armed = some a) (hk : a.settings.channels[k].isSome = true)
include hs ha hk

theorem takeMark_collects (hroom : s.mtu.hits[k].length < 4) :
    takeMark k h s =
      (let joined : State := { s with mtu := { s.mtu with hits := s.mtu.hits.set k (s.mtu.hits[k] ++ [h]) } }
       if joined.mtu.full a then closeMeasurement .full joined else joined) := by
  unfold takeMark
  simp only [hs, ha, hk, hroom, if_true]
  rfl

theorem takeMark_drops (hfull : 4 ≤ s.mtu.hits[k].length) :
    takeMark k h s = { s with mtu := { s.mtu with dropped := s.mtu.dropped.set k true } } := by
  unfold takeMark
  simp only [hs, ha, hk, if_true, if_neg (Nat.not_lt.mpr hfull)]

end

theorem Mtu.full_iff {m : Mtu} {a : Armed} : m.full a = true ↔
    ∀ (j : ChannelId) (c : ChannelMarks), a.settings.channels[j] = some c → c.positions.length ≤ m.hits[j].length := by
  simp [Mtu.full, Option.all_eq_true]

theorem Wpu.place_eq (w : Wpu) :
    w.place =
      (let coarse := decide (w.interval = 0 ∨ w.interval = 65535 ∨ w.reversal = true)
       { place := 8 * w.position + (if coarse then 0 else min 7 (8 * w.edgeAge / w.interval)), coarse := coarse }) := by
  have hcoarse : w.coarse = decide (w.interval = 0 ∨ w.interval = 65535 ∨ w.reversal = true) := by
    simp [Wpu.coarse, Bool.decide_or, beq_eq_decide, Bool.or_assoc]
  simp [Wpu.place, Wpu.fraction, hcoarse]

/-- Settles O11: the edge raises the line, and the placed mark is collected, dropped or ignored. -/
theorem markEdgeCollected : Obligations.MarkEdgeCollected := by
  intro s k hline hd hb coarse place raised
  rw [exec_markEdge hline hd hb, Wpu.place_eq]
  refine ⟨fun a hs ha hk hroom => ?_, fun a hs ha hk hfull => ?_, fun a ha hk => ?_, fun hs => ?_⟩
  · rw [takeMark_collects (s := showDriven (.mark k) true s) hs ha hk hroom]
    intro hits joined
    refine ⟨fun ⟨j, m, hm, hshort⟩ => ?_, fun hall => ?_⟩
    · exact congrArg _ (if_neg fun hfull => Nat.not_lt.mpr (Mtu.full_iff.mp hfull j m hm) hshort)
    · exact congrArg _ (if_pos (Mtu.full_iff.mpr hall))
  · exact congrArg _ (takeMark_drops hs ha hk hfull)
  · exact congrArg _ (takeMark_not_enabled ha hk)
  · exact congrArg _ (takeMark_idle hs)

end Sys2Proof.Machine
end

section
/-! PROOFS. The press geometry, the assignment and writing of field lines, and the device reset. -/

namespace Sys2Proof.Machine

/-! ## Nothing runs -/

theorem slotIn_isSome {s : State} {j : JobState} : (slotIn s j).isSome = true ↔ ∃ k : SlotId, slotState s k = some j := by
  simp [slotIn, firstIndex, List.find?_isSome]

theorem running_eq_false {s : State} : running s = false ↔ NothingRuns s := by
  have hno : ∀ j : JobState, (slotIn s j).isSome = false ↔ ∀ k : SlotId, slotState s k ≠ some j := fun j => by
    rw [← Bool.not_eq_true, slotIn_isSome, not_exists]
  simp only [running, Bool.or_eq_false_iff, hno, NothingRuns, forall_and, Option.isSome_eq_false_iff, Option.isNone_iff_eq_none]

theorem running_eq_true {s : State} : running s = true ↔ ¬NothingRuns s := by
  rw [← running_eq_false, Bool.not_eq_false]

theorem geometryFree_of_nothing {s : State} (h : NothingRuns s) (r : Reply) : geometryFree s r = r := by
  simp [geometryFree, running_eq_false.mpr h]

theorem geometryFree_of_something {s : State} (h : ¬NothingRuns s) (r : Reply) :
    geometryFree s r = .refuse .wrongState [] := by
  simp [geometryFree, running_eq_true.mpr h]

/-! ## The geometry requests -/

/-- A placement in range passes its checks (R74). -/
theorem placed_some {l : LaneId} {ply lag : Nat} (hply : 1 ≤ ply ∧ ply ≤ 6) (hlag : 1 ≤ lag ∧ lag ≤ 60)
    (k : Option Placement → Reply) : placed (some ⟨ply, l + 1, lag⟩) k = k (some ⟨ply, l, lag⟩) := by
  simp [placed, hply, hlag]

theorem lagsAllowHeads_iff {m g : Nat} {s : State} : lagsAllowHeads m g s = true ↔
    ∀ (h : HeadId) (x : Placement), s.hou.heads[h].placement = some x → x.lag ≤ m ∧ x.lag + 2 ≤ g := by
  simp only [lagsAllowHeads, List.all_eq_true, Vector.mem_toList_iff, Vector.mem_iff_getElem, Option.all_eq_true,
    Bool.and_eq_true, decide_eq_true_eq]
  exact ⟨fun hall h x hx => hall _ ⟨h, h.isLt, rfl⟩ x hx, fun hall _ ⟨h, hh, e⟩ x hx => hall ⟨h, hh⟩ x (e ▸ hx)⟩

/-- Settles O22: with parameters in range each request of the geometry hangs on the one check that nothing runs. -/
theorem geometrySetAndFrozen : Obligations.GeometrySetAndFrozen := by
  refine ⟨fun p s => ⟨acceptedAs_of_reply rfl rfl, acceptedAs_of_reply rfl rfl⟩, fun p s hfree => ?_, fun p s hruns => ?_⟩
  · have hfree' : NothingRuns (takenOn p s) := hfree
    refine ⟨fun rl tol hrl hrl' htol => ?_, fun m q g hm hmq hqg hg hheads => ?_, fun h l ply lag hp hp' hl hl' => ?_,
      fun h => ?_, fun n hn => ?_, fun n hn hn' => ?_⟩
    · exact acceptedAs_of_reply rfl (by simp [replySetWeb, hrl, hrl', htol, geometryFree_of_nothing hfree']; rfl)
    · have hallow : lagsAllowHeads m g (takenOn p s) = true := lagsAllowHeads_iff.mpr hheads
      have hlags : (isLag m && isLag q && isLag g) = true := by
        simp only [isLag, Bool.and_eq_true, decide_eq_true_eq]; omega
      exact acceptedAs_of_reply rfl (by
        simp [replySetLags, hlags, geometryFree_of_nothing hfree', hmq, hqg, hallow]; rfl)
    · exact acceptedAs_of_reply rfl (by
        simp only [replyPlaceHead, named_fin, placed_some ⟨hp, hp'⟩ ⟨hl, hl'⟩, geometryFree_of_nothing hfree']; rfl)
    · exact acceptedAs_of_reply rfl (by
        simp only [replyPlaceHead, named_fin, placed, geometryFree_of_nothing hfree']; rfl)
    · exact acceptedAs_of_reply rfl (by simp [replySetRegStop, hn, geometryFree_of_nothing hfree'])
    · exact acceptedAs_of_reply rfl (by simp [replySetGate, hn, hn', geometryFree_of_nothing hfree']; rfl)
  · have hruns' : ¬NothingRuns (takenOn p s) := hruns
    refine ⟨fun rl tol hrl hrl' htol => ?_, fun m q g hm hm' hq hq' hg hg' => ?_, fun h l ply lag hp hp' hl hl' => ?_,
      fun h => ?_, fun n hn => ?_, fun n hn hn' => ?_⟩
    · exact refusedAs_of_reply rfl (by simp [replySetWeb, hrl, hrl', htol, geometryFree_of_something hruns'])
    · exact refusedAs_of_reply rfl (by
        simp [replySetLags, isLag, hm, hm', hq, hq', hg, hg', geometryFree_of_something hruns'])
    · exact refusedAs_of_reply rfl (by
        simp only [replyPlaceHead, named_fin, placed_some ⟨hp, hp'⟩ ⟨hl, hl'⟩, geometryFree_of_something hruns'])
    · exact refusedAs_of_reply rfl (by
        simp only [replyPlaceHead, named_fin, placed, geometryFree_of_something hruns'])
    · exact refusedAs_of_reply rfl (by simp [replySetRegStop, hn, geometryFree_of_something hruns'])
    · exact refusedAs_of_reply rfl (by simp [replySetGate, hn, hn', geometryFree_of_something hruns'])

/-! ## ASSIGN_LINE and WRITE_LINES -/

theorem lineFunction_ofIndex_place (f : LineFunction) : LineFunction.ofIndex f.place = some f := by
  cases f with
  | genIn | genOut | encA | encB | index | stopReq => rfl
  | mark c => revert c; decide
  | gate l => revert l; decide

theorem flag_ite (u : Bool) (k : Bool → Reply) : flag (if u then 1 else 0) k = k u := by cases u <;> rfl

theorem heldElsewhere_eq_false {s : State} {i : LineId} {f : LineFunction} :
    heldElsewhere s i f = false ↔ ∀ j : LineId, j ≠ i → s.lm.lines[j].function ≠ f := by
  simp [heldElsewhere]

theorem replyAssignLine_accept {s : State} {i : LineId} {f : LineFunction} {u : Bool}
    (hfree : s.lm.lines[i].function = f ∨ s.lm.lines[i].function.isFrozen = false ∧ f.isFrozen = false ∨ NothingRuns s)
    (halone : f.isGeneral = true ∨ ∀ j : LineId, j ≠ i → s.lm.lines[j].function ≠ f) :
    replyAssignLine i f.place (if u then 1 else 0) s =
      .accept (assignLine i f u s) (lineBytes (assignRecord s i f u)) := by
  have hmay : (s.lm.lines[i].function == f || !(s.lm.lines[i].function.isFrozen || f.isFrozen) || !running s) = true := by
    rw [← running_eq_false] at hfree
    simpa [or_assoc] using hfree
  have hnew : (f.isGeneral || !heldElsewhere s i f) = true := by
    rw [← heldElsewhere_eq_false] at halone
    simpa using halone
  simp only [replyAssignLine, named_fin, coded, lineFunction_ofIndex_place, flag_ite, hmay, hnew, require_true]

section
variable (i : LineId) (f : LineFunction) (u : Bool) (s : State)

theorem assignLine_line_same : (assignLine i f u s).lm.lines[(i : Nat)] = assignRecord s i f u := by
  simp [assignLine, followAssignment]

theorem assignLine_line_other {j : LineId} (h : j ≠ i) :
    (assignLine i f u s).lm.lines[(j : Nat)] = s.lm.lines[(j : Nat)] := by
  have hne : (i : Nat) ≠ j := fun e => h (Fin.ext e.symm)
  simp [assignLine, followAssignment, hne]

/-- An output shows its drive after ASSIGN_LINE, or the level it showed where the drive is as it was (R177; log 10). -/
theorem assignLine_level {v : Bool} (h : lineDrive (assignLine i f u s) i = some v) :
    (assignLine i f u s).lm.lines[(i : Nat)].level = if lineDrive s i = some v then s.lm.lines[(i : Nat)].level else v := by
  rw [assignLine_line_same]
  rw [lineDrive, Fin.getElem_fin, assignLine_line_same] at h
  have hdrive : driveOf s { s.lm.lines[i] with function := f, pullUp := u } = some v := h
  exact assignedLevel_output hdrive i

end

/-- Settles O41: the request changes its own line and what the WPU makes of it; the written lines take latch and level. -/
theorem linesAssignedAndWritten : Obligations.LinesAssignedAndWritten := by
  refine ⟨fun p s i f u hfree halone hf ha => ?_, fun p s mask levels => acceptedAs_of_reply rfl rfl⟩
  have hexec := request_accept hf ha (replyAssignLine_accept (s := takenOn p s) (u := u) hfree halone)
  refine ⟨_, hexec, ?_, ?_, ?_, fun v hv => ?_, fun j hj => ?_, rfl, rfl, rfl, rfl, rfl, rfl, rfl, rfl, rfl, rfl⟩
  · simp [assignLine_line_same]
  · simp [assignLine_line_same]
  · simp [assignLine_line_same]
  · exact assignLine_level i f u (takenOn p s) hv
  · exact assignLine_line_other i f u (takenOn p s) hj

/-! ## The device reset -/

theorem startRole_eq (levels : BitVec 24) (p : PortId) :
    startRole levels p =
      match levels.getLsbD (2 * p), levels.getLsbD (2 * p + 1) with
      | false, false => .monitor
      | false, true => .inspect
      | true, false => .drive
      | true, true =>
        if ∃ q : PortId, q < p ∧ levels.getLsbD (2 * q) = true ∧ levels.getLsbD (2 * q + 1) = true then .monitor
        else .supervisor := by
  have hstrap : ∀ q : PortId, strappedRole levels q = .supervisor ↔
      levels.getLsbD (2 * q) = true ∧ levels.getLsbD (2 * q + 1) = true := fun q => by
    unfold strappedRole
    cases levels.getLsbD (2 * q) <;> cases levels.getLsbD (2 * q + 1) <;> simp [strapRole]
  have hlower : ((List.finRange 4).any fun q => q < p && strappedRole levels q == .supervisor) = true ↔
      ∃ q : PortId, q < p ∧ levels.getLsbD (2 * q) = true ∧ levels.getLsbD (2 * q + 1) = true := by
    simp [hstrap]
  simp only [startRole, hlower, hstrap]
  cases h1 : levels.getLsbD (2 * p) <;> cases h2 : levels.getLsbD (2 * p + 1) <;> simp [strappedRole, strapRole, h1, h2]

/-- Settles O3: the state after a reset is written out in the model, and the roles follow the straps. -/
theorem deviceResetValues : Obligations.DeviceResetValues := by
  intro levels s
  refine ⟨_, rfl, rfl, ⟨rfl, rfl, rfl, rfl, rfl, rfl, rfl, ?_⟩, ⟨rfl, rfl, rfl, rfl, rfl, rfl, ?_⟩, ⟨rfl, rfl, ?_⟩,
    ⟨?_, rfl, rfl, rfl⟩, ⟨rfl, rfl, rfl, rfl, rfl, ?_⟩, ⟨rfl, ?_⟩, ?_, ?_, rfl⟩
  · simp [State.reset]
  · simp [State.reset]
  · simp
  · simp [Head.reset]
  · simp [State.reset]
  · simp [Line.reset]
  · simp [Port.reset]
  · intro one two p
    simp only [Fin.getElem_fin, tabulate_getElem, Port.reset]
    exact startRole_eq levels p

end Sys2Proof.Machine
end

section
/-! PROOFS. The cycle boundary: what the Set Tracker makes of slots and ring, and that the other blocks leave both as they
are. -/

namespace Sys2Proof.Machine

/-! ## Where the contexts stand -/

/-- What a boundary reads and changes of a context beside its numbers: its state, its suspend flag, its sets in flight, and
the list and the lanes that an allocation follows (R53, R158). -/
structure Standing where
  state : JobState
  suspend : Bool
  inFlight : Nat
  list : List AllocEntry
  lanes : Nat

def Context.standing (c : Context) : Standing :=
  { state := c.state, suspend := c.suspend, inFlight := c.inFlight, list := c.list, lanes := c.lanes }

/-- Where the context of a slot stands, none for EMPTY. -/
def standing (s : State) (k : SlotId) : Option Standing := s.slots[k].map Context.standing

def Standing.enter (j : JobState) (c : Standing) : Standing := { c with state := j, suspend := false }

theorem slotState_eq (s : State) (k : SlotId) : slotState s k = (standing s k).map Standing.state := by
  simp [slotState, standing, Function.comp_def, Context.standing]

theorem standing_of_some {s : State} {k : SlotId} {c : Context} (h : s.slots[k] = some c) :
    standing s k = some c.standing := by
  rw [standing, h]; rfl

theorem standing_eq_some {s : State} {k : SlotId} {x : Standing} :
    standing s k = some x ↔ ∃ c, s.slots[k] = some c ∧ c.standing = x := by
  simp [standing]

theorem standing_congr {s t : State} (h : t.slots = s.slots) : standing t = standing s := by
  funext k; simp [standing, h]

theorem modifyContext_standing {k : SlotId} {f : Context → Context} {g : Standing → Standing}
    (h : ∀ c, (f c).standing = g c.standing) (s : State) :
    standing (modifyContext k f s) = Function.update (standing s) k ((standing s k).map g) := by
  funext j
  by_cases hj : j = k
  · subst hj
    simp [standing, Function.comp_def, h]
  · simp [standing, hj, updateAt_get_ne _ _ _ _ (Ne.symm hj)]

theorem modifyContext_standing_kept {k : SlotId} {f : Context → Context} (h : ∀ c, (f c).standing = c.standing)
    (s : State) : standing (modifyContext k f s) = standing s := by
  rw [modifyContext_standing (g := id) h, Option.map_id, id, Function.update_eq_self]

theorem modifySequence_standing (k : SlotId) (q : SeqId) (f : Sequence → Sequence) (s : State) :
    standing (modifySequence k q f s) = standing s :=
  modifyContext_standing_kept (f := Context.modifySequence q f) (fun _ => rfl) s

theorem enter_standing (k : SlotId) (j : JobState) (s : State) :
    standing (modifyContext k (Context.enter j) s) =
      Function.update (standing s) k ((standing s k).map (Standing.enter j)) :=
  modifyContext_standing (fun _ => rfl) s

theorem parkContext_standing (k : SlotId) (s : State) :
    standing (parkContext k s) = Function.update (standing s) k ((standing s k).map (Standing.enter .parked)) := by
  unfold parkContext
  split
  · rename_i h
    have hnone : standing s k = none := by rw [standing, h]; rfl
    rw [hnone, Option.map_none, ← hnone, Function.update_eq_self]
  · rw [standing_congr (contextRecord_slots ..), enter_standing]

theorem notifyJob_standing (k : SlotId) (job : Option Nat) (a b : Option JobState) (s : State) :
    standing (notifyJob k job a b s) = standing s :=
  standing_congr rfl

/-- The slot of the ACTIVE context hangs on which slots are ACTIVE alone. -/
theorem activeSlot_congr {s t : State} (h : ∀ k, slotState t k = some .active ↔ slotState s k = some .active) :
    activeSlot t = activeSlot s := by
  have heq : (fun k => slotState t k == some JobState.active) = fun k => slotState s k == some JobState.active := by
    funext k
    rw [Bool.eq_iff_iff, beq_iff_eq, beq_iff_eq]
    exact h k
  simp only [activeSlot, slotIn, heq]

theorem activeSlot_some {s : State} {k : SlotId} (h : activeSlot s = some k) : slotState s k = some .active := by
  simpa using List.find?_some h

theorem activeSlot_none {s : State} : activeSlot s = none ↔ ∀ k, slotState s k ≠ some .active := by
  simp [activeSlot, slotIn, firstIndex, List.find?_eq_none]

theorem activeSlot_of_unique {s : State} {k : SlotId} (h : slotState s k = some .active)
    (hu : ∀ j, slotState s j = some .active → j = k) : activeSlot s = some k := by
  cases ha : activeSlot s with
  | none => exact absurd h (activeSlot_none.mp ha k)
  | some j => rw [hu j (activeSlot_some ha)]

/-! ## Retirement -/

theorem issueNumber_standing (slot : SlotId) (q : SeqId) (lane : LaneId) (n : Number) (a : Settling) :
    standing (issueNumber slot q lane n a).state = standing a.state := by
  unfold issueNumber
  split
  · rfl
  · split
    · rfl
    · exact (modifySequence_standing ..).trans (standing_congr (Settling.write_state_slots ..))

theorem spoilNumber_standing (slot : SlotId) (q : SeqId) (lane : LaneId) (why : Reason) (tag : Cycle) (n : Number)
    (a : Settling) : standing (spoilNumber slot q lane why tag n a).state = standing a.state := by
  unfold spoilNumber
  split
  · rfl
  · split
    · rfl
    · exact (modifySequence_standing ..).trans (standing_congr (Settling.write_state_slots ..))

theorem settleEntry_standing (r : SetRecord) (lane : LaneId) (part : LanePart) (a : Settling) (e : EntryPart) :
    standing (settleEntry r lane part a e).state = standing a.state := by
  unfold settleEntry
  split
  · rfl
  · split
    · split
      · rfl
      · split
        · exact spoilNumber_standing ..
        · exact issueNumber_standing ..
      · split
        · exact spoilNumber_standing ..
        · exact issueNumber_standing ..
    · rfl

theorem settleLane_standing (r : SetRecord) (a : Settling) (lane : LaneId) :
    standing (settleLane r a lane).state = standing a.state := by
  unfold settleLane
  split
  · rfl
  · exact foldl_keeps (fun a : Settling => standing a.state) (fun a e => settleEntry_standing r lane _ a e) _ a

/-- A context after one of its sets has left the ring: a DRAINING one without sets is PARKED (R125, R172). -/
def Standing.leave (c : Standing) : Standing :=
  if c.state = .draining ∧ c.inFlight - 1 = 0 then { c with inFlight := c.inFlight - 1 }.enter .parked
  else { c with inFlight := c.inFlight - 1 }

theorem removeSet_standing (r : SetRecord) (a : Settling) :
    standing (removeSet r a) = Function.update (standing a.state) r.slot ((standing a.state r.slot).map Standing.leave) := by
  have hfewer : ∀ u : State, standing (modifyContext r.slot (fun c => { c with inFlight := c.inFlight - 1 }) u) =
      Function.update (standing u) r.slot
        ((standing u r.slot).map fun c => { c with inFlight := c.inFlight - 1 }) := fun u =>
    modifyContext_standing (fun _ => rfl) u
  unfold removeSet
  extract_lets state st s1 s2 job s3
  have h3 : standing s3 = Function.update (standing a.state) r.slot
      ((standing a.state r.slot).map fun c => { c with inFlight := c.inFlight - 1 }) := by
    have h2 : s3.slots = (modifyContext r.slot (fun c => { c with inFlight := c.inFlight - 1 }) s1).slots := by
      simp only [s3, s2, ite_notify_slots, returnReserved_slots]
    rw [standing_congr h2, hfewer]; rfl
  cases hc : s3.slots[r.slot] with
  | none =>
    have hnone : standing s3 r.slot = none := by rw [standing, hc]; rfl
    rw [h3, Function.update_self, Option.map_eq_none_iff] at hnone
    simp only [h3, hnone, Option.map_none]
  | some c =>
    have hsome : standing s3 r.slot = some c.standing := standing_of_some hc
    rw [h3, Function.update_self, Option.map_eq_some_iff] at hsome
    obtain ⟨x, hx, hxc⟩ := hsome
    have hstate : c.state = x.state := congrArg Standing.state hxc.symm
    have hcount : c.inFlight = x.inFlight - 1 := congrArg Standing.inFlight hxc.symm
    simp only [hx, Option.map_some, Standing.leave, hstate, hcount]
    split
    · rw [notifyJob_standing, parkContext_standing, h3, hx, Function.update_self, Function.update_idem]
      rfl
    · rw [h3, hx]; rfl

theorem gateStep_st (due : Option SetRecord) (s : State) :
    (gateStep due s).st = { s.st with gates := (gateStep due s).st.gates } := by
  have hrest : ({ (gateStep due s).st with gates := s.st.gates } : Tracker) = s.st :=
    foldl_keeps (fun u : State => ({ u.st with gates := s.st.gates } : Tracker))
      (fun u k => by simp only [setGateRecord_st]) _ s
  calc (gateStep due s).st
      = { ({ (gateStep due s).st with gates := s.st.gates } : Tracker) with gates := (gateStep due s).st.gates } := rfl
    _ = { s.st with gates := (gateStep due s).st.gates } := by rw [hrest]

theorem removeSet_st (r : SetRecord) (a : Settling) :
    (removeSet r a).st = { a.state.st with ring := a.state.st.ring.filter fun x => x.tag != r.tag } := by
  unfold removeSet
  extract_lets state st s1 s2 job s3
  have h3 : s3.st = s1.st := by
    have hite : s3.st = s2.st := by simp only [s3]; split <;> rfl
    rw [hite]; simp [s2]
  split
  · split
    · rw [notifyJob_st, parkContext_st, h3]
    · exact h3
  · exact h3

/-- The tag of the set that a boundary retires (R51, R120). -/
def dueTag (s : State) : Cycle := s.wpu.cycle - BitVec.ofNat 32 s.st.gateLag

theorem setTagged_some {s : State} {t : Cycle} {r : SetRecord} (h : setTagged s t = some r) :
    r ∈ s.st.ring ∧ r.tag = t :=
  ⟨List.mem_of_find?_eq_some h, by simpa using List.find?_some h⟩

theorem setTagged_none {s : State} {t : Cycle} (h : setTagged s t = none) : ∀ r ∈ s.st.ring, r.tag ≠ t := by
  simpa [setTagged] using h

/-- A retirement takes the due set, and no other, out of the ring. -/
theorem retire_st (s : State) :
    (retire s).st = { s.st with
      ring := s.st.ring.filter fun r => r.tag != dueTag s, gates := (retire s).st.gates } := by
  unfold retire
  split
  · rename_i h
    have hall : s.st.ring.filter (fun r => r.tag != dueTag s) = s.st.ring :=
      List.filter_eq_self.mpr fun r hr => bne_iff_ne.mpr (setTagged_none h r hr)
    rw [hall]
    exact gateStep_st none s
  · rename_i r h
    have hlanes : ((List.finRange 4).foldl (settleLane r)
        { state := gateStep (some r) s, left := r.reservation }).state.st = (gateStep (some r) s).st :=
      foldl_keeps (fun a : Settling => a.state.st) (fun a l => settleLane_st r l a) _ _
    rw [removeSet_st, hlanes, (setTagged_some h).2, gateStep_st]
    rfl

/-- A retirement lets the due set's context go on with a set less. -/
theorem retire_standing (s : State) :
    standing (retire s) = match setTagged s (dueTag s) with
      | none => standing s
      | some r => Function.update (standing s) r.slot ((standing s r.slot).map Standing.leave) := by
  unfold retire
  have hdue : setAtAge s s.st.gateLag = setTagged s (dueTag s) := rfl
  rw [hdue]
  cases setTagged s (dueTag s) with
  | none => exact standing_congr (gateStep_slots ..)
  | some r =>
    have hlanes : standing ((List.finRange 4).foldl (settleLane r)
        { state := gateStep (some r) s, left := r.reservation }).state = standing (gateStep (some r) s) :=
      foldl_keeps (fun a : Settling => standing a.state) (fun a l => settleLane_standing r a l) _ _
    simp only []
    rw [removeSet_standing, hlanes, standing_congr (gateStep_slots ..)]

/-! ## Allocation -/

theorem fillFresh_standing (k : SlotId) (lane : LaneId) (q : SeqId) (x : Sequence) (ranges : List Exclusion) (a : Filling) :
    standing (fillFresh k lane q x ranges a).state = standing a.state := by
  unfold fillFresh
  split
  · exact (standing_congr (makeStale_slots ..)).trans (modifySequence_standing ..)
  · exact (standing_congr (by simp)).trans (modifySequence_standing k q Sequence.exhaust a.state)

theorem fillEntry_standing (k : SlotId) (a : Filling) (e : AllocEntry) :
    standing (fillEntry k a e).state = standing a.state := by
  unfold fillEntry
  split
  · rfl
  · rfl
  · split
    · rfl
    · split
      · rfl
      · split
        · exact modifySequence_standing ..
        · exact fillFresh_standing ..

theorem numberSet_standing (k : SlotId) (l : List AllocEntry) (s : State) :
    standing (numberSet k l s).state = standing s := by
  unfold numberSet
  split
  · exact (foldl_keeps (fun a : Filling => standing a.state) (fillEntry_standing k) l _).trans
      (standing_congr (reserveRecords_slots ..))
  · rfl

theorem push_lanes (a : Filling) (lane : LaneId) (q : Option SeqId) (e : EntryState) :
    (a.push lane q e).parts.map EntryPart.lane = a.parts.map EntryPart.lane ++ [lane] := by
  simp [Filling.push]

/-- Every entry of the list gives the set one part, in the entry's lane (R61 to R64). -/
theorem fillEntry_lanes (k : SlotId) (a : Filling) (e : AllocEntry) :
    (fillEntry k a e).parts.map EntryPart.lane = a.parts.map EntryPart.lane ++ [e.lane] := by
  unfold fillEntry
  split
  · exact push_lanes ..
  · exact push_lanes ..
  · split
    · exact push_lanes ..
    · split
      · exact push_lanes ..
      · split
        · exact push_lanes ..
        · unfold fillFresh
          split <;> exact push_lanes ..

theorem foldl_fillEntry_lanes (k : SlotId) (l : List AllocEntry) (a : Filling) :
    (l.foldl (fillEntry k) a).parts.map EntryPart.lane = a.parts.map EntryPart.lane ++ l.map AllocEntry.lane := by
  induction l generalizing a with
  | nil => simp
  | cons e l ih => rw [List.foldl_cons, ih, fillEntry_lanes]; simp

theorem numberSet_lanes (k : SlotId) (l : List AllocEntry) (s : State) :
    (numberSet k l s).parts.map EntryPart.lane = l.map AllocEntry.lane := by
  unfold numberSet
  split
  · exact foldl_fillEntry_lanes k l _
  · simp [degradedPart, Function.comp_def]

theorem length_laneIds (n : Nat) : (laneIds n).length = min n 4 := by
  unfold laneIds
  match n with
  | 0 | 1 | 2 | 3 => rfl
  | n + 4 =>
    have hall : ∀ l : LaneId, (l : Nat) < n + 4 := fun l => by omega
    simp [hall]

/-- The record that an allocation from a context makes: the present cycle's tag, a part in the lane of each entry of the
list, and a part for each lane of the job (R65 to R67). -/
structure SetRecord.FreshFrom (r : SetRecord) (x : Cycle) (k : SlotId) (c : Standing) : Prop where
  tag : r.tag = x
  slot : r.slot = k
  lanesOfEntries : r.entries.map EntryPart.lane = c.list.map AllocEntry.lane
  lanes : r.lanes.length = min c.lanes 4

/-- An allocation with the run gate OPEN adds one set to the ring and to its context's sets in flight (R56, R69). -/
theorem allocate_open {s : State} {k : SlotId} {c : Standing} (ho : s.st.runOpen = true) (ha : activeSlot s = some k)
    (hc : standing s k = some c) :
    ∃ r : SetRecord, r.FreshFrom s.wpu.cycle k c ∧ (allocate s).st = { s.st with ring := s.st.ring ++ [r] } ∧
      standing (allocate s) = Function.update (standing s) k (some { c with inFlight := c.inFlight + 1 }) := by
  obtain ⟨x, hx, rfl⟩ := standing_eq_some.mp hc
  let a := numberSet k x.list s
  have halloc : allocate s = appendSet (newSet k x s.wpu.cycle a.parts a.left) a.state := by
    unfold allocate; simp only [ho, ha, hx]; rfl
  refine ⟨newSet k x s.wpu.cycle a.parts a.left, ⟨rfl, rfl, numberSet_lanes .., ?_⟩, ?_, ?_⟩
  · simp [newSet, length_laneIds]; rfl
  · rw [halloc]; simp [appendSet, a]
  · rw [halloc, appendSet, modifyContext_standing (g := fun c => { c with inFlight := c.inFlight + 1 }) fun _ => rfl]
    have hstanding : standing { a.state with st := { a.state.st with ring := a.state.st.ring ++
        [newSet k x s.wpu.cycle a.parts a.left] } } = standing s := (standing_congr rfl).trans (numberSet_standing ..)
    rw [hstanding]
    simp only [newSet, hc, Option.map_some]

/-- Without a run or with the run gate CLOSED there is no allocation (R56). -/
theorem allocate_closed {s : State} (h : s.st.runOpen = false ∨ activeSlot s = none) : allocate s = s := by
  unfold allocate
  split
  · rename_i ho ha
    rcases h with h | h
    · simp [h] at ho
    · simp [h] at ha
  · rfl

/-! ## What a boundary finds -/

/-- The pending activation is for this cycle and for this slot (R167). -/
def Comes (s : State) (j : SlotId) : Prop :=
  ∃ a : Activation, s.activation = some a ∧ a.effective = s.wpu.cycle ∧ a.slot = j

/-- The context of the slot runs this cycle: the one that comes, else the ACTIVE one unless it is suspended (R169, R171). -/
def Runs (s : State) (j : SlotId) : Prop :=
  Comes s j ∨ (∀ i, ¬Comes s i) ∧ ∃ c : Standing, standing s j = some c ∧ c.state = .active ∧ c.suspend = false

/-- What `RunSound` says of a state whose cycle counter a boundary has already raised. -/
structure BoundaryReady (s : State) : Prop where
  oneActive : ∀ i j : SlotId, slotState s i = some .active → slotState s j = some .active → i = j
  pending : ∀ a : Activation, s.activation = some a → slotState s a.slot = some a.origin.state
  suspended : ∀ (k : SlotId) (c : Standing), standing s k = some c → c.suspend = true → 1 ≤ c.inFlight
  draining : ∀ (k : SlotId) (c : Standing), standing s k = some c → c.state = .draining → 1 ≤ c.inFlight
  counted : ∀ (k : SlotId) (c : Standing), standing s k = some c → c.inFlight = setsOf k s
  tags : (s.st.ring.map SetRecord.tag).Nodup
  lags : ¬NothingRuns s → 1 ≤ s.st.gateLag ∧ s.st.gateLag ≤ 127

theorem ActivationOrigin.state_ne_active (o : ActivationOrigin) : o.state ≠ .active := by cases o <;> decide

theorem Runs.not_nothingRuns {s : State} {j : SlotId} (hr : Runs s j) : ¬NothingRuns s := by
  rintro ⟨hstates, hnone⟩
  rcases hr with ⟨a, ha, -⟩ | ⟨-, c, hc, hca, -⟩
  · rw [hnone] at ha; cases ha
  · exact (hstates j).1 (by rw [slotState_eq, hc, Option.map_some, hca])

section
variable {s : State} (h : BoundaryReady s)
include h

theorem BoundaryReady.standing_of_comes {j : SlotId} (hc : Comes s j) :
    ∃ c, standing s j = some c ∧ c.state ≠ .active := by
  obtain ⟨a, ha, -, rfl⟩ := hc
  have hstate := h.pending a ha
  rw [slotState_eq, Option.map_eq_some_iff] at hstate
  obtain ⟨c, hc, he⟩ := hstate
  exact ⟨c, hc, he ▸ a.origin.state_ne_active⟩

theorem BoundaryReady.standing_of_runs {j : SlotId} (hr : Runs s j) : ∃ c, standing s j = some c := by
  rcases hr with hc | ⟨-, c, hc, -⟩
  · obtain ⟨c, hc, -⟩ := h.standing_of_comes hc
    exact ⟨c, hc⟩
  · exact ⟨c, hc⟩

theorem BoundaryReady.active_unique {i j : SlotId} {c d : Standing} (hi : standing s i = some c) (hj : standing s j = some d)
    (hc : c.state = .active) (hd : d.state = .active) : i = j :=
  h.oneActive i j (by rw [slotState_eq, hi, Option.map_some, hc]) (by rw [slotState_eq, hj, Option.map_some, hd])

theorem BoundaryReady.runs_unique {i j : SlotId} (hi : Runs s i) (hj : Runs s j) : i = j := by
  rcases hi with ⟨a, ha, hx, rfl⟩ | ⟨hno, c, hc, hca, -⟩
  · rcases hj with ⟨b, hb, -, rfl⟩ | ⟨hno, -⟩
    · rw [Option.some.inj (ha.symm.trans hb)]
    · exact absurd ⟨a, ha, hx, rfl⟩ (hno a.slot)
  · rcases hj with hj | ⟨-, d, hd, hda, -⟩
    · exact absurd hj (hno j)
    · exact h.active_unique hc hd hca hda

/-- While something runs the set of this boundary is not the one that it retires (R50). -/
theorem BoundaryReady.due_ne_cycle {j : SlotId} (hr : Runs s j) : s.wpu.cycle ≠ dueTag s := by
  obtain ⟨hpos, hmax⟩ := h.lags (hr.not_nothingRuns)
  intro e
  have hzero : (BitVec.ofNat 32 s.st.gateLag).toNat = 0 := by
    have : BitVec.ofNat 32 s.st.gateLag = 0 := by
      unfold dueTag at e; bv_omega
    rw [this]; rfl
  rw [BitVec.toNat_ofNat] at hzero
  omega

end

/-! ## Changeover and suspension -/

/-- The state that an ACTIVE context goes to when it no longer runs (R169, R171). -/
def Standing.giveWay (c : Standing) : Standing :=
  if c.state = .active then c.enter (if 0 < c.inFlight then .draining else .parked) else c

theorem Standing.giveWay_active {c : Standing} (h : c.state = .active) :
    c.giveWay = c.enter (if 0 < c.inFlight then .draining else .parked) := if_pos h

theorem Standing.giveWay_other {c : Standing} (h : c.state ≠ .active) : c.giveWay = c := if_neg h

theorem Standing.giveWay_not_active (c : Standing) : c.giveWay.state ≠ .active := by
  unfold Standing.giveWay
  split
  · simp only [Standing.enter]; split <;> decide
  · assumption

theorem demote_standing (k : SlotId) {s : State} {c : Standing} (hc : standing s k = some c) (ha : c.state = .active) :
    standing (demote k s) = Function.update (standing s) k (some c.giveWay) := by
  obtain ⟨x, hx, rfl⟩ := standing_eq_some.mp hc
  rw [Standing.giveWay_active ha]
  unfold demote
  simp only [hx]
  have hcount : x.standing.inFlight = x.inFlight := rfl
  rw [hcount]
  split
  · rw [enter_standing, hc]; rfl
  · rw [parkContext_standing, hc]; rfl

theorem changeover_of_none {s : State} (h : ∀ i, ¬Comes s i) : changeover s = s := by
  unfold changeover
  split
  · rfl
  · rename_i a ha
    exact if_neg fun hx => h a.slot ⟨a, ha, hx, rfl⟩

theorem changeover_activation_of_comes {s : State} {i : SlotId} (h : Comes s i) : (changeover s).activation = none := by
  obtain ⟨a, ha, hx, -⟩ := h
  unfold changeover
  simp only [ha, hx, if_true]
  split
  · rfl
  · generalize (activeSlot s).filter (fun k => k != a.slot) = old
    cases old <;> simp

/-- The context that comes enters, and the one that was ACTIVE gives way (R169). -/
theorem changeover_standing {s : State} {a : Activation} {c : Standing} (ha : s.activation = some a)
    (hx : a.effective = s.wpu.cycle) (hc : standing s a.slot = some c) :
    standing (changeover s) =
      match (activeSlot s).filter fun k => k != a.slot with
      | none => Function.update (standing s) a.slot (some (c.enter .active))
      | some k => Function.update (Function.update (standing s) a.slot (some (c.enter .active))) k
          ((standing s k).map Standing.giveWay) := by
  obtain ⟨x, hxc, rfl⟩ := standing_eq_some.mp hc
  unfold changeover
  simp only [ha, hx, if_true, hxc]
  have henter : ∀ d : Deferred, standing (contextRecord d (modifyContext a.slot (Context.enter .active)
      { s with activation := none })) = Function.update (standing s) a.slot (some (x.standing.enter .active)) := fun d => by
    rw [standing_congr (contextRecord_slots ..), enter_standing]
    have : standing { s with activation := none } = standing s := rfl
    rw [this, hc, Option.map_some]
  cases hold : (activeSlot s).filter fun k => k != a.slot with
  | none => exact (notifyJob_standing ..).trans (henter _)
  | some k =>
    obtain ⟨hactive, hne⟩ := Option.filter_eq_some_iff.mp hold
    have hk : k ≠ a.slot := by simpa using hne
    have hstate := activeSlot_some hactive
    rw [slotState_eq, Option.map_eq_some_iff] at hstate
    obtain ⟨d, hd, hda⟩ := hstate
    have hd' := fun d' => (congrFun (henter d') k).trans ((Function.update_of_ne hk ..).trans hd)
    refine (notifyJob_standing ..).trans ((notifyJob_standing ..).trans ?_)
    refine (demote_standing k (hd' _) hda).trans ?_
    have hgive : (standing s k).map Standing.giveWay = some d.giveWay := by rw [hd, Option.map_some]
    rw [henter, ← hgive]

theorem suspension_of_none {s : State} (h : activeSlot s = none) : suspension s = s := by
  unfold suspension; rw [h]

theorem suspension_of_unflagged {s : State} {k : SlotId} {c : Standing} (h : activeSlot s = some k)
    (hc : standing s k = some c) (hs : c.suspend = false) : suspension s = s := by
  obtain ⟨x, hx, rfl⟩ := standing_eq_some.mp hc
  have hflag : x.suspend = false := hs
  unfold suspension
  simp only [h, hx, hflag]
  rfl

theorem suspension_of_flagged {s : State} {k : SlotId} {c : Standing} (h : activeSlot s = some k)
    (hc : standing s k = some c) (hs : c.suspend = true) :
    standing (suspension s) = Function.update (standing s) k (some (c.enter .draining)) := by
  obtain ⟨x, hx, rfl⟩ := standing_eq_some.mp hc
  have hflag : x.suspend = true := hs
  unfold suspension
  simp only [h, hx, hflag, if_true]
  rw [notifyJob_standing, enter_standing, hc, Option.map_some]

section
variable {s : State} (h : BoundaryReady s)
include h

theorem BoundaryReady.suspension_standing (hno : ∀ i, ¬Comes s i) (j : SlotId) :
    (Runs s j → standing (suspension s) j = (standing s j).map (Standing.enter .active)) ∧
    (¬Runs s j → standing (suspension s) j = (standing s j).map Standing.giveWay) := by
  have hrest : (∀ c, standing s j = some c → c.state ≠ .active) → ¬Runs s j ∧
      (standing s j).map Standing.giveWay = standing s j := fun hc => by
    refine ⟨fun hr => ?_, ?_⟩
    · rcases hr with hj | ⟨-, c, hj, hca, -⟩
      · exact hno j hj
      · exact hc c hj hca
    · cases hj : standing s j with
      | none => rfl
      | some c => rw [Option.map_some, Standing.giveWay_other (hc c hj)]
  cases hactive : activeSlot s with
  | none =>
    obtain ⟨hnr, hsame⟩ := hrest fun c hc e =>
      activeSlot_none.mp hactive j (by rw [slotState_eq, hc, Option.map_some, e])
    exact ⟨fun hr => absurd hr hnr, fun _ => by rw [suspension_of_none hactive, hsame]⟩
  | some k =>
    have hstate := activeSlot_some hactive
    rw [slotState_eq, Option.map_eq_some_iff] at hstate
    obtain ⟨c, hc, hca⟩ := hstate
    by_cases hjk : j = k
    · subst hjk
      cases hs : c.suspend with
      | false =>
        have hsame : c.enter .active = c := by cases c; cases hca; cases hs; rfl
        refine ⟨fun _ => ?_, fun hnr => absurd (.inr ⟨hno, c, hc, hca, hs⟩) hnr⟩
        rw [suspension_of_unflagged hactive hc hs, hc, Option.map_some, hsame]
      | true =>
        refine ⟨fun hr => ?_, fun _ => ?_⟩
        · rcases hr with hj | ⟨-, d, hd, -, hds⟩
          · exact absurd hj (hno j)
          · rw [Option.some.inj (hc.symm.trans hd)] at hs
            rw [hs] at hds; cases hds
        · rw [suspension_of_flagged hactive hc hs, Function.update_self, hc, Option.map_some,
            Standing.giveWay_active hca, if_pos (show 0 < c.inFlight from h.suspended j c hc hs)]
    · obtain ⟨hnr, hsame⟩ := hrest fun d hd hda => hjk (h.active_unique hd hc hda hca)
      refine ⟨fun hr => absurd hr hnr, fun _ => ?_⟩
      cases hs : c.suspend with
      | false => rw [suspension_of_unflagged hactive hc hs, hsame]
      | true => rw [suspension_of_flagged hactive hc hs, Function.update_of_ne hjk, hsame]

/-- A changeover: the context that comes enters, every other one gives way, and the suspension finds nothing to do. -/
theorem BoundaryReady.changeover_suspension {k : SlotId} (hk : Comes s k) (j : SlotId) :
    standing (suspension (changeover s)) j =
      if j = k then (standing s j).map (Standing.enter .active) else (standing s j).map Standing.giveWay := by
  obtain ⟨c, hc, hnot⟩ := h.standing_of_comes hk
  obtain ⟨a, ha, hx, rfl⟩ := hk
  have hover : ∀ i, standing (changeover s) i =
      if i = a.slot then (standing s i).map (Standing.enter .active) else (standing s i).map Standing.giveWay := fun i => by
    have hold : (activeSlot s).filter (fun k => k != a.slot) = activeSlot s := by
      cases hactive : activeSlot s with
      | none => rfl
      | some k =>
        refine Option.filter_some_pos (bne_iff_ne.mpr ?_)
        rintro rfl
        have hstate := activeSlot_some hactive
        rw [slotState_eq, hc, Option.map_some, Option.some.injEq] at hstate
        exact hnot hstate
    rw [changeover_standing ha hx hc, hold]
    have hsame : (∀ d, standing s i = some d → d.state ≠ .active) →
        (standing s i).map Standing.giveWay = standing s i := fun hd => by
      cases hi : standing s i with
      | none => rfl
      | some d => rw [Option.map_some, Standing.giveWay_other (hd d hi)]
    cases hactive : activeSlot s with
    | none =>
      by_cases hia : i = a.slot
      · subst hia; simp [hc]
      · simp only [hia, if_false, ne_eq, not_false_eq_true, Function.update_of_ne]
        exact (hsame fun d hd e => activeSlot_none.mp hactive i (by rw [slotState_eq, hd, Option.map_some, e])).symm
    | some k =>
      have hstate := activeSlot_some hactive
      rw [slotState_eq, Option.map_eq_some_iff] at hstate
      obtain ⟨d, hd, hda⟩ := hstate
      have hka : k ≠ a.slot := by
        rintro rfl
        rw [Option.some.inj (hc.symm.trans hd)] at hnot
        exact hnot hda
      by_cases hia : i = a.slot
      · subst hia; simp [hc, Ne.symm hka]
      · by_cases hik : i = k
        · subst hik; simp [hia]
        · simp only [hia, hik, if_false, ne_eq, not_false_eq_true, Function.update_of_ne]
          exact (hsame fun x hx hxa => hik (h.active_unique hx hd hxa hda)).symm
  have hself : standing (changeover s) a.slot = some (c.enter .active) := by
    rw [hover, if_pos rfl, hc, Option.map_some]
  have hactive : activeSlot (changeover s) = some a.slot := by
    refine activeSlot_of_unique (by rw [slotState_eq, hself]; rfl) fun i hi => ?_
    by_contra hia
    rw [slotState_eq, hover, if_neg hia, Option.map_map, Option.map_eq_some_iff] at hi
    obtain ⟨d, -, hd⟩ := hi
    exact d.giveWay_not_active hd
  rw [suspension_of_unflagged hactive hself rfl, hover]

/-- After changeover and suspension the context that runs is ACTIVE, and every other ACTIVE one has given way. -/
theorem BoundaryReady.turn (j : SlotId) :
    (Runs s j → standing (suspension (changeover s)) j = (standing s j).map (Standing.enter .active)) ∧
    (¬Runs s j → standing (suspension (changeover s)) j = (standing s j).map Standing.giveWay) := by
  by_cases hcome : ∃ k, Comes s k
  · obtain ⟨k, hk⟩ := hcome
    have hruns : Runs s j ↔ j = k := ⟨fun hr => h.runs_unique hr (.inl hk), fun e => e ▸ .inl hk⟩
    rw [h.changeover_suspension hk, hruns]
    exact ⟨fun e => if_pos e, fun e => if_neg e⟩
  · have hno : ∀ i, ¬Comes s i := fun i hi => hcome ⟨i, hi⟩
    rw [changeover_of_none hno]
    exact h.suspension_standing hno j

end

/-! ## The Set Tracker at a boundary -/

/-- The sets that a boundary leaves in the ring (R120). -/
def stay (s : State) : List SetRecord := s.st.ring.filter fun r => r.tag != dueTag s

/-- The set that a boundary retires is one of the slot's. -/
def dueIn (s : State) (k : SlotId) : Bool := (setTagged s (dueTag s)).any fun r => r.slot == k

@[simp] theorem Standing.leave_list (c : Standing) : c.leave.list = c.list := by
  unfold Standing.leave; split <;> rfl

@[simp] theorem Standing.leave_lanes (c : Standing) : c.leave.lanes = c.lanes := by
  unfold Standing.leave; split <;> rfl

theorem Standing.leave_state (c : Standing) :
    c.leave.state = if c.state = .draining ∧ c.inFlight - 1 = 0 then .parked else c.state := by
  unfold Standing.leave; split <;> rfl

theorem Standing.leave_state_other {c : Standing} (h : c.state ≠ .draining) : c.leave.state = c.state := by
  rw [Standing.leave_state, if_neg fun hd => h hd.1]

theorem Standing.leave_active (c : Standing) : c.leave.state = .active ↔ c.state = .active := by
  by_cases h : c.state = .draining
  · rw [Standing.leave_state, h]; split <;> decide
  · rw [Standing.leave_state_other h]

theorem SetRecord.FreshFrom.congr {r : SetRecord} {x : Cycle} {k : SlotId} {c d : Standing} (h : r.FreshFrom x k c)
    (hlist : c.list = d.list) (hlanes : c.lanes = d.lanes) : r.FreshFrom x k d :=
  ⟨h.tag, h.slot, hlist ▸ h.lanesOfEntries, hlanes ▸ h.lanes⟩

theorem retire_standing_at (s : State) (k : SlotId) :
    standing (retire s) k = (standing s k).map fun c => if dueIn s k then c.leave else c := by
  rw [retire_standing, dueIn]
  cases setTagged s (dueTag s) with
  | none => simp
  | some r =>
    by_cases hk : r.slot = k
    · subst hk; simp
    · simp [hk, Function.update_of_ne (Ne.symm hk)]

theorem retire_ring (s : State) : (retire s).st.ring = stay s := by rw [retire_st]; rfl

theorem retire_runOpen (s : State) : (retire s).st.runOpen = s.st.runOpen := by rw [retire_st]

/-- A retirement neither makes a context ACTIVE nor ends its being so. -/
theorem retire_active (s : State) (k : SlotId) :
    slotState (retire s) k = some .active ↔ slotState s k = some .active := by
  rw [slotState_eq, slotState_eq, retire_standing_at]
  cases standing s k with
  | none => simp
  | some c =>
    cases dueIn s k with
    | false => simp
    | true => simp [c.leave_active]

/-- Everything an allocation can come to: nothing, or one set for the ACTIVE context (R56, R69). -/
theorem allocate_cases (s : State) :
    allocate s = s ∨
    ∃ (k : SlotId) (c : Standing) (r : SetRecord), activeSlot s = some k ∧ standing s k = some c ∧
      r.FreshFrom s.wpu.cycle k c ∧ (allocate s).st = { s.st with ring := s.st.ring ++ [r] } ∧
      standing (allocate s) = Function.update (standing s) k (some { c with inFlight := c.inFlight + 1 }) := by
  cases ho : s.st.runOpen with
  | false => exact .inl (allocate_closed (.inl ho))
  | true =>
    cases ha : activeSlot s with
    | none => exact .inl (allocate_closed (.inr ha))
    | some k =>
      have hk := activeSlot_some ha
      rw [slotState_eq, Option.map_eq_some_iff] at hk
      obtain ⟨c, hc, -⟩ := hk
      obtain ⟨r, hr, hst, hs⟩ := allocate_open ho ha hc
      exact .inr ⟨k, c, r, rfl, hc, hr, hst, hs⟩

theorem allocate_standing_other {s : State} {k : SlotId} (h : slotState s k ≠ some .active) :
    standing (allocate s) k = standing s k := by
  rcases allocate_cases s with e | ⟨j, c, r, ha, -, -, -, hs⟩
  · rw [e]
  · have hkj : k ≠ j := fun e => h (e ▸ activeSlot_some ha)
    rw [hs, Function.update_of_ne hkj]

theorem allocate_slotState (s : State) (k : SlotId) : slotState (allocate s) k = slotState s k := by
  rcases allocate_cases s with e | ⟨j, c, r, -, hc, -, -, hs⟩
  · rw [e]
  · rw [slotState_eq, slotState_eq, hs]
    by_cases hkj : k = j
    · subst hkj; rw [Function.update_self, hc]; rfl
    · rw [Function.update_of_ne hkj]

theorem allocate_gateLag (s : State) : (allocate s).st.gateLag = s.st.gateLag := by
  rcases allocate_cases s with e | ⟨-, -, r, -, -, -, hst, -⟩
  · rw [e]
  · rw [hst]

/-- The set that an allocation adds is not the one that is due, which it leaves as it is. -/
theorem allocate_setTagged {s : State} (h : ∀ k, activeSlot s = some k → s.wpu.cycle ≠ dueTag s) :
    setTagged (allocate s) (dueTag s) = setTagged s (dueTag s) := by
  rcases allocate_cases s with e | ⟨k, c, r, ha, -, hr, hst, -⟩
  · rw [e]
  · have hother : (r.tag == dueTag s) = false := by rw [hr.tag]; exact beq_false_of_ne (h k ha)
    have hnone : [r].find? (fun r => r.tag == dueTag s) = none := by
      rw [List.find?_cons, hother]; rfl
    rw [setTagged, setTagged, hst, List.find?_append, hnone, Option.or_none]

theorem takeWithin_standing (s : State) (p : PortId) : standing (takeWithin s p) = standing s :=
  takeWithin_keeps standing (fun _ _ _ => standing_congr rfl) (fun _ _ _ => standing_congr rfl)
    (fun k _ q _ s => (standing_congr (journalUnreserved_slots ..)).trans (modifySequence_standing k q _ s)) s p

theorem takeAll_standing (l : List PortId) (s : State) : standing (l.foldl takeWithin s) = standing s :=
  foldl_keeps standing takeWithin_standing l s

theorem takeAll_st (l : List PortId) (s : State) : (l.foldl takeWithin s).st = s.st :=
  foldl_keeps State.st takeWithin_st l s

theorem takeAll_wpu (l : List PortId) (s : State) : (l.foldl takeWithin s).wpu = s.wpu :=
  foldl_keeps State.wpu takeWithin_wpu l s

theorem takeAll_activation (l : List PortId) (s : State) : (l.foldl takeWithin s).activation = s.activation :=
  foldl_keeps State.activation takeWithin_activation l s

theorem slotState_of_standing {s t : State} (h : standing t = standing s) (k : SlotId) : slotState t k = slotState s k := by
  rw [slotState_eq, slotState_eq, h]

theorem dueTag_congr {s t : State} (hw : t.wpu = s.wpu) (hg : t.st.gateLag = s.st.gateLag) : dueTag t = dueTag s := by
  rw [dueTag, dueTag, hw, hg]

/-- What retirement and allocation make of a state that changeover and suspension have settled, in either order: they keep
the ACTIVE context ACTIVE, and each other context goes on as the retirement leaves it. -/
structure Settled (v t : State) : Prop where
  active : ∀ k, slotState v k = some .active → slotState t k = some .active
  other : ∀ k, slotState v k ≠ some .active →
    slotState t k = (standing v k).map fun c => if dueIn v k then c.leave.state else c.state
  opened : ∀ (k : SlotId) (c : Standing), v.st.runOpen = true → activeSlot v = some k → standing v k = some c →
    ∃ r : SetRecord, r.FreshFrom v.wpu.cycle k c ∧ t.st.ring = stay v ++ [r]
  closed : v.st.runOpen = false ∨ activeSlot v = none → t.st.ring = stay v

theorem settled_retireFirst (l : List PortId) (v : State) : Settled v (allocate (l.foldl takeWithin (retire v))) := by
  have hstate : ∀ k, slotState (l.foldl takeWithin (retire v)) k = slotState (retire v) k :=
    slotState_of_standing (takeAll_standing ..)
  have hactive : activeSlot (l.foldl takeWithin (retire v)) = activeSlot v :=
    activeSlot_congr fun k => by rw [hstate, retire_active]
  have hopen : (l.foldl takeWithin (retire v)).st.runOpen = v.st.runOpen := by rw [takeAll_st, retire_runOpen]
  have hring : (l.foldl takeWithin (retire v)).st.ring = stay v := by rw [takeAll_st, retire_ring]
  refine ⟨fun k hk => ?_, fun k _ => ?_, fun k c ho ha hc => ?_, fun h => ?_⟩
  · rw [allocate_slotState, hstate, retire_active, hk]
  · rw [allocate_slotState, hstate, slotState_eq, retire_standing_at, Option.map_map]
    cases dueIn v k <;> rfl
  · have hc' : standing (l.foldl takeWithin (retire v)) k = some (if dueIn v k then c.leave else c) := by
      rw [takeAll_standing, retire_standing_at, hc]; rfl
    obtain ⟨r, hr, hst, -⟩ := allocate_open (hopen.trans ho) (hactive.trans ha) hc'
    rw [takeAll_wpu, retire_wpu] at hr
    exact ⟨r, hr.congr (by split <;> simp) (by split <;> simp), by rw [hst]; exact congrArg (· ++ [r]) hring⟩
  · rw [allocate_closed (by rwa [hopen, hactive]), hring]

theorem settled_allocateFirst (l : List PortId) {v : State} (h : ∀ k, activeSlot v = some k → v.wpu.cycle ≠ dueTag v) :
    Settled v (retire (l.foldl takeWithin (allocate v))) := by
  have hstand : standing (l.foldl takeWithin (allocate v)) = standing (allocate v) := takeAll_standing ..
  have hst : (l.foldl takeWithin (allocate v)).st = (allocate v).st := takeAll_st ..
  have hdue : dueTag (l.foldl takeWithin (allocate v)) = dueTag v := by
    rw [dueTag_congr (takeAll_wpu ..) (by rw [hst])]
    exact dueTag_congr (allocate_wpu v) (allocate_gateLag v)
  have hdueIn : ∀ k, dueIn (l.foldl takeWithin (allocate v)) k = dueIn v k := fun k => by
    have hset : setTagged (l.foldl takeWithin (allocate v)) (dueTag v) = setTagged (allocate v) (dueTag v) := by
      rw [setTagged, setTagged, hst]
    rw [dueIn, hdue, hset, allocate_setTagged h, dueIn]
  have hring : (retire (l.foldl takeWithin (allocate v))).st.ring =
      (allocate v).st.ring.filter fun r => r.tag != dueTag v := by
    rw [retire_ring, stay, hdue, hst]
  refine ⟨fun k hk => ?_, fun k hk => ?_, fun k c ho ha hc => ?_, fun hno => ?_⟩
  · rw [retire_active, slotState_of_standing hstand, allocate_slotState, hk]
  · rw [slotState_eq, retire_standing_at, hstand, allocate_standing_other hk, Option.map_map, hdueIn]
    cases dueIn v k <;> rfl
  · obtain ⟨r, hr, hst', -⟩ := allocate_open ho ha hc
    have hkept : (r.tag != dueTag v) = true := by rw [hr.tag]; exact bne_iff_ne.mpr (h k ha)
    exact ⟨r, hr, by rw [hring, hst']; simp [stay, hkept]⟩
  · rw [hring, allocate_closed hno]; rfl

theorem turn_st (s : State) : (suspension (changeover s)).st = s.st := by simp

theorem turn_cycle (s : State) : (suspension (changeover s)).wpu.cycle = s.wpu.cycle := by simp

theorem turn_dueTag (s : State) : dueTag (suspension (changeover s)) = dueTag s := by
  rw [dueTag, dueTag, turn_cycle, turn_st]

theorem turn_stay (s : State) : stay (suspension (changeover s)) = stay s := by
  rw [stay, stay, turn_dueTag, turn_st]

theorem turn_dueIn (s : State) (k : SlotId) : dueIn (suspension (changeover s)) k = dueIn s k := by
  rw [dueIn, dueIn, turn_dueTag, setTagged, setTagged, turn_st]

theorem settled_trackBoundary (o : BoundaryOrder) {s : State}
    (h : ∀ k, activeSlot (suspension (changeover s)) = some k → s.wpu.cycle ≠ dueTag s) :
    Settled (suspension (changeover s)) (trackBoundary o s) := by
  unfold trackBoundary
  simp only []
  split
  · exact settled_retireFirst ..
  · refine settled_allocateFirst _ fun k hk => ?_
    rw [turn_dueTag, turn_cycle]
    exact h k hk

theorem trackBoundary_activation (o : BoundaryOrder) (s : State) :
    (trackBoundary o s).activation = (changeover s).activation := by
  unfold trackBoundary
  simp only []
  split <;> simp [takeAll_activation]

/-! ## What a boundary comes to -/

/-- While no two sets have one tag, a slot's sets are those that stay and the one that is due. -/
theorem BoundaryReady.setsOf_eq {s : State} (h : BoundaryReady s) (k : SlotId) :
    setsOf k s = ((stay s).filter fun r => r.slot == k).length + if dueIn s k then 1 else 0 := by
  suffices H : ∀ l : List SetRecord, (l.map SetRecord.tag).Nodup →
      (l.filter fun r => r.slot == k).length =
        ((l.filter fun r => r.tag != dueTag s).filter fun r => r.slot == k).length +
          if (l.find? fun r => r.tag == dueTag s).any (fun r => r.slot == k) then 1 else 0 from H _ h.tags
  intro l hl
  induction l with
  | nil => rfl
  | cons r l ih =>
    rw [List.map_cons, List.nodup_cons] at hl
    by_cases hr : r.tag = dueTag s
    · have hrest : l.filter (fun r => r.tag != dueTag s) = l :=
        List.filter_eq_self.mpr fun x hx => bne_iff_ne.mpr fun e =>
          hl.1 (List.mem_map.mpr ⟨x, hx, e.trans hr.symm⟩)
      by_cases hk : r.slot = k <;> simp [hr, hk, hrest]
    · have ih := ih hl.2
      by_cases hk : r.slot = k
      · simp [hr, hk] at ih ⊢; omega
      · simp [hr, hk] at ih ⊢; omega

/-- The slot has a set that stays. -/
theorem stay_any (s : State) (k : SlotId) :
    (stay s).any (fun r => r.slot == k) = decide (0 < ((stay s).filter fun r => r.slot == k).length) := by
  rw [Bool.eq_iff_iff]
  simp [List.length_pos_iff_exists_mem]

section
variable {s : State} (h : BoundaryReady s)
include h

theorem BoundaryReady.settled_active (k : SlotId) :
    slotState (suspension (changeover s)) k = some .active ↔ Runs s k := by
  obtain ⟨hruns, hnot⟩ := h.turn k
  by_cases hr : Runs s k
  · obtain ⟨c, hc⟩ := h.standing_of_runs hr
    rw [slotState_eq, hruns hr, hc]
    exact ⟨fun _ => hr, fun _ => rfl⟩
  · rw [slotState_eq, hnot hr, Option.map_map, Option.map_eq_some_iff]
    exact ⟨fun ⟨c, _, hc⟩ => absurd hc c.giveWay_not_active, fun h => absurd h hr⟩

theorem BoundaryReady.settled_activeSlot {k : SlotId} (hr : Runs s k) :
    activeSlot (suspension (changeover s)) = some k :=
  activeSlot_of_unique ((h.settled_active k).mpr hr) fun j hj => h.runs_unique ((h.settled_active j).mp hj) hr

theorem BoundaryReady.settled_trackBoundary (o : BoundaryOrder) :
    Settled (suspension (changeover s)) (trackBoundary o s) :=
  Machine.settled_trackBoundary o fun k hk => h.due_ne_cycle ((h.settled_active k).mp (activeSlot_some hk))

/-- A context that gives way drains while it keeps a set, and is PARKED without. -/
theorem BoundaryReady.giveWay_leaves {k : SlotId} {c : Standing} (hc : standing s k = some c)
    (hrun : c.state = .active ∨ c.state = .draining) :
    (if dueIn s k then c.giveWay.leave.state else c.giveWay.state) =
      if (stay s).any (fun r => r.slot == k) then .draining else .parked := by
  have hcount : c.inFlight = ((stay s).filter fun r => r.slot == k).length + if dueIn s k then 1 else 0 :=
    (h.counted k c hc).trans (h.setsOf_eq k)
  have hgive : c.giveWay.inFlight = c.inFlight ∧ c.giveWay.state = if 0 < c.inFlight then .draining else .parked := by
    rcases hrun with ha | hd
    · rw [Standing.giveWay_active ha]; exact ⟨rfl, rfl⟩
    · rw [Standing.giveWay_other (by rw [hd]; decide)]
      exact ⟨rfl, by rw [if_pos (show 0 < c.inFlight from h.draining k c hc hd), hd]⟩
  obtain ⟨hsets, hstate⟩ := hgive
  rw [stay_any, Standing.leave_state, hstate, hsets]
  generalize ((stay s).filter fun r => r.slot == k).length = n at hcount ⊢
  cases hdue : dueIn s k with
  | false =>
    have hn : c.inFlight = n := by simpa [hdue] using hcount
    simp [hn]
  | true =>
    have hn : c.inFlight = n + 1 := by simpa [hdue] using hcount
    by_cases hz : n = 0
    · simp [hn, hz]
    · simp [hn, hz, Nat.pos_of_ne_zero hz]

/-- The state of a slot after the Set Tracker's boundary. -/
theorem BoundaryReady.track_slotState (o : BoundaryOrder) (k : SlotId) :
    (standing s k = none → slotState (trackBoundary o s) k = none) ∧
    ∀ c, standing s k = some c →
      (Runs s k → slotState (trackBoundary o s) k = some .active) ∧
      (¬Runs s k → c.state = .active ∨ c.state = .draining → slotState (trackBoundary o s) k =
        some (if (stay s).any (fun r => r.slot == k) then .draining else .parked)) ∧
      (¬Runs s k → c.state ≠ .active → c.state ≠ .draining → slotState (trackBoundary o s) k = some c.state) := by
  have hset := h.settled_trackBoundary o
  have hother : ¬Runs s k → slotState (trackBoundary o s) k =
      (standing s k).map fun c => if dueIn s k then c.giveWay.leave.state else c.giveWay.state := fun hr => by
    rw [hset.other k fun e => hr ((h.settled_active k).mp e), (h.turn k).2 hr, Option.map_map, turn_dueIn]
    rfl
  refine ⟨fun hnone => ?_, fun c hc => ⟨fun hr => hset.active k ((h.settled_active k).mpr hr), fun hr hrun => ?_,
    fun hr hna hnd => ?_⟩⟩
  · have hr : ¬Runs s k := fun hr => by
      obtain ⟨c, hc⟩ := h.standing_of_runs hr
      rw [hnone] at hc; cases hc
    rw [hother hr, hnone]; rfl
  · rw [hother hr, hc, Option.map_some, h.giveWay_leaves hc hrun]
  · rw [hother hr, hc, Option.map_some, Standing.giveWay_other hna, Standing.leave_state_other hnd, ite_self]

/-- The ring after the Set Tracker's boundary, with the run gate OPEN and a context that runs. -/
theorem BoundaryReady.track_opened (o : BoundaryOrder) {k : SlotId} {c : Standing} (ho : s.st.runOpen = true)
    (hr : Runs s k) (hc : standing s k = some c) :
    ∃ r : SetRecord, r.FreshFrom s.wpu.cycle k c ∧ (trackBoundary o s).st.ring = stay s ++ [r] := by
  have hc' : standing (suspension (changeover s)) k = some (c.enter .active) := by
    rw [(h.turn k).1 hr, hc]; rfl
  obtain ⟨r, hfresh, hring⟩ := (h.settled_trackBoundary o).opened k _ (by rw [turn_st, ho]) (h.settled_activeSlot hr) hc'
  rw [turn_stay] at hring
  rw [turn_cycle] at hfresh
  exact ⟨r, hfresh.congr rfl rfl, hring⟩

/-- The ring after the Set Tracker's boundary, with the run gate CLOSED or no context that runs. -/
theorem BoundaryReady.track_closed (o : BoundaryOrder) (hno : s.st.runOpen = false ∨ ∀ k, ¬Runs s k) :
    (trackBoundary o s).st.ring = stay s := by
  rw [(h.settled_trackBoundary o).closed ?_, turn_stay]
  rcases hno with hclosed | hnone
  · exact .inl (by rw [turn_st, hclosed])
  · exact .inr (activeSlot_none.mpr fun k hk => hnone k ((h.settled_active k).mp hk))

end

/-! ## The blocks beside the Set Tracker -/

/-- What a block beside the Set Tracker leaves at a boundary: contexts, activation and web, and of the tracker all but what
happens to the heads and lanes of its sets. -/
structure Beside (s t : State) : Prop where
  slots : t.slots = s.slots
  activation : t.activation = s.activation
  wpu : t.wpu = s.wpu
  sets : s.st.SameSets t.st

theorem Beside.refl (s : State) : Beside s s := ⟨rfl, rfl, rfl, .refl _⟩

theorem Beside.trans {s t u : State} (h : Beside s t) (g : Beside t u) : Beside s u :=
  ⟨g.slots.trans h.slots, g.activation.trans h.activation, g.wpu.trans h.wpu, h.sets.trans g.sets⟩

theorem Beside.foldl {α : Type} {f : State → α → State} {l : List α} (h : ∀ s, ∀ x ∈ l, Beside s (f s x)) (s : State) :
    Beside s (l.foldl f s) := by
  induction l generalizing s with
  | nil => exact .refl s
  | cons x l ih =>
    exact (h s x (List.mem_cons_self ..)).trans (ih (fun s y hy => h s y (List.mem_cons_of_mem x hy)) (f s x))

theorem Beside.comes {s t : State} (h : Beside s t) (j : SlotId) : Comes t j ↔ Comes s j := by
  rw [Comes, Comes, h.activation, h.wpu]

theorem Beside.standing {s t : State} (h : Beside s t) : standing t = standing s := standing_congr h.slots

theorem Beside.slotState {s t : State} (h : Beside s t) (k : SlotId) : slotState t k = slotState s k :=
  slotState_of_standing h.standing k

theorem Beside.runs {s t : State} (h : Beside s t) (j : SlotId) : Runs t j ↔ Runs s j := by
  simp only [Runs, h.comes, h.standing]

theorem Beside.dueTag {s t : State} (h : Beside s t) : dueTag t = dueTag s :=
  dueTag_congr h.wpu (by rw [h.sets.1])

theorem Beside.runOpen {s t : State} (h : Beside s t) : t.st.runOpen = s.st.runOpen := by rw [h.sets.1]

theorem stay_shapes (s : State) :
    (stay s).map SetRecord.shape = (s.st.ring.map SetRecord.shape).filter fun x => x.1 != dueTag s := by
  rw [stay, List.filter_map]; rfl

theorem Beside.stay {s t : State} (h : Beside s t) :
    (stay t).map SetRecord.shape = (stay s).map SetRecord.shape := by
  rw [stay_shapes, stay_shapes, h.sets.2, h.dueTag]

theorem any_slot_shape (l : List SetRecord) (k : SlotId) :
    (l.any fun r => r.slot == k) = (l.map SetRecord.shape).any fun x => x.2.1 == k := by
  rw [List.any_map]; rfl

theorem setsOf_shape (k : SlotId) (s : State) :
    setsOf k s = ((s.st.ring.map SetRecord.shape).filter fun x => x.2.1 == k).length := by
  rw [setsOf, List.filter_map, List.length_map]; rfl

theorem Beside.setsOf {s t : State} (h : Beside s t) (k : SlotId) : setsOf k t = setsOf k s := by
  rw [setsOf_shape, setsOf_shape, h.sets.2]

theorem Beside.nothingRuns {s t : State} (h : Beside s t) : NothingRuns t ↔ NothingRuns s := by
  simp only [NothingRuns, h.slotState, h.activation]

theorem Beside.ready {s t : State} (h : Beside s t) (hs : BoundaryReady s) : BoundaryReady t where
  oneActive := by simpa only [h.slotState] using hs.oneActive
  pending := by simpa only [h.slotState, h.activation] using hs.pending
  suspended := by simpa only [h.standing] using hs.suspended
  draining := by simpa only [h.standing] using hs.draining
  counted := by simpa only [h.standing, h.setsOf] using hs.counted
  tags := by simpa only [h.sets.tags] using hs.tags
  lags := by
    have hlag : t.st.gateLag = s.st.gateLag := by rw [h.sets.1]
    simpa only [h.nothingRuns, hlag] using hs.lags

theorem measureBoundary_beside (s : State) : Beside s (measureBoundary s) := by
  unfold measureBoundary
  refine ⟨?_, ?_, ?_, ?_⟩
  · simp [apply_ite]
  · simp [apply_ite]
  · simp [apply_ite]
  · rw [armMeasurement_st]
    split
    · exact closeMeasurement_sameSets ..
    · exact .refl _

theorem closeWindow_beside (s : State) : Beside s (closeWindow s) :=
  ⟨rfl, rfl, rfl, modifySet_sameSets (fun r => by simp [SetRecord.shape]) s⟩

theorem writeOutcome_shape (h : HeadId) (o : HeadOutcome) (why : Option Reason) (lane : Option LaneId) (r : SetRecord) :
    (writeOutcome h o why lane r).shape = r.shape := by
  cases why <;> cases lane <;> simp [writeOutcome, SetRecord.shape, SetRecord.addReason, SetRecord.modifyLane]

theorem markOutcome_sameSets (h : HeadId) (t : Cycle) (o : HeadOutcome) (why : Option Reason) (s : State) :
    s.st.SameSets (markOutcome h t o why s).st :=
  modifySet_sameSets (fun r => writeOutcome_shape h o why (headLaneIn s h r) r) s

theorem expireHead_sameSets (h : HeadId) (s : State) : s.st.SameSets (expireHead h s).st := by
  unfold expireHead
  split
  · exact .refl _
  · simp only []
    split
    · exact markOutcome_sameSets h _ _ _ (dropOrder h _ s)
    · exact .refl _

theorem issueOrder_sameSets (h : HeadId) (p : Placement) (r : SetRecord) (s : State) :
    s.st.SameSets (issueOrder h p r s).st := by
  unfold issueOrder
  split
  · split
    · exact .refl _
    · simp only []
      split
      · exact markOutcome_sameSets ..
      · split
        · exact markOutcome_sameSets ..
        · exact markOutcome_sameSets h r.tag .ordered none s
  · exact .refl _

theorem issueHead_sameSets (h : HeadId) (s : State) : s.st.SameSets (issueHead h s).st := by
  unfold issueHead
  split
  · exact .refl _
  · split
    · exact .refl _
    · exact issueOrder_sameSets ..

theorem headBoundary_sameSets (h : HeadId) (s : State) : s.st.SameSets (headBoundary s h).st := by
  unfold headBoundary
  simp only []
  split
  · exact expireHead_sameSets h s
  · exact (expireHead_sameSets h s).trans (issueHead_sameSets ..)

theorem sendOrder_st (s : State) : (sendOrder s).st = s.st := by unfold sendOrder; split <;> rfl

theorem sendOlder_st (s : State) : (sendOlder s).st = s.st := by
  unfold sendOlder
  split
  · split
    · rfl
    · exact sendOrder_st s
  · rfl

theorem headStep_beside (s : State) (x : HouStep) : Beside s (headStep s x) := by
  cases x with
  | head h => exact ⟨headBoundary_slots h s, headBoundary_activation h s, headBoundary_wpu h s, headBoundary_sameSets h s⟩
  | link l =>
    cases l with
    | chooses => exact ⟨sendOlder_slots s, sendOlder_activation s, sendOlder_wpu s, .of_eq (sendOlder_st s)⟩
    | ends => exact ⟨rfl, rfl, rfl, .refl _⟩

theorem handStep_beside (s : State) (x : HouStep) : Beside s (handStep s x) := by
  cases x with
  | head h =>
    unfold handStep
    simp only []
    split
    · exact ⟨issueHead_slots h s, issueHead_activation h s, issueHead_wpu h s, issueHead_sameSets h s⟩
    · exact .refl s
  | link l =>
    cases l with
    | chooses => exact ⟨sendOrder_slots s, sendOrder_activation s, sendOrder_wpu s, .of_eq (sendOrder_st s)⟩
    | ends => exact ⟨rfl, rfl, rfl, .refl _⟩

theorem handOver_beside (o : BoundaryOrder) (s : State) : Beside s (handOver o s) :=
  .foldl (fun s x _ => handStep_beside s x) s

theorem runPhase_beside (o : BoundaryOrder) (n : Option WebNotice) (s : State) {p : Phase} (h : p ≠ .track) :
    Beside s (runPhase o n s p) := by
  cases p with
  | measure => exact measureBoundary_beside s
  | window => exact closeWindow_beside s
  | track => exact absurd rfl h
  | heads => exact .foldl (fun s x _ => headStep_beside s x) s
  | webNotice =>
    cases n with
    | none => exact .refl s
    | some w => exact ⟨rfl, rfl, rfl, .refl _⟩

/-! ## The whole boundary -/

/-- What a boundary makes of activation, contexts and ring, said of what an allocation fixes of a set. -/
structure BoundaryTaken (s t : State) : Prop where
  withdrawn : ∀ j, Comes s j → t.activation = none
  waits : (∀ j, ¬Comes s j) → t.activation = s.activation
  opened : ∀ (k : SlotId) (c : Standing), s.st.runOpen = true → Runs s k → standing s k = some c →
    ∃ r : SetRecord, r.FreshFrom s.wpu.cycle k c ∧
      t.st.ring.map SetRecord.shape = (stay s).map SetRecord.shape ++ [r.shape]
  closed : s.st.runOpen = false ∨ (∀ k, ¬Runs s k) → t.st.ring.map SetRecord.shape = (stay s).map SetRecord.shape
  absent : ∀ k, standing s k = none → slotState t k = none
  runs : ∀ k, Runs s k → slotState t k = some .active
  leaves : ∀ (k : SlotId) (c : Standing), standing s k = some c → ¬Runs s k → c.state = .active ∨ c.state = .draining →
    slotState t k = some (if (stay s).any (fun r => r.slot == k) then .draining else .parked)
  rests : ∀ (k : SlotId) (c : Standing), standing s k = some c → ¬Runs s k → c.state ≠ .active → c.state ≠ .draining →
    slotState t k = some c.state

theorem BoundaryReady.taken_track {s : State} (h : BoundaryReady s) (o : BoundaryOrder) :
    BoundaryTaken s (trackBoundary o s) where
  withdrawn _ hj := (trackBoundary_activation o s).trans (changeover_activation_of_comes hj)
  waits hno := by rw [trackBoundary_activation, changeover_of_none hno]
  opened k c ho hr hc := by
    obtain ⟨r, hfresh, hring⟩ := h.track_opened o ho hr hc
    exact ⟨r, hfresh, by rw [hring, List.map_append]; rfl⟩
  closed hno := by rw [h.track_closed o hno]
  absent k hc := (h.track_slotState o k).1 hc
  runs k hr := by
    obtain ⟨c, hc⟩ := h.standing_of_runs hr
    exact ((h.track_slotState o k).2 c hc).1 hr
  leaves k c hc := ((h.track_slotState o k).2 c hc).2.1
  rests k c hc := ((h.track_slotState o k).2 c hc).2.2

theorem BoundaryTaken.of_before {s p t : State} (h : Beside s p) (g : BoundaryTaken p t) : BoundaryTaken s t where
  withdrawn j hj := g.withdrawn j ((h.comes j).mpr hj)
  waits hno := (g.waits fun j hj => hno j ((h.comes j).mp hj)).trans h.activation
  opened := by simpa only [h.runOpen, h.runs, h.standing, h.stay, h.wpu] using g.opened
  closed := by simpa only [h.runOpen, h.runs, h.stay] using g.closed
  absent := by simpa only [h.standing] using g.absent
  runs := by simpa only [h.runs] using g.runs
  leaves := by simpa only [h.standing, h.runs, any_slot_shape, h.stay] using g.leaves
  rests := by simpa only [h.standing, h.runs] using g.rests

theorem BoundaryTaken.then {s p t : State} (g : BoundaryTaken s p) (h : Beside p t) : BoundaryTaken s t where
  withdrawn j hj := h.activation.trans (g.withdrawn j hj)
  waits hno := h.activation.trans (g.waits hno)
  opened k c ho hr hc := by
    obtain ⟨r, hfresh, hring⟩ := g.opened k c ho hr hc
    exact ⟨r, hfresh, h.sets.2.trans hring⟩
  closed hno := h.sets.2.trans (g.closed hno)
  absent k hc := (h.slotState k).trans (g.absent k hc)
  runs k hr := (h.slotState k).trans (g.runs k hr)
  leaves k c hc hr hrun := (h.slotState k).trans (g.leaves k c hc hr hrun)
  rests k c hc hr hna hnd := (h.slotState k).trans (g.rests k c hc hr hna hnd)

/-- In whatever order the blocks take the boundary, the Set Tracker has its turn once, and the others leave its work as it
is. -/
theorem BoundaryReady.taken {s : State} (h : BoundaryReady s) (o : BoundaryOrder) (n : Option WebNotice) :
    BoundaryTaken s (boundaryWork o n s) := by
  unfold boundaryWork
  have hperm := permute_perm o.blocks [Phase.measure, .window, .track, .heads, .webNotice]
  have hnodup := hperm.nodup_iff.mpr (by decide)
  obtain ⟨before, after, hsplit⟩ := List.append_of_mem (hperm.mem_iff.mpr (show Phase.track ∈ _ by decide))
  rw [hsplit] at hnodup ⊢
  obtain ⟨-, hlater, hapart⟩ := List.nodup_append.mp hnodup
  have hbefore : Beside s (before.foldl (runPhase o n) s) :=
    .foldl (fun s p hp => runPhase_beside o n s (hapart p hp _ (List.mem_cons_self ..))) s
  have hafter : ∀ u, Beside u (after.foldl (runPhase o n) u) := .foldl fun s p hp =>
    runPhase_beside o n s fun e => (List.nodup_cons.mp hlater).1 (e ▸ hp)
  rw [List.foldl_append, List.foldl_cons]
  exact (((hbefore.ready h).taken_track o).of_before hbefore).then ((hafter _).trans (handOver_beside ..))

/-- A sound state is ready for a boundary, whatever its web says. -/
theorem RunSound.ready {s t : State} (h : RunSound s) (hslots : t.slots = s.slots) (hact : t.activation = s.activation)
    (hst : t.st = s.st) : BoundaryReady t := by
  have hstand : standing t = standing s := standing_congr hslots
  have hstate : ∀ k, slotState t k = slotState s k := slotState_of_standing hstand
  have hsets : ∀ k, setsOf k t = setsOf k s := fun k => by rw [setsOf, setsOf, hst]
  have hcontext : ∀ {k c}, standing t k = some c → ∃ x, s.slots[k] = some x ∧ x.standing = c := fun hc =>
    standing_eq_some.mp (hstand ▸ hc)
  refine ⟨by simpa only [hstate] using h.oneActive, fun a ha => ?_, fun k c hc hs => ?_, fun k c hc hd => ?_,
    fun k c hc => ?_, ?_, fun hrun => ?_⟩
  · rw [hstate]; exact (h.pending a (hact ▸ ha)).1
  · obtain ⟨x, hx, rfl⟩ := hcontext hc
    exact (h.suspended k x hx hs).2.1
  · obtain ⟨x, hx, rfl⟩ := hcontext hc
    exact h.draining k x hx hd
  · obtain ⟨x, hx, rfl⟩ := hcontext hc
    exact (h.counted k x hx).trans (hsets k).symm
  · rw [hst]
    have hages : ((s.st.ring.map SetRecord.tag).map (tagAge s)).Nodup := by
      rw [List.map_map]
      exact h.ordered.imp fun hlt => Nat.ne_of_gt hlt
    exact hages.of_map
  · have hmerge := h.fitted (by simpa only [NothingRuns, hstate, hact] using hrun)
    rw [hst]
    rcases h.lags with ⟨hzero, -⟩ | ⟨-, hmi, hig, hmax⟩ <;> omega

/-! ## The edges that take a boundary, and what it comes to -/

/-- Index edges take a NORMAL boundary within the window and an EARLY one before it (R41). -/
theorem indexEdge_takes_boundary {s : State} (hi : holdsFunction s .index = true) (hd : s.wpu.direction = .forward)
    (hb : s.wpu.backed = false) :
    (s.wpu.repeatLength ≤ s.wpu.position + s.wpu.tolerance → s.wpu.position ≤ s.wpu.repeatLength + s.wpu.tolerance →
      exec .indexEdge s = .next (boundary .normal 0 none (showDriven .index true s))) ∧
    (s.wpu.position + s.wpu.tolerance < s.wpu.repeatLength →
      s.wpu.tolerance < s.wpu.position ∨ s.wpu.indexPending = .none →
      exec .indexEdge s = .next (boundary .early 0
        (some { kind := .indexSlip, payload := beSigned 2 (slipDeviation s.wpu.repeatLength s.wpu.position) })
        (showDriven .index true s))) := by
  rw [exec_indexEdge hi, takeIndex_running (s := showDriven .index true s) hd hb]
  exact ⟨fun hlow hhigh => congrArg _ (judgeIndex_normal hlow hhigh), fun hbefore h => congrArg _ (judgeIndex_early hbefore h)⟩

/-- A forward transition at the end of the cycle takes a boundary, SYNTHETIC with an index line and INDEXLESS without
(R36). -/
theorem forwardTransition_takes_boundary {s : State} {i j : LineId} {r : Levels} (ha : lineOf s .encA = some i)
    (hb : lineOf s .encB = some j) (hr : s.wpu.reference = some r) (hback : s.wpu.backed = false)
    (hend : cycleEnd s ≤ s.wpu.position + 1) :
    exec (.encoderTransition (!r.b) r.a) s =
      .next (boundary (if holdsFunction s .index then .synthetic else .indexless)
        (s.wpu.position + 1 - s.wpu.repeatLength) (forwardNotice s) (edgeTaken .forward ⟨!r.b, r.a⟩ s)) := by
  have hcycle : cycleEnd (edgeTaken .forward ⟨!r.b, r.a⟩ s) = cycleEnd s := by
    simp only [cycleEnd, holdsFunction_edgeTaken, edgeTaken_wpu]
  rw [exec_forwardTransition ha hb hr, countedEdge_forward (by simpa using hback), forwardEdge_boundary (by
    rw [hcycle]; simpa using hend)]
  simp only [forwardNotice, holdsFunction_edgeTaken, edgeTaken_wpu]

/-- The newest set of a ring whose shapes end with that of a fresh record is itself fresh. -/
theorem SetRecord.FreshFrom.newest {r : SetRecord} {x : Cycle} {k : SlotId} {c : Standing} (h : r.FreshFrom x k c)
    {ring before : List SetRecord}
    (hring : ring.map SetRecord.shape = before.map SetRecord.shape ++ [r.shape]) :
    ∃ q, ring.getLast? = some q ∧ q.FreshFrom x k c := by
  have hlast : (ring.map SetRecord.shape).getLast? = some r.shape := by rw [hring]; simp
  rw [List.getLast?_map, Option.map_eq_some_iff] at hlast
  obtain ⟨q, hq, hshape⟩ := hlast
  simp only [SetRecord.shape, Prod.mk.injEq] at hshape
  obtain ⟨htag, hslot, hentries, hlanes⟩ := hshape
  exact ⟨q, hq, htag ▸ h.tag, hslot ▸ h.slot, hentries ▸ h.lanesOfEntries, hlanes ▸ h.lanes⟩

theorem map_tag_of_map_shape {l m : List SetRecord} (h : l.map SetRecord.shape = m.map SetRecord.shape) :
    l.map SetRecord.tag = m.map SetRecord.tag := by
  have hfst := congrArg (List.map Prod.fst) h
  simp only [List.map_map] at hfst
  exact hfst

/-- A context runs in terms of its standing as it does in terms of the context itself. -/
theorem runs_iff {s : State} {j : SlotId} :
    Runs s j ↔ Comes s j ∨ (∀ i, ¬Comes s i) ∧
      ∃ c : Context, s.slots[j] = some c ∧ c.state = .active ∧ c.suspend = false := by
  unfold Runs
  refine or_congr_right (and_congr_right fun _ => ⟨?_, ?_⟩)
  · rintro ⟨c, hc, hstate, hsuspend⟩
    obtain ⟨x, hx, rfl⟩ := standing_eq_some.mp hc
    exact ⟨x, hx, hstate, hsuspend⟩
  · rintro ⟨x, hx, hstate, hsuspend⟩
    exact ⟨x.standing, standing_of_some hx, hstate, hsuspend⟩

/-- Settles O26: the edges by the WPU's rules; the boundary from what the Set Tracker makes of a sound state, in whatever
order the blocks take it. -/
theorem boundaryAllocatesAndRetires : Obligations.BoundaryAllocatesAndRetires := by
  unfold Obligations.BoundaryAllocatesAndRetires
  refine ⟨fun s hi hd hb => indexEdge_takes_boundary hi hd hb,
    fun s i j r ha hb hr hback => ⟨fun hi hend => ?_, fun hi hend => ?_⟩, fun o pos n s h => ?_⟩
  · have hedge := forwardTransition_takes_boundary ha hb hr hback (by simpa [cycleEnd, hi] using hend)
    simp only [forwardNotice, hi, if_true] at hedge
    exact hedge
  · have hedge := forwardTransition_takes_boundary ha hb hr hback (by simpa [cycleEnd, hi] using hend)
    simp only [forwardNotice, hi, Bool.false_eq_true, if_false] at hedge
    exact hedge
  · let u : State := { s with choices := s.choices + 1, wpu := s.wpu.openCycle o pos }
    have hready : BoundaryReady u := h.ready rfl rfl rfl
    have htaken : BoundaryTaken u (boundary o pos n s) := hready.taken (chosenOrder s) n
    have hstay : (s.st.ring.filter fun r => r.tag ≠ s.wpu.cycle + 1 - BitVec.ofNat 32 s.st.gateLag) = stay u :=
      List.filter_congr fun r _ => by rw [Bool.eq_iff_iff, decide_eq_true_iff, bne_iff_ne]; rfl
    have hruns : ∀ j, Runs u j ↔ _ := fun j => runs_iff (s := u) (j := j)
    simp only [hstay]
    refine ⟨boundary_wpu .., fun ⟨i, hi⟩ => htaken.withdrawn i hi, htaken.waits, fun j c ho hr hc => ?_, fun hno => ?_,
      fun j => ⟨fun hc => ?_, fun c hc => ⟨fun hr => htaken.runs j ((hruns j).mpr hr), fun hr hrun => ?_,
        fun hr hna hnd => ?_⟩⟩⟩
    · obtain ⟨r, hfresh, hring⟩ := htaken.opened j c.standing ho ((hruns j).mpr hr) (standing_of_some hc)
      obtain ⟨q, hlast, hq⟩ := hfresh.newest hring
      have htags := map_tag_of_map_shape (m := stay u ++ [r]) (by rw [hring, List.map_append]; rfl)
      rw [List.map_append, List.map_singleton, hfresh.tag] at htags
      exact ⟨q, htags, hlast, hq.slot, hq.lanesOfEntries, hq.lanes⟩
    · exact map_tag_of_map_shape (htaken.closed (hno.imp_right fun hno k hk => hno k ((hruns k).mp hk)))
    · have hnone := htaken.absent j (by rw [standing]; exact congrArg (Option.map Context.standing) hc)
      simpa [slotState] using hnone
    · exact htaken.leaves j c.standing (standing_of_some hc) (fun hk => hr ((hruns j).mp hk)) hrun
    · exact htaken.rests j c.standing (standing_of_some hc) (fun hk => hr ((hruns j).mp hk)) hna hnd

end Sys2Proof.Machine
end

section
/-! PROOFS. What the invariants of contexts, ring and journal space read of a state, and the operations that leave it as it
is. -/

namespace Sys2Proof.Machine

/-! ## The view -/

/-- What the invariants read of a context: its state, its suspend flag and its sets in flight (R158). -/
structure Course where
  state : JobState
  suspend : Bool
  inFlight : Nat

def Context.course (c : Context) : Course := { state := c.state, suspend := c.suspend, inFlight := c.inFlight }

/-- Where the context of a slot is on its course, none for EMPTY. -/
def course (s : State) (k : SlotId) : Option Course := s.slots[k].map Context.course

/-- What the invariants read of a set: what an allocation fixes, and its reservation (R59, R67). -/
structure SetAccount where
  tag : Cycle
  slot : SlotId
  entries : List EntryPart
  reservation : Nat

def SetRecord.account (r : SetRecord) : SetAccount :=
  { tag := r.tag, slot := r.slot, entries := r.entries, reservation := r.reservation }

/-- What the invariants of contexts and ring read of a state. -/
structure View where
  course : SlotId → Option Course
  activation : Option Activation
  cycle : Cycle
  merge : Nat
  inspect : Nat
  gateLag : Nat
  sets : List SetAccount

def State.view (s : State) : View :=
  { course := Machine.course s, activation := s.activation, cycle := s.wpu.cycle, merge := s.st.merge,
    inspect := s.st.inspect, gateLag := s.st.gateLag, sets := s.st.ring.map SetRecord.account }

/-- The state of a slot, none for EMPTY. -/
def View.state (v : View) (k : SlotId) : Option JobState := (v.course k).map Course.state

/-- The age of a tag (R51). -/
def View.age (v : View) (t : Cycle) : Nat := (v.cycle - t).toNat

/-- How many sets belong to a slot. -/
def View.setsOf (v : View) (k : SlotId) : Nat := (v.sets.filter fun a => a.slot == k).length

theorem slotState_eq_view (s : State) (k : SlotId) : slotState s k = s.view.state k := by
  simp [slotState, State.view, View.state, course, Function.comp_def, Context.course]

theorem course_congr {s t : State} (h : t.slots = s.slots) : course t = course s := by
  funext k; simp [course, h]

theorem course_of_some {s : State} {k : SlotId} {c : Context} (h : s.slots[k] = some c) :
    s.view.course k = some c.course := by
  show course s k = _
  rw [course, h]; rfl

theorem course_eq_some {s : State} {k : SlotId} {x : Course} :
    s.view.course k = some x ↔ ∃ c, s.slots[k] = some c ∧ c.course = x := by
  simp [State.view, course]

theorem setsOf_eq_view (s : State) (k : SlotId) : setsOf k s = s.view.setsOf k := by
  simp only [setsOf, State.view, View.setsOf, List.filter_map, List.length_map]
  rfl

/-- The same contexts, activation, cycle and tracker make the same view. -/
theorem view_congr {s t : State} (hslots : t.slots = s.slots) (hact : t.activation = s.activation)
    (hcycle : t.wpu.cycle = s.wpu.cycle) (hst : t.st = s.st) : t.view = s.view := by
  simp only [State.view, course_congr hslots, hact, hcycle, hst]

/-! ## The agreement of contexts and ring, of a view -/

/-- No context is ACTIVE or DRAINING and no activation is pending. -/
def View.Idle (v : View) : Prop :=
  (∀ k : SlotId, v.state k ≠ some .active ∧ v.state k ≠ some .draining) ∧ v.activation = none

theorem nothingRuns_iff (s : State) : NothingRuns s ↔ s.view.Idle := by
  simp only [NothingRuns, View.Idle, slotState_eq_view]; rfl

/-- What `RunSound` says beside the ages of the sets. -/
structure View.Agrees (v : View) : Prop where
  oneActive : ∀ i j : SlotId, v.state i = some .active → v.state j = some .active → i = j
  oneDraining : ∀ i j : SlotId, v.state i = some .draining → v.state j = some .draining → i = j
  suspended : ∀ (k : SlotId) (c : Course), v.course k = some c → c.suspend = true →
    c.state = .active ∧ 1 ≤ c.inFlight ∧ ∀ j : SlotId, v.state j ≠ some .draining
  draining : ∀ (k : SlotId) (c : Course), v.course k = some c → c.state = .draining → 1 ≤ c.inFlight
  pending : ∀ a : Activation, v.activation = some a → v.state a.slot = some a.origin.state ∧
    ∀ i j : SlotId, v.state i = some .draining → v.state j ≠ some .active
  lags : v.merge = 0 ∧ v.inspect = 0 ∧ v.gateLag = 0 ∨
    1 ≤ v.merge ∧ v.merge ≤ v.inspect ∧ v.inspect + 2 ≤ v.gateLag ∧ v.gateLag ≤ 127
  fitted : ¬v.Idle → 1 ≤ v.merge
  owned : ∀ a ∈ v.sets, v.state a.slot = some .active ∨ v.state a.slot = some .draining
  counted : ∀ (k : SlotId) (c : Course), v.course k = some c → c.inFlight = v.setsOf k

/-- The sets stand oldest first, each younger than the gate lag (R69). -/
structure View.Aged (v : View) : Prop where
  ordered : (v.sets.map fun a => v.age a.tag).Pairwise fun a b => b < a
  young : ∀ a ∈ v.sets, v.age a.tag < v.gateLag

theorem runSound_iff (s : State) : RunSound s ↔ s.view.Agrees ∧ s.view.Aged := by
  have hages : (s.view.sets.map fun a => s.view.age a.tag) = s.st.ring.map fun r => tagAge s r.tag := by
    simp only [State.view, List.map_map]; rfl
  have hsets : ∀ P : SetAccount → Prop, (∀ a ∈ s.view.sets, P a) ↔ ∀ r ∈ s.st.ring, P r.account := by
    simp [State.view]
  constructor
  · rintro ⟨hactive, hdraining, hsuspended, hset, hpending, hlags, hfitted, howned, hcounted, hordered, hyoung⟩
    simp only [nothingRuns_iff, slotState_eq_view] at hactive hdraining hsuspended hpending hfitted howned
    refine ⟨⟨hactive, hdraining, fun k c hc hs => ?_, fun k c hc hd => ?_, hpending, hlags, hfitted, (hsets _).mpr howned,
      fun k c hc => ?_⟩, ⟨hages ▸ hordered, (hsets _).mpr hyoung⟩⟩ <;>
      obtain ⟨x, hx, rfl⟩ := course_eq_some.mp hc
    · exact hsuspended k x hx hs
    · exact hset k x hx hd
    · exact (hcounted k x hx).trans (setsOf_eq_view s k)
  · rintro ⟨⟨hactive, hdraining, hsuspended, hset, hpending, hlags, hfitted, howned, hcounted⟩, hordered, hyoung⟩
    refine ⟨?_, ?_, fun k c hc hs => ?_, fun k c hc hd => hset k _ (course_of_some hc) hd, ?_, hlags, ?_, ?_,
      fun k c hc => (hcounted k _ (course_of_some hc)).trans (setsOf_eq_view s k).symm, hages ▸ hordered,
      (hsets _).mp hyoung⟩ <;> simp only [nothingRuns_iff, slotState_eq_view]
    · exact hactive
    · exact hdraining
    · exact hsuspended k _ (course_of_some hc) hs
    · exact hpending
    · exact hfitted
    · exact (hsets _).mp howned

/-! ## Operations beside the view and the journal -/

/-- A change that the invariants of contexts, ring and journal do not see. -/
def Aside (s t : State) : Prop := t.view = s.view ∧ t.ij = s.ij

namespace Aside

theorem refl (s : State) : Aside s s := ⟨rfl, rfl⟩

theorem trans {s t u : State} (h : Aside s t) (g : Aside t u) : Aside s u := ⟨g.1.trans h.1, g.2.trans h.2⟩

/-- A change beside contexts, activation, cycle, tracker and journal. -/
theorem of_eq {s t : State} (hslots : t.slots = s.slots := by simp) (hact : t.activation = s.activation := by simp)
    (hwpu : t.wpu.cycle = s.wpu.cycle := by simp) (hst : t.st = s.st := by simp) (hij : t.ij = s.ij := by simp) :
    Aside s t :=
  ⟨view_congr hslots hact hwpu hst, hij⟩

theorem ite {s t u : State} {b : Prop} [Decidable b] (h : b → Aside s t) (g : ¬b → Aside s u) :
    Aside s (if b then t else u) := by
  split
  · exact h ‹_›
  · exact g ‹_›

theorem foldl {α : Type} {g : State → α → State} (h : ∀ s x, Aside s (g s x)) (l : List α) (s : State) :
    Aside s (l.foldl g s) :=
  ⟨foldl_keeps State.view (fun s x => (h s x).1) l s, foldl_keeps State.ij (fun s x => (h s x).2) l s⟩

/-- A change of sets beside what the invariants read of them. -/
theorem of_ring {s : State} {f : SetRecord → SetRecord} (h : ∀ r, (f r).account = r.account) :
    Aside s { s with st := { s.st with ring := s.st.ring.map f } } := by
  refine ⟨?_, rfl⟩
  have hsets : (s.st.ring.map f).map SetRecord.account = s.st.ring.map SetRecord.account := by
    rw [List.map_map]; exact List.map_congr_left fun r _ => h r
  simp only [State.view, hsets]
  rfl

/-- A change of one context beside its course. -/
theorem of_context {s : State} {k : SlotId} {f : Context → Context} (h : ∀ c, (f c).course = c.course) :
    Aside s (modifyContext k f s) := by
  refine ⟨?_, rfl⟩
  have hcourse : course (modifyContext k f s) = course s := by
    funext j
    by_cases hj : j = k
    · subst hj; simp [course, Function.comp_def, h]
    · simp [course, updateAt_get_ne _ _ _ _ (Ne.symm hj)]
  simp only [State.view, hcourse, modifyContext_activation, modifyContext_wpu, modifyContext_st]

end Aside

theorem modifySet_aside {t : Cycle} {f : SetRecord → SetRecord} (h : ∀ r, (f r).account = r.account) (s : State) :
    Aside s (modifySet t f s) :=
  .of_ring fun r => by split <;> simp [h]

theorem modifySets_aside {p : SetRecord → Bool} {f : SetRecord → SetRecord} (h : ∀ r, (f r).account = r.account)
    (s : State) : Aside s (modifySets p f s) :=
  .of_ring fun r => by split <;> simp [h]

theorem modifySequence_aside (k : SlotId) (q : SeqId) (f : Sequence → Sequence) (s : State) :
    Aside s (modifySequence k q f s) :=
  .of_context fun _ => rfl

theorem notify_aside (k : NoticeKind) (b : List Byte) (s : State) : Aside s (notify k b s) := .of_eq

theorem notifyJob_aside (k : SlotId) (job : Option Nat) (a b : Option JobState) (s : State) :
    Aside s (notifyJob k job a b s) :=
  .of_eq

theorem modifyPort_aside (p : PortId) (f : Port → Port) (s : State) : Aside s (modifyPort p f s) := .of_eq

theorem latchStop_aside (c : StopCause) (s : State) : Aside s (latchStop c s) := .of_eq

theorem makeStale_aside (k : SlotId) (q : SeqId) (s : State) : Aside s (makeStale k q s) := .of_eq

theorem resumeSkip_aside (s : State) : Aside s (resumeSkip s) := .of_eq

theorem setGateRecord_aside (k : LaneId) (g : Gate) (s : State) : Aside s (setGateRecord k g s) := by
  refine ⟨?_, by simp⟩
  simp only [State.view, setGateRecord_st, course_congr (setGateRecord_slots ..), setGateRecord_activation,
    setGateRecord_wpu]

theorem gateStep_aside (due : Option SetRecord) (s : State) : Aside s (gateStep due s) :=
  .foldl (fun _ _ => setGateRecord_aside ..) _ s

theorem releaseGates_aside (s : State) : Aside s (releaseGates s) := by
  refine .foldl (fun u k => ?_) _ s
  split
  · exact .ite (fun _ => setGateRecord_aside ..) fun _ => .refl u
  · exact .refl u
  · exact .refl u

/-! ### The measurement -/

theorem SetRecord.verdict_account (faulty : Bool) (r : SetRecord) : (r.verdict faulty).account = r.account := rfl

theorem passVerdict_aside (record : RegRecord) (s : State) : Aside s (passVerdict record s) := by
  unfold passVerdict
  split
  · exact .refl s
  · exact modifySet_aside (SetRecord.verdict_account record.faulty) s

theorem reportFault_aside (record : RegRecord) (n : Nat) (s : State) : Aside s (reportFault record n s) := by
  unfold reportFault
  exact .ite (fun _ => .ite (fun _ => (notify_aside ..).trans (latchStop_aside ..)) fun _ => notify_aside ..)
    fun _ => .refl s

theorem closeMeasurement_aside (c : CloseCause) (s : State) : Aside s (closeMeasurement c s) := by
  cases h : s.mtu.armed with
  | none => rw [closeMeasurement_unarmed h]; exact .refl s
  | some a =>
    rw [closeMeasurement_armed h]
    exact .trans (.trans .of_eq (passVerdict_aside _ { s with mtu := _ })) (reportFault_aside ..)

theorem followMeasurement_aside (s : State) : Aside s (followMeasurement s) := by
  unfold followMeasurement
  split
  · exact .ite (fun _ => .trans .of_eq (closeMeasurement_aside _ { s with mtu := _ })) fun _ => .of_eq
  · exact .refl s

theorem armMeasurement_aside (s : State) : Aside s (armMeasurement s) := .of_eq

theorem measureBoundary_aside (s : State) : Aside s (measureBoundary s) :=
  .trans (.ite (fun _ => closeMeasurement_aside ..) fun _ => .refl s) (armMeasurement_aside _)

theorem markEdge_aside (k : ChannelId) (s : State) : Aside s (markEdge k s) := by
  unfold markEdge takeMark
  refine .ite (fun _ => .refl s) fun _ => ?_
  split
  · exact .ite (fun _ => .ite (fun _ => .ite (fun _ => .trans .of_eq (closeMeasurement_aside _ { s with mtu := _ }))
      fun _ => .of_eq) fun _ => .of_eq) fun _ => .refl s
  · exact .refl s

/-! ### The sets' lanes and heads -/

theorem closeWindow_aside (s : State) : Aside s (closeWindow s) :=
  modifySet_aside (f := fun r => { r with lanes := r.lanes.map LanePart.closeWindow }) (fun _ => rfl) s

theorem flushSets_aside (k : SlotId) (s : State) : Aside s (flushSets k s) :=
  modifySets_aside (f := SetRecord.flush) (fun _ => rfl) s

theorem writeOutcome_account (h : HeadId) (o : HeadOutcome) (why : Option Reason) (lane : Option LaneId) (r : SetRecord) :
    (writeOutcome h o why lane r).account = r.account := by
  cases why <;> cases lane <;> rfl

theorem markOutcome_aside (h : HeadId) (t : Cycle) (o : HeadOutcome) (why : Option Reason) (s : State) :
    Aside s (markOutcome h t o why s) :=
  modifySet_aside (fun r => writeOutcome_account h o why (headLaneIn s h r) r) s

theorem dropOrder_aside (h : HeadId) (t : Cycle) (s : State) : Aside s (dropOrder h t s) := .of_eq

theorem modifyHead_aside (h : HeadId) (f : Head → Head) (s : State) : Aside s (modifyHead h f s) := .of_eq

/-- An order that is settled is dropped, its outcome marked and counted (R83, R89). -/
theorem settle_aside (h : HeadId) (t : Cycle) (o : HeadOutcome) (why : Option Reason) (f : Head → Head) (s : State) :
    Aside s (modifyHead h f (markOutcome h t o why (dropOrder h t s))) :=
  (dropOrder_aside ..).trans ((markOutcome_aside ..).trans (modifyHead_aside ..))

theorem expireHead_aside (h : HeadId) (s : State) : Aside s (expireHead h s) := by
  unfold expireHead
  split
  · exact .refl s
  · exact .ite (fun _ => settle_aside ..) fun _ => .refl s

theorem issueOrder_aside (h : HeadId) (p : Placement) (r : SetRecord) (s : State) : Aside s (issueOrder h p r s) := by
  unfold issueOrder
  split
  · split
    · exact .refl s
    · exact .ite (fun _ => markOutcome_aside ..) fun _ => .ite (fun _ => markOutcome_aside ..) fun _ =>
        .trans (markOutcome_aside h r.tag .ordered none s) (.of_eq (hst := rfl))
  · exact .refl s

theorem issueHead_aside (h : HeadId) (s : State) : Aside s (issueHead h s) := by
  unfold issueHead
  split
  · exact .refl s
  · split
    · exact .refl s
    · exact issueOrder_aside ..

theorem headBoundary_aside (h : HeadId) (s : State) : Aside s (headBoundary s h) := by
  unfold headBoundary
  exact .ite (fun _ => expireHead_aside ..) fun _ => (expireHead_aside ..).trans (issueHead_aside ..)

theorem sendOrder_aside (s : State) : Aside s (sendOrder s) := .of_eq (hst := sendOrder_st s)

theorem headStep_aside (s : State) (x : HouStep) : Aside s (headStep s x) := by
  cases x with
  | head h => exact headBoundary_aside h s
  | link l =>
    cases l with
    | chooses => exact .of_eq (hst := sendOlder_st s)
    | ends => exact .of_eq (hst := rfl)

theorem handStep_aside (s : State) (x : HouStep) : Aside s (handStep s x) := by
  cases x with
  | head h => exact .ite (fun _ => issueHead_aside h s) fun _ => .refl s
  | link l =>
    cases l with
    | chooses => exact sendOrder_aside s
    | ends => exact .of_eq (hst := rfl)

theorem handOver_aside (o : BoundaryOrder) (s : State) : Aside s (handOver o s) := .foldl handStep_aside _ s

/-- The blocks beside the Set Tracker leave contexts, ring and journal alone. -/
theorem runPhase_aside (o : BoundaryOrder) (n : Option WebNotice) (s : State) {p : Phase} (h : p ≠ .track) :
    Aside s (runPhase o n s p) := by
  cases p with
  | measure => exact measureBoundary_aside s
  | window => exact closeWindow_aside s
  | track => exact absurd rfl h
  | heads => exact .foldl headStep_aside _ s
  | webNotice =>
    cases n with
    | none => exact .refl s
    | some w => exact notify_aside ..

end Sys2Proof.Machine
end

section
/-! PROOFS. The journal: what its operations keep of its form, and of the account of its records. -/

namespace Sys2Proof.Machine

/-! ## The form of the journal -/

/-- What a body meets when its record begins an OPEN tail: it is a run that can still grow (R143, R145). -/
def RecordBody.opens (b : RecordBody) : Prop := b.isRun = true → b.count < 65535

theorem RecordBody.opens_of_not_run {b : RecordBody} (h : b.isRun = false) : b.opens := fun hr => by
  rw [h] at hr; cases hr

/-- Indices and tail of a journal are as R141 and R144 say. -/
def Journal.sound (j : Journal) : Prop := j.indexed ∧ j.tailSound

/-- What only the account changes, the form does not see. -/
theorem Journal.sound_congr {j j' : Journal} (hr : j'.records = j.records) (hn : j'.next = j.next) (ht : j'.tail = j.tail)
    (h : j.sound) : j'.sound := by
  simpa only [Journal.sound, Journal.indexed, Journal.tailSound, hr, hn, ht] using h

theorem Journal.append_sound {j : Journal} {slot : SlotId} {job : Nat} {stamp : Cycle} {b : RecordBody} (hb : b.opens)
    (h : j.sound) : (j.append slot job stamp b).sound := by
  obtain ⟨hindex, -, -⟩ := h
  refine ⟨fun i r hr => ?_, by simp [Journal.append], fun t r ht hr ho => ?_⟩
  · rw [Journal.append, List.getElem?_append] at hr
    simp only [Journal.append, List.length_append, List.length_singleton]
    split at hr
    · rename_i hi
      rw [hindex i r hr, show j.records.length + 1 - i = (j.records.length - i) + 1 by omega, BitVec.ofNat_add]
      bv_omega
    · rename_i hi
      obtain ⟨hz, rfl⟩ : i - j.records.length = 0 ∧ _ = r := by
        simpa [List.getElem?_singleton, Option.ite_none_right_eq_some] using hr
      rw [show j.records.length + 1 - i = 1 by omega]
      simp
  · simp only [Journal.append, Option.some.injEq] at ht
    simp only [Journal.append, List.getLast?_append, List.getLast?_singleton, Option.some_or, Option.some.injEq] at hr
    subst ht hr
    exact ⟨rfl, ho, hb ho⟩

/-- A run that a value continues stays a run (R145). -/
theorem RecordBody.extend_isRun {b c d : RecordBody} (h : b.extend c = some d) : d.isRun = true := by
  unfold RecordBody.extend at h
  split at h
  · split at h
    · cases h; rfl
    · cases h
  · split at h
    · cases h; rfl
    · cases h
  · cases h

/-- A record that merges extends the last one, while the tail is OPEN (R144). -/
theorem Journal.merge_some {j j' : Journal} {slot : SlotId} {job : Nat} {b : RecordBody} (h : j.merge slot job b = some j') :
    ∃ t r b', j.tail = some t ∧ j.records.getLast? = some r ∧ t.isOpen = true ∧ r.body.extend b = some b' ∧
      j' = { j with
        records := j.records.dropLast ++ [{ r with body := b' }], tail := some { t with isOpen := b'.count < 65535 } } := by
  unfold Journal.merge at h
  split at h
  · rename_i t r ht hr
    split at h
    · rename_i hopen
      obtain ⟨b', hb, e⟩ := Option.map_eq_some_iff.mp h
      exact ⟨t, r, b', ht, hr, hopen.1, hb, e.symm⟩
    · cases h
  · cases h

theorem Journal.merge_sound {j j' : Journal} {slot : SlotId} {job : Nat} {b : RecordBody}
    (hm : j.merge slot job b = some j') (h : j.sound) : j'.sound := by
  obtain ⟨hindex, -, htail⟩ := h
  obtain ⟨t, r, b', ht, hr, hopen, hb, rfl⟩ := Journal.merge_some hm
  obtain ⟨l, hl⟩ : ∃ l, j.records = l ++ [r] := ⟨_, (List.dropLast_append_getLast? r hr).symm⟩
  refine ⟨fun i x hx => ?_, by simp, fun t' x ht' hx ho => ?_⟩
  · simp only [hl, List.dropLast_concat] at hx ⊢
    have hlen : (l ++ [({ r with body := b' } : Record)]).length = j.records.length := by simp [hl]
    rw [hlen]
    rw [List.getElem?_append] at hx
    split at hx
    · rename_i hi
      exact hindex i x (by rw [hl, List.getElem?_append_left hi, hx])
    · rename_i hi
      obtain ⟨hz, rfl⟩ : i - l.length = 0 ∧ _ = x := by
        simpa [List.getElem?_singleton, Option.ite_none_right_eq_some] using hx
      exact hindex i r (by rw [hl, List.getElem?_append_right (by omega), hz]; rfl)
  · simp only [Option.some.injEq] at ht'
    simp only [List.getLast?_append, List.getLast?_singleton, Option.some_or, Option.some.injEq] at hx
    subst ht' hx
    obtain ⟨hread, -, -⟩ := htail t r ht hr hopen
    exact ⟨hread, RecordBody.extend_isRun hb, by simpa using ho⟩

theorem Journal.markRead_sound {j : Journal} (start n : Nat) (h : j.sound) : (j.markRead start n).sound := by
  obtain ⟨hindex, htail, hopen⟩ := h
  have hlen : (j.markRead start n).records.length = j.records.length := by simp [Journal.markRead]
  have hat : ∀ i x, (j.markRead start n).records[i]? = some x → ∃ r, j.records[i]? = some r ∧
      x = if start ≤ i ∧ i < start + n then { r with read := true } else r := fun i x hx => by
    simp only [Journal.markRead, List.getElem?_mapIdx, Option.map_eq_some_iff] at hx
    obtain ⟨r, hr, e⟩ := hx
    exact ⟨r, hr, e.symm⟩
  refine ⟨fun i x hx => ?_, ?_, fun t x ht hx ho => ?_⟩
  · obtain ⟨r, hr, e⟩ := hat i x hx
    have hi : x.index = r.index := by rw [e]; split <;> rfl
    rw [hi, hindex i r hr, hlen]; rfl
  · have hsome : (j.markRead start n).tail.isSome = j.tail.isSome := by
      simp only [Journal.markRead]; split <;> simp
    rw [hsome, htail, ← List.length_pos_iff, ← List.length_pos_iff, hlen]
  · simp only [Journal.markRead] at ht
    split at ht
    · obtain ⟨u, -, rfl⟩ := Option.map_eq_some_iff.mp ht
      cases ho
    · rename_i hout
      rw [List.getLast?_eq_getElem?, hlen] at hx
      obtain ⟨r, hr, e⟩ := hat _ x hx
      have hpos : j.records.length - 1 < j.records.length := (List.getElem?_eq_some_iff.mp hr).1
      rw [if_neg (by omega)] at e
      exact e ▸ hopen t r ht (by rw [List.getLast?_eq_getElem?, hr]) ho

theorem Journal.dropOldest_sound {j : Journal} (n : Nat) (h : j.sound) : (j.dropOldest n).sound := by
  obtain ⟨hindex, htail, hopen⟩ := h
  refine ⟨fun i r hr => ?_, ?_, fun t r ht hr ho => ?_⟩
  · simp only [Journal.dropOldest, List.getElem?_drop] at hr
    have hi := (List.getElem?_eq_some_iff.mp hr).1
    rw [hindex _ r hr]
    simp only [Journal.dropOldest, List.length_drop]
    rw [show j.records.length - n - i = j.records.length - (n + i) by omega]
  · simp only [Journal.dropOldest]
    split
    · rename_i hn; simp [hn]
    · rename_i hn
      rw [htail]
      simp only [ne_eq, ← List.length_eq_zero_iff, List.length_drop]
      omega
  · simp only [Journal.dropOldest] at ht hr
    split at ht
    · cases ht
    · rename_i hn
      rw [List.getLast?_drop, if_neg hn] at hr
      exact hopen t r ht hr ho

/-! ## The account of the journal's records -/

/-- What the account reads of a journal: the held and the reserved count, the context reservations and the records that
wait. -/
theorem Journal.append_length (slot : SlotId) (job : Nat) (stamp : Cycle) (b : RecordBody) (j : Journal) :
    (j.append slot job stamp b).records.length = j.records.length + 1 := by
  simp [Journal.append]

theorem Journal.merge_length {j j' : Journal} {slot : SlotId} {job : Nat} {b : RecordBody}
    (h : j.merge slot job b = some j') : j'.records.length = j.records.length := by
  obtain ⟨t, r, b', -, hr, -, -, rfl⟩ := Journal.merge_some h
  have hpos : j.records ≠ [] := by rintro e; rw [e] at hr; cases hr
  have := List.length_pos_iff.mpr hpos
  simp only [List.length_append, List.length_dropLast, List.length_singleton]
  omega

/-- The entry carries a number of its own (R59, R125). -/
def EntryPart.own (e : EntryPart) : Bool := e.number.any fun n => n.origin == .fresh || n.origin == .reprint

/-- How many entries carry a number of their own. -/
def ownNumbers (l : List EntryPart) : Nat := (l.filter EntryPart.own).length

/-- How many JOB_SUSPENDED records of a slot wait (R149). -/
def waitingFor (l : List Deferred) (k : SlotId) : Nat :=
  (l.filter fun d => d.activated.isNone && d.slot == k).length

/-- 1 where the context of a slot is ACTIVE or DRAINING. -/
def View.runCount (v : View) (k : SlotId) : Nat :=
  if v.state k = some .active ∨ v.state k = some .draining then 1 else 0

/-- 1 where an activation is pending on a slot. -/
def pendCount (o : Option Activation) (k : SlotId) : Nat := if o.any (fun a => a.slot == k) then 1 else 0

/-- What a slot's context reservation stands for beside a JOB_SUSPENDED that waits: a run, or a pending activation. -/
def View.runsOrPends (v : View) (k : SlotId) : Nat := v.runCount k + pendCount v.activation k

@[simp] theorem pendCount_none (k : SlotId) : pendCount none k = 0 := rfl

@[simp] theorem pendCount_some (a : Activation) (k : SlotId) : pendCount (some a) k = if a.slot = k then 1 else 0 := by
  simp [pendCount]

theorem View.runCount_of_runs {v : View} {k : SlotId} (h : v.state k = some .active ∨ v.state k = some .draining) :
    v.runCount k = 1 := if_pos h

theorem View.runCount_of_idle {v : View} {k : SlotId} (ha : v.state k ≠ some .active) (hd : v.state k ≠ some .draining) :
    v.runCount k = 0 := if_neg (not_or.mpr ⟨ha, hd⟩)

/-- The state of a slot that an activation came from does not run (R158). -/
theorem View.runCount_of_origin {v : View} {a : Activation} (h : v.state a.slot = some a.origin.state) :
    v.runCount a.slot = 0 := by
  apply View.runCount_of_idle <;> rw [h] <;> cases a.origin <;> decide

/-- The account of the journal's records, with `extra` records reserved beside those of the ring's sets and of the
contexts: those of a set that is being allocated or retired. -/
structure Balanced (v : View) (j : Journal) (extra : Nat) : Prop where
  fits : j.records.length + j.reserved ≤ 1024
  sum : j.reserved = (v.sets.map SetAccount.reservation).sum + j.contextReserved.toList.sum + extra
  covers : ∀ a ∈ v.sets, ownNumbers a.entries ≤ a.reservation
  contexts : ∀ k : SlotId, j.contextReserved[k] = v.runsOrPends k + waitingFor j.deferred k ∧
    v.runsOrPends k + waitingFor j.deferred k ≤ 1
  parked : ∀ d ∈ j.deferred, d.activated = none → v.state d.slot = some .parked

/-- The account, with no record waiting while one is free (R149). -/
structure Accounted (v : View) (j : Journal) (extra : Nat) : Prop extends Balanced v j extra where
  waits : j.deferred ≠ [] → j.unreserved = 0

theorem spaceSound_iff (s : State) : SpaceSound s ↔ Accounted s.view s.ij 0 := by
  have hreservation : s.view.sets.map SetAccount.reservation = s.st.ring.map SetRecord.reservation := by
    simp only [State.view, List.map_map]; rfl
  have hholds : ∀ k, contextHolds s k = s.view.runsOrPends k + waitingFor s.ij.deferred k := fun k => by
    simp only [contextHolds, View.runsOrPends, View.runCount, slotState_eq_view]; rfl
  have hcovers : (∀ r ∈ s.st.ring, r.ownNumbers ≤ r.reservation) ↔
      ∀ a ∈ s.view.sets, ownNumbers a.entries ≤ a.reservation := by
    simp only [State.view, List.forall_mem_map]; rfl
  constructor
  · rintro ⟨hfits, hsum, hcov, hcontexts, hwaits, hparked⟩
    simp only [slotState_eq_view] at hparked
    exact ⟨⟨hfits, by rw [hreservation]; exact hsum, hcovers.mp hcov, fun k => by rw [← hholds]; exact hcontexts k, hparked⟩,
      hwaits⟩
  · rintro ⟨⟨hfits, hsum, hcov, hcontexts, hparked⟩, hwaits⟩
    refine ⟨hfits, by rw [← hreservation]; exact hsum, hcovers.mpr hcov, fun k => by rw [hholds]; exact hcontexts k, hwaits, ?_⟩
    simpa only [slotState_eq_view] using hparked

section
variable {v w : View} {j j' : Journal} {e : Nat}

/-- A view with the same sets in which every slot's reservation stands for the same. -/
theorem Balanced.of_view (h : Balanced v j e) (hsets : w.sets = v.sets) (hholds : ∀ k, w.runsOrPends k = v.runsOrPends k)
    (hparked : ∀ k, v.state k = some .parked → waitingFor j.deferred k ≠ 0 → w.state k = some .parked) :
    Balanced w j e where
  fits := h.fits
  sum := by rw [hsets]; exact h.sum
  covers := by rw [hsets]; exact h.covers
  contexts k := by rw [hholds]; exact h.contexts k
  parked d hd ha := hparked _ (h.parked d hd ha) (by
    rw [waitingFor, ne_eq, List.length_eq_zero_iff]
    exact List.ne_nil_of_mem (List.mem_filter.mpr ⟨hd, by simp [ha]⟩))

theorem Accounted.of_view (h : Accounted v j e) (hsets : w.sets = v.sets) (hholds : ∀ k, w.runsOrPends k = v.runsOrPends k)
    (hparked : ∀ k, v.state k = some .parked → waitingFor j.deferred k ≠ 0 → w.state k = some .parked) :
    Accounted w j e :=
  ⟨h.toBalanced.of_view hsets hholds hparked, h.waits⟩

/-- Unreserved records that are free are written, or reserved for a set (R143, R146). -/
theorem Accounted.spend (h : Accounted v j e) {m n : Nat} (hmn : m + n ≤ j.unreserved)
    (hr : j'.records.length = j.records.length + m) (hres : j'.reserved = j.reserved + n)
    (hc : j'.contextReserved = j.contextReserved) (hd : j'.deferred = j.deferred) : Accounted v j' (e + n) where
  fits := by have := h.fits; unfold Journal.unreserved at hmn; omega
  sum := by rw [hres, hc, h.sum]; omega
  covers := h.covers
  contexts := by rw [hc, hd]; exact h.contexts
  parked := by rw [hd]; exact h.parked
  waits hne := by
    have := h.waits (hd ▸ hne)
    unfold Journal.unreserved at this hmn ⊢
    omega

/-- A journal with the same account. -/
theorem Accounted.of_journal (h : Accounted v j e) (hr : j'.records.length = j.records.length)
    (hres : j'.reserved = j.reserved) (hc : j'.contextReserved = j.contextReserved) (hd : j'.deferred = j.deferred) :
    Accounted v j' e :=
  h.spend (m := 0) (n := 0) (Nat.zero_le _) hr hres hc hd

/-- While an unreserved record is free no record waits (R149). -/
theorem Accounted.none_waits (h : Accounted v j e) (hfree : 0 < j.unreserved) : j.deferred = [] := by
  by_contra hne
  have := h.waits hne
  omega

end

/-! ### Context reservations -/

theorem sum_toList (x : Vector Nat 4) : x.toList.sum = x[0] + x[1] + x[2] + x[3] := by
  rcases x with ⟨⟨l⟩, h⟩
  match l, h with
  | [a, b, c, d], _ => simp; omega

theorem sum_updateAt (x : Vector Nat 4) (k : SlotId) (f : Nat → Nat) :
    (updateAt x k f).toList.sum + x[k] = x.toList.sum + f x[k] := by
  rw [sum_toList, sum_toList]
  simp only [updateAt_getElem, Fin.getElem_fin]
  match k with
  | 0 | 1 | 2 | 3 => simp; omega

theorem waitingFor_cons (d : Deferred) (l : List Deferred) (k : SlotId) :
    waitingFor (d :: l) k = waitingFor l k + if d.activated = none ∧ d.slot = k then 1 else 0 := by
  simp only [waitingFor, List.filter_cons, Bool.and_eq_true, Option.isNone_iff_eq_none, beq_iff_eq]
  split <;> simp

theorem waitingFor_append (d : Deferred) (l : List Deferred) (k : SlotId) :
    waitingFor (l ++ [d]) k = waitingFor l k + if d.activated = none ∧ d.slot = k then 1 else 0 := by
  rw [waitingFor, List.filter_append, List.length_append]
  simpa [waitingFor] using waitingFor_cons d [] k

end Sys2Proof.Machine
end

section
/-! PROOFS. The operations that write journal records: the form of the journal, and the account of its records. -/

namespace Sys2Proof.Machine

/-! ## Operations that leave the view -/

/-- A change that leaves the view as it is and keeps the journal's form and account. -/
structure Journals (s t : State) : Prop where
  view : t.view = s.view
  form : s.ij.sound → t.ij.sound
  account : ∀ e, Accounted s.view s.ij e → Accounted t.view t.ij e

namespace Journals

theorem refl (s : State) : Journals s s := ⟨rfl, id, fun _ => id⟩

theorem trans {s t u : State} (h : Journals s t) (g : Journals t u) : Journals s u :=
  ⟨g.view.trans h.view, g.form ∘ h.form, fun e => g.account e ∘ h.account e⟩

theorem foldl {α : Type} {g : State → α → State} (h : ∀ s x, Journals s (g s x)) (l : List α) (s : State) :
    Journals s (l.foldl g s) := by
  induction l generalizing s with
  | nil => exact refl s
  | cons x l ih => exact (h s x).trans (ih _)

end Journals

theorem Aside.journals {s t : State} (h : Aside s t) : Journals s t :=
  ⟨h.1, fun hs => h.2 ▸ hs, fun e he => by rw [h.1, h.2]; exact he⟩

theorem journalUnreserved_ij (slot : SlotId) (job : Nat) (stamp : Cycle) (b : RecordBody) (s : State) :
    (journalUnreserved slot job stamp b s).ij = s.ij.append slot job stamp b := testThreshold_ij _

theorem journalUnreserved_view (slot : SlotId) (job : Nat) (stamp : Cycle) (b : RecordBody) (s : State) :
    (journalUnreserved slot job stamp b s).view = s.view :=
  view_congr (by simp) (by simp) (by simp) (by simp)

/-- A record is written where an unreserved one is free (R143). -/
theorem journalUnreserved_journals {slot : SlotId} {job : Nat} {stamp : Cycle} {b : RecordBody} {s : State}
    (hfree : 0 < s.ij.unreserved) (hb : b.opens) : Journals s (journalUnreserved slot job stamp b s) where
  view := journalUnreserved_view ..
  form h := by rw [journalUnreserved_ij]; exact Journal.append_sound hb h
  account e h := by
    rw [journalUnreserved_view, journalUnreserved_ij]
    exact h.spend (m := 1) (n := 0) (by omega) (Journal.append_length ..) rfl rfl rfl

/-! ### The records that wait -/

theorem Deferred.body_opens (d : Deferred) : d.body.opens := by
  unfold Deferred.body
  cases d.activated <;> exact RecordBody.opens_of_not_run rfl

theorem appendContextRecord_view (d : Deferred) (s : State) : (appendContextRecord d s).view = s.view :=
  view_congr (by simp) (by simp) (by simp) (by simp)

theorem appendContextRecord_form (d : Deferred) {s : State} (h : s.ij.sound) : (appendContextRecord d s).ij.sound := by
  have happend := Journal.append_sound (slot := d.slot) (job := d.job) (stamp := d.stamp) d.body_opens h
  unfold appendContextRecord
  split
  · rw [journalUnreserved_ij]; exact happend
  · exact Journal.sound_congr rfl rfl rfl happend

/-- The account after a JOB_SUSPENDED has consumed its reservation, once it no longer waits (R149). -/
theorem Balanced.consume {v w : View} {j : Journal} {e : Nat} {k : SlotId} {job : Nat} {stamp : Cycle} {b : RecordBody}
    (h : Balanced v j e) (l : List Deferred) (hsets : w.sets = v.sets) (hk : j.contextReserved[k] = 1)
    (hholds : ∀ i, w.runsOrPends i + waitingFor l i = if i = k then 0 else v.runsOrPends i + waitingFor j.deferred i)
    (hparked : ∀ d ∈ l, d.activated = none → w.state d.slot = some .parked) :
    Balanced w { consumeContext k (j.append k job stamp b) with deferred := l } e where
  fits := by
    have hpos : 0 < j.reserved := by
      have hsum := sum_updateAt j.contextReserved k (fun _ => 0)
      have := h.sum
      omega
    have := h.fits
    simp only [consumeContext, Journal.append_length]
    simp only [Journal.append]
    omega
  sum := by
    have hsum := sum_updateAt j.contextReserved k (· - 1)
    have := h.sum
    simp only [hk] at hsum
    simp only [consumeContext, Journal.append, hsets]
    omega
  covers := by rw [hsets]; exact h.covers
  contexts i := by
    obtain ⟨hi, hone⟩ := h.contexts i
    simp only [consumeContext, Journal.append, hholds, Fin.getElem_fin, updateAt_getElem, Fin.ext_iff, eq_comm (a := (i : Nat))]
    split
    · rename_i e; obtain rfl := Fin.ext e
      simp only [Fin.getElem_fin] at hk
      simp [hk]
    · exact ⟨hi, hone⟩
  parked := hparked

/-- A record that waits is written in the space of its kind (R149). -/
theorem Balanced.appendContextRecord {d : Deferred} {ds : List Deferred} {s : State} {e : Nat}
    (h : Balanced s.view { s.ij with deferred := d :: ds } e) (hspace : contextSpace d s = true) :
    Balanced s.view { (appendContextRecord d s).ij with deferred := ds } e := by
  have hrest : ∀ x ∈ ds, x.activated = none → s.view.state x.slot = some .parked := fun x hx =>
    h.parked x (List.mem_cons_of_mem d hx)
  unfold Machine.appendContextRecord
  split
  · rename_i resumed ha
    have hfree : 0 < s.ij.unreserved := by simpa [contextSpace, ha] using hspace
    have hlen := Journal.append_length d.slot d.job d.stamp d.body s.ij
    refine ⟨?_, ?_, h.covers, fun k => ?_, hrest⟩
    · have := h.fits
      simp only [journalUnreserved_ij, hlen]
      simp only [Journal.append] at this ⊢
      unfold Journal.unreserved at hfree
      omega
    · simpa only [journalUnreserved_ij, Journal.append] using h.sum
    · simpa only [journalUnreserved_ij, Journal.append, waitingFor_cons, ha, reduceCtorEq, false_and, if_false, Nat.add_zero]
        using h.contexts k
  · rename_i ha
    have hk := h.contexts d.slot
    simp only [waitingFor_cons, ha, true_and, if_true] at hk
    refine h.consume ds rfl (hk.1.trans (by omega)) (fun i => ?_) hrest
    simp only [waitingFor_cons, ha, true_and, eq_comm (a := d.slot)]
    split
    · rename_i e; subst e; omega
    · omega

theorem appendDeferred_form (l : List Deferred) {s : State} (h : s.ij.sound) : (appendDeferred l s).ij.sound := by
  induction l generalizing s with
  | nil => exact Journal.sound_congr rfl rfl rfl h
  | cons d ds ih =>
    unfold appendDeferred
    split
    · exact ih (appendContextRecord_form d h)
    · exact Journal.sound_congr rfl rfl rfl h

/-- The records that wait are written as far as their space is there (R149). -/
theorem Balanced.appendDeferred {l : List Deferred} {s : State} {e : Nat}
    (h : Balanced s.view { s.ij with deferred := l } e) : Accounted s.view (appendDeferred l s).ij e := by
  induction l generalizing s with
  | nil => exact ⟨h, fun hne => absurd rfl hne⟩
  | cons d ds ih =>
    unfold Machine.appendDeferred
    split
    · rename_i hspace
      rw [← appendContextRecord_view d s]
      exact ih (by rw [appendContextRecord_view]; exact h.appendContextRecord hspace)
    · rename_i hspace
      refine ⟨h, fun _ => ?_⟩
      simp only [contextSpace, Bool.or_eq_true, decide_eq_true_eq, not_or] at hspace
      exact Nat.eq_zero_of_not_pos hspace.2

theorem afterRaise_view (s : State) : (afterRaise s).view = s.view :=
  view_congr (by simp) (by simp) (by simp) (by simp)

theorem afterRaise_ij (s : State) : (afterRaise s).ij = (appendDeferred s.ij.deferred s).ij := resumeSkip_ij _

theorem afterRaise_form {s : State} (h : s.ij.sound) : (afterRaise s).ij.sound := by
  rw [afterRaise_ij]; exact appendDeferred_form _ h

theorem afterRaise_accounted {s : State} {e : Nat} (h : Balanced s.view s.ij e) :
    Accounted (afterRaise s).view (afterRaise s).ij e := by
  rw [afterRaise_view, afterRaise_ij]
  exact Balanced.appendDeferred h

/-! ### Reservations -/

theorem returnReserved_view (n : Nat) (s : State) : (returnReserved n s).view = s.view :=
  view_congr (by simp) (by simp) (by simp) (by simp)

theorem returnReserved_form (n : Nat) {s : State} (h : s.ij.sound) : (returnReserved n s).ij.sound := by
  unfold returnReserved
  split
  · exact h
  · exact afterRaise_form (Journal.sound_congr rfl rfl rfl h)

/-- Records reserved beside those of ring and contexts return (R146). -/
theorem returnReserved_accounted {n : Nat} {s : State} {e : Nat} (h : Accounted s.view s.ij (e + n)) :
    Accounted (returnReserved n s).view (returnReserved n s).ij e := by
  unfold returnReserved
  split
  · rename_i hn; subst hn; exact h
  · refine afterRaise_accounted ⟨?_, ?_, h.covers, h.contexts, h.parked⟩
    · have := h.fits
      simp only []
      omega
    · have := h.sum
      simp only [State.view] at this ⊢
      omega

theorem reserveRecords_ij (n : Nat) (s : State) :
    (reserveRecords n s).ij = { s.ij with reserved := s.ij.reserved + n } := by
  unfold reserveRecords
  split
  · rename_i hn; subst hn; rfl
  · exact testThreshold_ij _

theorem reserveRecords_view (n : Nat) (s : State) : (reserveRecords n s).view = s.view :=
  view_congr (by simp) (by simp) (by simp) (by simp)

theorem reserveRecords_form (n : Nat) {s : State} (h : s.ij.sound) : (reserveRecords n s).ij.sound := by
  rw [reserveRecords_ij]; exact Journal.sound_congr rfl rfl rfl h

theorem reserveRecords_accounted {n : Nat} {s : State} {e : Nat} (h : Accounted s.view s.ij e) (hn : n ≤ s.ij.unreserved) :
    Accounted (reserveRecords n s).view (reserveRecords n s).ij (e + n) := by
  rw [reserveRecords_view, reserveRecords_ij]
  exact h.spend (m := 0) (by omega) rfl rfl rfl rfl

/-! ### Context records -/

theorem contextRecord_view (d : Deferred) (s : State) : (contextRecord d s).view = s.view :=
  view_congr (by simp) (by simp) (by simp) (by simp)

theorem contextRecord_form (d : Deferred) {s : State} (h : s.ij.sound) : (contextRecord d s).ij.sound := by
  unfold contextRecord
  split
  · exact appendContextRecord_form d h
  · exact Journal.sound_congr rfl rfl rfl h

/-- JOB_ACTIVATED is written in unreserved space, or waits (R149). -/
theorem contextRecord_journals {d : Deferred} {resumed : Bool} (hd : d.activated = some resumed) (s : State) :
    Journals s (contextRecord d s) where
  view := contextRecord_view d s
  form := contextRecord_form d
  account e h := by
    rw [contextRecord_view]
    unfold contextRecord
    split
    · rename_i hnow
      obtain ⟨-, hspace⟩ := Bool.and_eq_true_iff.mp hnow
      have hfree : 0 < s.ij.unreserved := by simpa [contextSpace, hd] using hspace
      unfold appendContextRecord
      simp only [hd, journalUnreserved_ij]
      exact h.spend (m := 1) (n := 0) (by omega) (Journal.append_length ..) rfl rfl rfl
    · rename_i hlater
      refine ⟨⟨h.fits, h.sum, h.covers, fun k => ?_, fun x hx hn => ?_⟩, fun _ => ?_⟩
      · simpa only [waitingFor_append, hd, reduceCtorEq, false_and, if_false, Nat.add_zero] using h.contexts k
      · rcases List.mem_append.mp hx with hx | hx
        · exact h.parked x hx hn
        · obtain rfl := List.mem_singleton.mp hx
          rw [hd] at hn; cases hn
      · simp only [contextSpace, hd, Option.isNone_some, Bool.false_or, Bool.and_eq_true, List.isEmpty_iff,
          decide_eq_true_eq, not_and] at hlater
        by_cases hnone : s.ij.deferred = []
        · exact Nat.eq_zero_of_not_pos (hlater hnone)
        · exact h.waits hnone

/-! ### A context changes its state -/

def Course.enter (j : JobState) (c : Course) : Course := { c with state := j, suspend := false }

/-- A context takes a new state, its suspend flag clear (R158). -/
def View.enter (k : SlotId) (j : JobState) (v : View) : View :=
  { v with course := Function.update v.course k ((v.course k).map (Course.enter j)) }

@[simp] theorem View.enter_activation (k : SlotId) (j : JobState) (v : View) : (v.enter k j).activation = v.activation := rfl

theorem View.enter_state (k : SlotId) (j : JobState) (v : View) (i : SlotId) :
    (v.enter k j).state i = if i = k then (v.state k).map fun _ => j else v.state i := by
  unfold View.state View.enter
  split
  · rename_i e; subst e
    simp only [Function.update_self, Option.map_map]
    rfl
  · rename_i e
    simp only [Function.update_of_ne e]

theorem modifyContext_course {k : SlotId} {f : Context → Context} {g : Course → Course}
    (h : ∀ c, (f c).course = g c.course) (s : State) :
    course (modifyContext k f s) = Function.update (course s) k ((course s k).map g) := by
  funext j
  by_cases hj : j = k
  · subst hj; simp [course, Function.comp_def, h]
  · simp [course, hj, updateAt_get_ne _ _ _ _ (Ne.symm hj)]

theorem enter_view (k : SlotId) (j : JobState) (s : State) :
    (modifyContext k (Context.enter j) s).view = s.view.enter k j := by
  simp only [State.view, View.enter, modifyContext_course (f := Context.enter j) (g := Course.enter j) fun _ => rfl, modifyContext_activation,
    modifyContext_wpu, modifyContext_st]

theorem parkContext_view (k : SlotId) (s : State) : (parkContext k s).view = s.view.enter k .parked := by
  unfold parkContext
  split
  · rename_i h
    have hnone : s.view.course k = none := by show course s k = none; rw [course, h]; rfl
    rw [View.enter, hnone, Option.map_none, ← hnone, Function.update_eq_self]
  · rw [contextRecord_view, enter_view]

theorem parkContext_form (k : SlotId) {s : State} (h : s.ij.sound) : (parkContext k s).ij.sound := by
  unfold parkContext
  split
  · exact h
  · exact contextRecord_form _ h

/-- A context that runs stands for its own reservation, and nothing else of its slot does. -/
theorem Balanced.of_runs {v : View} {j : Journal} {e : Nat} {k : SlotId} (h : Balanced v j e)
    (hk : v.state k = some .active ∨ v.state k = some .draining) :
    j.contextReserved[k] = 1 ∧ waitingFor j.deferred k = 0 ∧ pendCount v.activation k = 0 := by
  obtain ⟨hc, hone⟩ := h.contexts k
  simp only [View.runsOrPends, View.runCount_of_runs hk] at hc hone
  omega

/-- A context that runs parks: its reservation pays for its JOB_SUSPENDED, now or when that is written (R149, R172). -/
theorem parkContext_accounted {k : SlotId} {s : State} {e : Nat} (h : Accounted s.view s.ij e)
    (hk : s.view.state k = some .active ∨ s.view.state k = some .draining) :
    Accounted (parkContext k s).view (parkContext k s).ij e := by
  obtain ⟨hone, hwait, hpend⟩ := h.toBalanced.of_runs hk
  have hsome : ∃ x, s.view.state k = some x := by rcases hk with hk | hk <;> exact ⟨_, hk⟩
  obtain ⟨x, hx⟩ := hsome
  have hstate : ∀ i, (s.view.enter k .parked).state i = if i = k then some .parked else s.view.state i := fun i => by
    rw [View.enter_state, hx]; rfl
  have hholds : ∀ i, (s.view.enter k .parked).runsOrPends i = if i = k then 0 else s.view.runsOrPends i := fun i => by
    unfold View.runsOrPends View.runCount
    rw [hstate, View.enter_activation]
    split
    · rename_i e; subst e; rw [hpend]; rfl
    · rfl
  have hparked : ∀ d ∈ s.ij.deferred, d.activated = none → (s.view.enter k .parked).state d.slot = some .parked :=
    fun d hd hn => by
      rw [hstate]; split
      · rfl
      · exact h.parked d hd hn
  rw [parkContext_view]
  unfold parkContext
  split
  · rename_i hc
    have : s.view.state k = none := by rw [← slotState_eq_view, slotState, hc]; rfl
    rw [hx] at this; cases this
  · rename_i c hc
    unfold contextRecord
    split
    · rename_i hnow
      have hnil : s.ij.deferred = [] := List.isEmpty_iff.mp (Bool.and_eq_true_iff.mp hnow).1
      have hpaid := h.toBalanced.consume (w := s.view.enter k .parked) (k := k) (job := c.job) (stamp := s.wpu.cycle)
        (b := .jobSuspended) s.ij.deferred rfl hone (fun i => by
          rw [hholds]; split
          · rename_i e; subst e; omega
          · rfl) hparked
      exact ⟨hpaid, fun hne => absurd hnil hne⟩
    · rename_i hlater
      refine ⟨⟨h.fits, h.sum, h.covers, fun i => ?_, fun d hd hn => ?_⟩, fun _ => h.waits fun hnil => hlater ?_⟩
      · have hi := h.contexts i
        simp only [modifyContext_ij, waitingFor_append, hholds, true_and, eq_comm (a := k)]
        split
        · rename_i e; subst e; omega
        · exact hi
      · rcases List.mem_append.mp hd with hd | hd
        · exact hparked d hd hn
        · obtain rfl := List.mem_singleton.mp hd
          rw [hstate, if_pos rfl]
      · simp [hnil, contextSpace]

end Sys2Proof.Machine
end

section
/-! PROOFS. What retirement, allocation and the requests between them do to the journal's form and account. -/

namespace Sys2Proof.Machine

/-! ## Retirement -/

/-- A settling that writes at most `n` records: each consumes one of those left of the set's reservation, or merges
(R123 to R129). The account is that of the journal without the retiring set, whose records left are the extra ones. -/
structure Spends (n : Nat) (a b : Settling) : Prop where
  view : b.state.view = a.state.view
  form : a.state.ij.sound → b.state.ij.sound
  account : ∀ (v : View) (m : Nat), n + m ≤ a.left → Accounted v a.state.ij a.left →
    Accounted v b.state.ij b.left ∧ m ≤ b.left

namespace Spends

theorem refl (n : Nat) (a : Settling) : Spends n a a := ⟨rfl, id, fun _ _ hm h => ⟨h, by omega⟩⟩

theorem trans {m n : Nat} {a b c : Settling} (h : Spends m a b) (g : Spends n b c) : Spends (m + n) a c where
  view := g.view.trans h.view
  form := g.form ∘ h.form
  account v l hl hv := by
    obtain ⟨hb, hn⟩ := h.account v (n + l) (by omega) hv
    exact g.account v l hn hb

theorem foldl {α : Type} {g : Settling → α → Settling} {cost : α → Nat} (h : ∀ a x, Spends (cost x) a (g a x)) (l : List α)
    (a : Settling) : Spends (l.map cost).sum a (l.foldl g a) := by
  induction l generalizing a with
  | nil => exact refl 0 a
  | cons x l ih => rw [List.map_cons, List.sum_cons]; exact (h a x).trans (ih _)

theorem then_aside {n : Nat} {a b : Settling} (h : Spends n a b) {t : State} (ht : Aside b.state t) :
    Spends n a { b with state := t } where
  view := ht.1.trans h.view
  form hs := by simpa only [ht.2] using h.form hs
  account v m hm hv := by simpa only [ht.2] using h.account v m hm hv

end Spends

theorem write_spends (slot : SlotId) (job : Nat) {b : RecordBody} (hb : b.opens) (a : Settling) :
    Spends 1 a (a.write slot job b) := by
  unfold Settling.write journalFromSet
  cases hmerge : a.state.ij.merge slot job b with
  | some j =>
    obtain ⟨t, r, b', -, -, -, -, hj⟩ := Journal.merge_some hmerge
    refine ⟨rfl, Journal.merge_sound hmerge, fun v m hm hv => ⟨?_, by simp; omega⟩⟩
    exact hv.of_journal (Journal.merge_length hmerge) (by rw [hj]) (by rw [hj]) (by rw [hj])
  | none =>
    have hlen := Journal.append_length slot job a.state.wpu.cycle b a.state.ij
    refine ⟨rfl, fun h => Journal.sound_congr rfl rfl rfl (Journal.append_sound hb h), fun v m hm hv => ⟨?_, by simp; omega⟩⟩
    have hsum := hv.sum
    have hfits := hv.fits
    refine ⟨⟨?_, ?_, hv.covers, hv.contexts, hv.parked⟩, fun hne => ?_⟩
    · simp only [hlen]; omega
    · simp only [Journal.append, if_true]; omega
    · have := hv.waits hne
      simp only [Journal.unreserved, hlen] at this ⊢
      omega

theorem issueNumber_spends (slot : SlotId) (q : SeqId) (lane : LaneId) (n : Number) (a : Settling) :
    Spends 1 a (issueNumber slot q lane n a) := by
  unfold issueNumber
  split
  · exact .refl 1 a
  · split
    · exact .refl 1 a
    · extract_lets b w
      have hb : b.opens := by
        simp only [b]
        split
        · exact RecordBody.opens_of_not_run rfl
        · exact fun _ => by simp [RecordBody.count]
        · exact fun _ => by simp [RecordBody.count]
      exact (write_spends slot _ hb a).then_aside (modifySequence_aside ..)

theorem spoilNumber_spends (slot : SlotId) (q : SeqId) (lane : LaneId) (why : Reason) (tag : Cycle) (n : Number)
    (a : Settling) : Spends 1 a (spoilNumber slot q lane why tag n a) := by
  unfold spoilNumber
  split
  · exact .refl 1 a
  · split
    · exact .refl 1 a
    · exact (write_spends slot _ (RecordBody.opens_of_not_run rfl) a).then_aside (modifySequence_aside ..)

theorem ownNumbers_eq (l : List EntryPart) : ownNumbers l = (l.map fun e => if e.own then 1 else 0).sum := by
  induction l with
  | nil => rfl
  | cons e l ih =>
    rw [List.map_cons, List.sum_cons, ← ih]
    simp only [ownNumbers, List.filter_cons]
    split <;> simp [Nat.add_comm]

/-- An entry of the lane writes one record when it carries a number of its own (R120). -/
theorem settleEntry_spends (r : SetRecord) (lane : LaneId) (part : LanePart) (a : Settling) (e : EntryPart) :
    Spends (if e.lane = lane ∧ e.own = true then 1 else 0) a (settleEntry r lane part a e) := by
  generalize hcost : (if e.lane = lane ∧ e.own = true then 1 else 0) = cost
  unfold settleEntry
  split
  · exact .refl cost a
  · rename_i hlane
    split
    · rename_i n q hn _
      have hone : n.origin = .fresh ∨ n.origin = .reprint → cost = 1 := fun ho => by
        rw [← hcost]
        refine if_pos ⟨not_not.mp hlane, ?_⟩
        rcases ho with ho | ho <;> simp [EntryPart.own, EntryPart.number, hn, ho]
      have hspends : ∀ b why, Spends 1 a (if b = true then spoilNumber r.slot q lane why r.tag n a
          else issueNumber r.slot q lane n a) := fun b why => by
        cases b
        · exact issueNumber_spends ..
        · exact spoilNumber_spends ..
      split
      · exact .refl cost a
      · rename_i ho; rw [hone (.inl ho)]; exact hspends ..
      · rename_i ho; rw [hone (.inr ho)]; exact hspends ..
    · exact .refl cost a

theorem settleLane_spends (r : SetRecord) (a : Settling) (lane : LaneId) :
    Spends (r.entries.map fun e => if e.lane = lane ∧ e.own = true then 1 else 0).sum a (settleLane r a lane) := by
  unfold settleLane
  split
  · exact .refl _ a
  · exact .foldl (settleEntry_spends r lane _) r.entries a

/-- Each entry lies in one lane. -/
theorem sum_over_lanes (l : List EntryPart) :
    ((List.finRange 4).map fun lane => (l.map fun e => if e.lane = lane ∧ e.own = true then 1 else 0).sum).sum =
      ownNumbers l := by
  induction l with
  | nil => rfl
  | cons e l ih =>
    have hone : ((List.finRange 4).map fun lane => if e.lane = lane ∧ e.own = true then 1 else 0).sum =
        if e.own = true then 1 else 0 := by
      cases e.own with
      | false => simp
      | true => simp only [and_true]; generalize e.lane = i; revert i; decide
    simp only [List.map_cons, List.sum_cons, List.sum_map_add, hone, ih]
    rw [ownNumbers_eq, ownNumbers_eq, List.map_cons, List.sum_cons]

/-- The lanes of a retiring set write at most one record for each number of its own. -/
theorem settleLanes_spends (r : SetRecord) (a : Settling) :
    Spends (ownNumbers r.entries) a ((List.finRange 4).foldl (settleLane r) a) := by
  rw [← sum_over_lanes]
  exact .foldl (settleLane_spends r) _ a

/-- The view without the sets of a tag. -/
def View.without (t : Cycle) (v : View) : View := { v with sets := v.sets.filter fun a => a.tag != t }

/-- A change of a context beside its state and its suspend flag. -/
theorem modifyContext_state {k : SlotId} {f : Context → Context} (h : ∀ c, (f c).state = c.state) (s : State) :
    (modifyContext k f s).view.state = s.view.state := by
  funext j
  rw [← slotState_eq_view, ← slotState_eq_view, slotState, slotState]
  by_cases hj : j = k
  · subst hj; simp [Function.comp_def, h]
  · simp [updateAt_get_ne _ _ _ _ (Ne.symm hj)]

theorem Accounted.of_states {v w : View} {j : Journal} {e : Nat} (h : Accounted v j e) (hsets : w.sets = v.sets)
    (hact : w.activation = v.activation) (hstate : w.state = v.state) : Accounted w j e :=
  h.of_view hsets (fun k => by simp only [View.runsOrPends, View.runCount, hact, hstate]) fun k hk _ => by
    rw [hstate, hk]

/-- A set leaves the ring: what is left of its reservation returns, and a drained context parks (R125, R172). -/
theorem removeSet_accounted {r : SetRecord} {a : Settling}
    (h : Accounted (a.state.view.without r.tag) a.state.ij a.left) :
    Accounted (removeSet r a).view (removeSet r a).ij 0 := by
  unfold removeSet
  extract_lets state st s1 s2 job s3
  have h1 : s1.view = a.state.view.without r.tag := by
    simp only [State.view, View.without, s1, state, st, List.filter_map]
    rfl
  have hless : Accounted (modifyContext r.slot (fun c => { c with inFlight := c.inFlight - 1 }) s1).view s1.ij (0 + a.left) := by
    rw [Nat.zero_add]
    exact (h1 ▸ h).of_states rfl rfl
      (modifyContext_state (f := fun c => { c with inFlight := c.inFlight - 1 }) (fun _ => rfl) s1)
  have h2 : Accounted s2.view s2.ij 0 := returnReserved_accounted hless
  have hside : Aside s2 s3 := .ite (fun _ => notify_aside ..) fun _ => .refl s2
  have h3 : Accounted s3.view s3.ij 0 := hside.journals.account 0 h2
  split
  · rename_i c hc
    split
    · rename_i hd
      refine (notifyJob_aside ..).journals.account 0 (parkContext_accounted h3 (.inr ?_))
      rw [← slotState_eq_view, slotState, hc, Option.map_some, hd.1]
    · exact h3
  · exact h3

theorem removeSet_form {r : SetRecord} {a : Settling} (h : a.state.ij.sound) : (removeSet r a).ij.sound := by
  unfold removeSet
  extract_lets state st s1 s2 job s3
  have h2 : s2.ij.sound :=
    returnReserved_form a.left (s := modifyContext r.slot (fun c => { c with inFlight := c.inFlight - 1 }) s1) h
  have hside : Aside s2 s3 := .ite (fun _ => notify_aside ..) fun _ => .refl s2
  have h3 : s3.ij.sound := hside.journals.form h2
  split
  · split
    · exact (notifyJob_aside ..).journals.form (parkContext_form r.slot h3)
    · exact h3
  · exact h3

/-- Of the sets of a ring without equal tags, those of one tag are the first that is found. -/
theorem perm_of_tag {α : Type} {f : α → Cycle} {l : List α} (hl : (l.map f).Nodup) {x : α} (hx : x ∈ l) :
    l.Perm (x :: l.filter fun y => f y != f x) := by
  induction l with
  | nil => cases hx
  | cons y l ih =>
    rw [List.map_cons, List.nodup_cons] at hl
    obtain ⟨hy, hl⟩ := hl
    rcases List.mem_cons.mp hx with rfl | hx
    · have hrest : (x :: l).filter (fun y => f y != f x) = l := by
        rw [List.filter_cons_of_neg (by simp)]
        exact List.filter_eq_self.mpr fun z hz => bne_iff_ne.mpr fun e => hy (List.mem_map.mpr ⟨z, hz, e⟩)
      rw [hrest]
    · have hne : f y ≠ f x := fun e => hy (List.mem_map.mpr ⟨x, hx, e.symm⟩)
      rw [List.filter_cons_of_pos (by simpa using hne)]
      exact ((ih hl hx).cons y).trans (.swap ..)

/-- A retiring set's reservation is the extra one once the set is left out of the account. -/
theorem Accounted.without {v : View} {j : Journal} (h : Accounted v j 0) (hv : (v.sets.map SetAccount.tag).Nodup)
    {a : SetAccount} (ha : a ∈ v.sets) : Accounted (v.without a.tag) j a.reservation := by
  have hperm := (perm_of_tag (f := SetAccount.tag) hv ha).map SetAccount.reservation
  refine ⟨⟨h.fits, ?_, fun x hx => h.covers x (List.mem_filter.mp hx).1, h.contexts, h.parked⟩, h.waits⟩
  have hsum := h.sum
  rw [hperm.sum_eq, List.map_cons, List.sum_cons] at hsum
  simp only [View.without]
  omega

/-- A retirement keeps the account while no two sets have one tag. -/
theorem retire_accounted {s : State} (h : Accounted s.view s.ij 0) (htags : (s.st.ring.map SetRecord.tag).Nodup) :
    Accounted (retire s).view (retire s).ij 0 := by
  have hgate : ∀ due, Aside s (gateStep due s) := fun due => gateStep_aside due s
  unfold retire
  split
  · exact (hgate none).journals.account 0 h
  · rename_i r hr
    obtain ⟨hmem, -⟩ := setTagged_some hr
    have hin : r.account ∈ s.view.sets := List.mem_map.mpr ⟨r, hmem, rfl⟩
    have hnodup : (s.view.sets.map SetAccount.tag).Nodup := by
      simp only [State.view, List.map_map]; exact htags
    have hspends := settleLanes_spends r { state := gateStep (some r) s, left := r.reservation }
    refine removeSet_accounted ?_
    rw [hspends.view, (hgate (some r)).1]
    refine (hspends.account _ 0 (h.covers _ hin) ?_).1
    rw [(hgate (some r)).2]
    exact h.without hnodup hin

theorem retire_form {s : State} (h : s.ij.sound) : (retire s).ij.sound := by
  have hgate : ∀ due, (gateStep due s).ij.sound := fun due => (gateStep_aside due s).journals.form h
  unfold retire
  split
  · exact hgate none
  · rename_i r _
    exact removeSet_form ((settleLanes_spends r { state := gateStep (some r) s, left := r.reservation }).form (hgate _))

/-! ## Allocation -/

/-- A filling that uses up at most `n` records of the set's reservation: each of them stays for a number that the set then
carries, or returns (R61 to R64). -/
structure Fills (n : Nat) (a b : Filling) : Prop where
  view : b.state.view = a.state.view
  form : a.state.ij.sound → b.state.ij.sound
  account : ∀ m : Nat, ownNumbers a.parts + (n + m) ≤ a.left → Accounted a.state.view a.state.ij a.left →
    Accounted b.state.view b.state.ij b.left ∧ ownNumbers b.parts + m ≤ b.left

namespace Fills

theorem refl (a : Filling) : Fills 0 a a := ⟨rfl, id, fun m hm h => ⟨h, by omega⟩⟩

theorem trans {m n : Nat} {a b c : Filling} (h : Fills m a b) (g : Fills n b c) : Fills (m + n) a c where
  view := g.view.trans h.view
  form := g.form ∘ h.form
  account l hl hv := by
    obtain ⟨hb, hn⟩ := h.account (n + l) (by omega) hv
    exact g.account l hn hb

theorem foldl {α : Type} {g : Filling → α → Filling} {cost : α → Nat} (h : ∀ a x, Fills (cost x) a (g a x)) (l : List α)
    (a : Filling) : Fills (l.map cost).sum a (l.foldl g a) := by
  induction l generalizing a with
  | nil => exact refl a
  | cons x l ih => rw [List.map_cons, List.sum_cons]; exact (h a x).trans (ih _)

end Fills

theorem ownNumbers_push (l : List EntryPart) (e : EntryPart) :
    ownNumbers (l ++ [e]) = ownNumbers l + if e.own then 1 else 0 := by
  simp [ownNumbers_eq]

/-- A part whose number takes a record, or that carries none of its own. -/
theorem push_fills {n : Nat} {a : Filling} {t : State} (ht : Aside a.state t) (lane : LaneId) (q : Option SeqId)
    (x : EntryState) (hown : ({ lane := lane, sequence := q, state := x } : EntryPart).own = true → 1 ≤ n) :
    Fills n a ({ a with state := t }.push lane q x) where
  view := ht.1
  form := ht.journals.form
  account m hm h := by
    refine ⟨ht.journals.account _ h, ?_⟩
    simp only [Filling.push, ownNumbers_push]
    split
    · rename_i ho; have := hown ho; omega
    · omega

theorem fillFresh_fills (k : SlotId) (lane : LaneId) (q : SeqId) (x : Sequence) (ranges : List Exclusion) (a : Filling) :
    Fills 1 a (fillFresh k lane q x ranges a) := by
  have hstale : ∀ f, Aside a.state (makeStale k q (modifySequence k q f a.state)) := fun f =>
    (modifySequence_aside ..).trans (makeStale_aside ..)
  unfold fillFresh
  split
  · exact push_fills (hstale _) lane _ _ fun _ => Nat.le_refl 1
  · extract_lets s1
    have hside : Aside a.state s1 := hstale _
    have hlatch : ∀ u, Aside u (latchStop .seqExhausted u) := latchStop_aside _
    refine ⟨?_, fun h => ?_, fun m hm h => ⟨?_, ?_⟩⟩
    · exact (hlatch _).1.trans ((returnReserved_view ..).trans hside.1)
    · exact (hlatch _).journals.form (returnReserved_form 1 (hside.journals.form h))
    · refine (hlatch _).journals.account _ (returnReserved_accounted ?_)
      show Accounted s1.view s1.ij (a.left - 1 + 1)
      rw [Nat.sub_add_cancel (by omega)]
      exact hside.journals.account _ h
    · simp only [Filling.push, ownNumbers_push, EntryPart.own, EntryPart.number, Option.any_none, Bool.false_eq_true, if_false]
      omega

theorem fillEntry_fills (k : SlotId) (a : Filling) (e : AllocEntry) :
    Fills (if e.mode.sequence?.isSome then 1 else 0) a (fillEntry k a e) := by
  have hplain : ∀ n q x, ({ lane := e.lane, sequence := q, state := x } : EntryPart).own = false →
      Fills n a (a.push e.lane q x) := fun n q x hx => push_fills (.refl a.state) e.lane q x (by rw [hx]; nofun)
  generalize hcost : (if e.mode.sequence?.isSome then 1 else 0) = cost
  unfold fillEntry
  split
  · exact hplain cost none .blank rfl
  · refine hplain cost none _ ?_
    unfold repeatOf
    split <;> rfl
  · rename_i q rf hmode
    have hone : cost = 1 := by rw [← hcost, hmode]; rfl
    rw [hone]
    split
    · exact hplain 1 (some q) .unnumbered rfl
    · split
      · exact hplain 1 (some q) .unnumbered rfl
      · split
        · exact push_fills (modifySequence_aside ..) _ _ _ fun _ => Nat.le_refl 1
        · exact fillFresh_fills ..

theorem freshCount_eq (l : List AllocEntry) :
    freshCount l = (l.map fun e => if e.mode.sequence?.isSome then 1 else 0).sum := by
  induction l with
  | nil => rfl
  | cons e l ih =>
    rw [List.map_cons, List.sum_cons, ← ih]
    simp only [freshCount, List.filter_cons]
    split <;> simp [Nat.add_comm]

/-- A set is numbered with a reservation that covers the numbers it carries (R59 to R64). -/
theorem numberSet_accounted (k : SlotId) (l : List AllocEntry) {s : State} (h : Accounted s.view s.ij 0) :
    Accounted (numberSet k l s).state.view (numberSet k l s).state.ij (numberSet k l s).left ∧
      ownNumbers (numberSet k l s).parts ≤ (numberSet k l s).left := by
  unfold numberSet
  split
  · rename_i hroom
    have hfills := Fills.foldl (fillEntry_fills k) l
      { state := reserveRecords (freshCount l) s, parts := [], left := freshCount l }
    rw [← freshCount_eq] at hfills
    have hreserved := reserveRecords_accounted h hroom
    rw [Nat.zero_add] at hreserved
    exact hfills.account 0 (by simp [ownNumbers]) hreserved
  · refine ⟨h, ?_⟩
    have hnone : ∀ e : AllocEntry, (degradedPart e).own = false := fun e => by
      simp only [EntryPart.own, EntryPart.number, degradedPart]
      split <;> rename_i hx
      · split at hx <;> cases hx
      · rfl
      · rfl
    simp [ownNumbers_eq, List.map_map, Function.comp_def, hnone]

theorem numberSet_form (k : SlotId) (l : List AllocEntry) {s : State} (h : s.ij.sound) :
    (numberSet k l s).state.ij.sound := by
  unfold numberSet
  split
  · exact (Fills.foldl (fillEntry_fills k) l _).form (reserveRecords_form _ h)
  · exact h

/-- An allocation keeps the account: the set joins the ring with its reservation (R59, R69). -/
theorem allocate_accounted {s : State} (h : Accounted s.view s.ij 0) : Accounted (allocate s).view (allocate s).ij 0 := by
  unfold allocate
  split
  · split
    · exact h
    · rename_i k _ _ _ c _
      obtain ⟨hpaid, hown⟩ := numberSet_accounted k c.list h
      extract_lets a
      change Accounted a.state.view a.state.ij a.left at hpaid
      refine Accounted.of_states (v := { a.state.view with sets := a.state.view.sets ++
        [(newSet k c s.wpu.cycle a.parts a.left).account] }) ⟨⟨hpaid.fits, ?_, ?_, hpaid.contexts, hpaid.parked⟩, hpaid.waits⟩
        ?_ rfl (modifyContext_state (f := fun c => { c with inFlight := c.inFlight + 1 }) (fun _ => rfl) _)
      · have := hpaid.sum
        simp only [List.map_append, List.sum_append, List.map_singleton, List.sum_singleton, SetRecord.account, newSet]
        rw [appendSet_ij]
        omega
      · simp only [List.mem_append, List.mem_singleton]
        rintro x (hx | rfl)
        · exact hpaid.covers x hx
        · exact hown
      · simp only [State.view, appendSet, modifyContext_st, List.map_append, List.map_singleton]
  · exact h

theorem allocate_form {s : State} (h : s.ij.sound) : (allocate s).ij.sound := by
  unfold allocate
  split
  · split
    · exact h
    · rename_i k _ _ _ c _
      exact numberSet_form k c.list h
  · exact h

/-! ## The requests between the two -/

theorem markRead_journals (start n : Nat) (s : State) : Journals s { s with ij := s.ij.markRead start n } where
  view := rfl
  form := Journal.markRead_sound start n
  account _ h := h.of_journal (by simp [Journal.markRead]) rfl rfl rfl

theorem replyWithdrawReprint_journals (sl sq v : Nat) (s : State) : (replyWithdrawReprint sl sq v s).Ensures (Journals s) :=
  ensures_named fun k => ensures_named fun q => ensures_require fun _ => ensures_inState fun c _ =>
  ensures_defined fun x _ => by
    split
    · exact .refl s
    · rename_i e _
      refine ensures_require fun hfree => ?_
      have hside := modifySequence_aside k q (Sequence.withdraw e.value) s
      refine hside.journals.trans (journalUnreserved_journals ?_ (RecordBody.opens_of_not_run rfl))
      have hfree : 1 ≤ s.ij.unreserved := by simpa using hfree
      exact hfree

/-- The requests that a boundary takes: reads, and WITHDRAW_REPRINT (R136, R137), in the order of `replyWithin`. -/
theorem replyWithin_journals {c : Instr} {act : State → Reply} (hc : replyWithin c = some act) (s : State) :
    (act s).Ensures (Journals s) := by
  unfold replyWithin at hc
  split at hc <;> simp only [Option.some.injEq, reduceCtorEq] at hc <;> subst hc
  · refine ensures_named fun _ => ensures_named fun _ => ensures_inState fun _ _ => ?_
    split <;> exact Journals.refl s
  · exact ensures_named fun _ => ensures_named fun _ => ensures_inState fun _ _ => ensures_defined fun _ _ => .refl s
  · refine ensures_named fun _ => ensures_contextPart fun x => ?_
    split
    · exact Journals.refl s
    · split
      · exact Journals.refl s
      · trivial
  · exact Journals.refl s
  · exact Journals.refl s
  · refine ensures_require fun _ => ?_
    split
    · trivial
    · exact markRead_journals ..
  · exact replyWithdrawReprint_journals ..

theorem takeWithin_journals (s : State) (p : PortId) : Journals s (takeWithin s p) := by
  have hport : ∀ (p : PortId) (f : Port → Port) (u : State), Journals s u → Journals s (modifyPort p f u) :=
    fun p f u hu => hu.trans (modifyPort_aside p f u).journals
  rcases takeWithin_cases s p with h | ⟨body, c, act, -, -, ha, h⟩
  · rw [h]; exact .refl s
  · rw [h]
    exact onFrame_ensures hport (fun u hu =>
      serve_ensures hport ((replyWithin_journals ha u).mono fun _ ht => hu.trans ht) hu) (.refl s)

end Sys2Proof.Machine
end

section
/-! PROOFS. A whole boundary: what it keeps of the contexts' and the ring's agreement, and of the journal. -/

namespace Sys2Proof.Machine

/-! ## Changeover and suspension, in the account -/

/-- A context that was ACTIVE and drains keeps its reservation. -/
theorem Accounted.drain {v : View} {j : Journal} {e : Nat} {k : SlotId} (h : Accounted v j e)
    (hk : v.state k = some .active) : Accounted (v.enter k .draining) j e := by
  have hstate : ∀ i, (v.enter k .draining).state i = if i = k then some .draining else v.state i := fun i => by
    rw [View.enter_state, hk]; rfl
  refine h.of_view rfl (fun i => ?_) fun i hi _ => ?_
  · unfold View.runsOrPends View.runCount
    rw [hstate, View.enter_activation]
    split
    · rename_i e; subst e; rw [hk]; rfl
    · rfl
  · rw [hstate, if_neg (by rintro rfl; rw [hk] at hi; cases hi), hi]

/-- A pending context that starts to run keeps its reservation (R146). -/
theorem Accounted.start {v : View} {j : Journal} {e : Nat} {a : Activation} (h : Accounted v j e)
    (ha : v.activation = some a) (hstate : v.state a.slot = some a.origin.state) :
    Accounted (View.enter a.slot .active { v with activation := none }) j e := by
  have hnow : ∀ i, (View.enter a.slot .active { v with activation := none }).state i =
      if i = a.slot then some .active else v.state i := fun i => by
    rw [View.enter_state]
    have : ({ v with activation := none } : View).state = v.state := rfl
    rw [this, hstate]; rfl
  have hbefore : v.runsOrPends a.slot = 1 := by simp [View.runsOrPends, View.runCount_of_origin hstate, ha]
  refine h.of_view rfl (fun i => ?_) fun i hi hw => ?_
  · by_cases hia : i = a.slot
    · subst hia
      rw [hbefore]
      simp [View.runsOrPends, View.runCount, hnow]
    · simp [View.runsOrPends, View.runCount, hnow, hia, ha, Ne.symm hia]
  · rw [hnow]
    split
    · rename_i e; subst e
      have := h.contexts a.slot
      omega
    · exact hi

theorem demote_accounted {k : SlotId} {s : State} (h : Accounted s.view s.ij 0) (hk : s.view.state k = some .active) :
    Accounted (demote k s).view (demote k s).ij 0 := by
  unfold demote
  split
  · exact h
  · split
    · rw [enter_view]; exact h.drain hk
    · exact parkContext_accounted h (.inl hk)

theorem demote_form (k : SlotId) {s : State} (h : s.ij.sound) : (demote k s).ij.sound := by
  unfold demote
  split
  · exact h
  · split
    · exact h
    · exact parkContext_form k h

theorem notifyDemoted_aside (k : SlotId) (s : State) : Aside s (notifyDemoted k s) := notifyJob_aside ..

/-- A changeover keeps the account: the reservation of the activation becomes that of the run (R146, R169). -/
theorem changeover_accounted {s : State} (h : Accounted s.view s.ij 0)
    (hpend : ∀ a : Activation, s.activation = some a → slotState s a.slot = some a.origin.state) :
    Accounted (changeover s).view (changeover s).ij 0 := by
  unfold changeover
  split
  · exact h
  · rename_i a ha
    have hstate := hpend a ha
    split
    · split
      · rename_i hnone
        rw [slotState, hnone] at hstate; cases hstate
      · rename_i c hc
        extract_lets old s1 s2 s3 s4
        have h1 : Accounted s1.view s1.ij 0 := by
          simp only [s1, enter_view]
          exact h.start ha (by rw [← slotState_eq_view]; exact hstate)
        have h2 : Journals s1 s2 := contextRecord_journals rfl s1
        have h3 : Accounted s3.view s3.ij 0 := by
          simp only [s3]
          cases hold : old with
          | none => exact h2.account 0 h1
          | some k =>
            obtain ⟨hactive, hne⟩ := Option.filter_eq_some_iff.mp hold
            refine demote_accounted (h2.account 0 h1) ?_
            rw [h2.view, enter_view, View.enter_state, if_neg (by simpa using hne)]
            have hk := activeSlot_some hactive
            rw [slotState_eq_view] at hk
            exact hk
        have h4 := (notifyJob_aside a.slot (some c.job) (some a.origin.state) (some .active) s3).journals.account 0 h3
        cases old with
        | none => exact h4
        | some k => exact (notifyDemoted_aside k _).journals.account 0 h4
    · exact h

theorem changeover_form {s : State} (h : s.ij.sound) : (changeover s).ij.sound := by
  unfold changeover
  split
  · exact h
  · split
    · split
      · exact h
      · extract_lets old s1 s2 s3 s4
        have h2 : s2.ij.sound := contextRecord_form _ h
        have h3 : s3.ij.sound := by
          simp only [s3]
          cases old with
          | none => exact h2
          | some k => exact demote_form k h2
        have h4 : s4.ij.sound := (notifyJob_aside ..).journals.form h3
        cases old with
        | none => exact h4
        | some k => exact (notifyDemoted_aside k _).journals.form h4
    · exact h

theorem suspension_accounted {s : State} (h : Accounted s.view s.ij 0) :
    Accounted (suspension s).view (suspension s).ij 0 := by
  unfold suspension
  split
  · exact h
  · rename_i k hk
    have hactive := activeSlot_some hk
    rw [slotState_eq_view] at hactive
    split
    · exact h
    · split
      · refine (notifyJob_aside ..).journals.account 0 ?_
        rw [enter_view]
        exact h.drain hactive
      · exact h

theorem takeAll_journals (l : List PortId) (s : State) : Journals s (l.foldl takeWithin s) := .foldl takeWithin_journals l s

/-- The tags of the ring after an allocation, while no set bears the present cycle's. -/
theorem allocate_tags {s : State} (h : (s.st.ring.map SetRecord.tag).Nodup) (hnew : ∀ r ∈ s.st.ring, r.tag ≠ s.wpu.cycle) :
    ((allocate s).st.ring.map SetRecord.tag).Nodup := by
  rcases allocate_cases s with e | ⟨k, c, r, -, -, hr, hst, -⟩
  · rw [e]; exact h
  · rw [hst]
    simp only [List.map_append, List.map_singleton, hr.tag]
    refine List.nodup_append.mpr ⟨h, List.nodup_singleton _, fun x hx y hy => ?_⟩
    obtain ⟨q, hq, rfl⟩ := List.mem_map.mp hx
    rw [List.mem_singleton.mp hy]
    exact hnew q hq

/-- The Set Tracker keeps the account at a boundary. -/
theorem trackBoundary_accounted (o : BoundaryOrder) {s : State} (h : Accounted s.view s.ij 0)
    (hpend : ∀ a : Activation, s.activation = some a → slotState s a.slot = some a.origin.state)
    (htags : (s.st.ring.map SetRecord.tag).Nodup) (hnew : ∀ r ∈ s.st.ring, r.tag ≠ s.wpu.cycle) :
    Accounted (trackBoundary o s).view (trackBoundary o s).ij 0 := by
  have hturn := suspension_accounted (changeover_accounted h hpend)
  have hst := turn_st s
  unfold trackBoundary
  extract_lets s1
  change Accounted s1.view s1.ij 0 at hturn
  change s1.st = s.st at hst
  split
  · exact allocate_accounted ((takeAll_journals ..).account 0 (retire_accounted hturn (by rw [hst]; exact htags)))
  · refine retire_accounted ((takeAll_journals ..).account 0 (allocate_accounted hturn)) ?_
    rw [takeAll_st]
    refine allocate_tags (by rw [hst]; exact htags) ?_
    rw [hst, show s1.wpu.cycle = s.wpu.cycle from turn_cycle s]
    exact hnew

theorem trackBoundary_form (o : BoundaryOrder) {s : State} (h : s.ij.sound) : (trackBoundary o s).ij.sound := by
  have hturn : (suspension (changeover s)).ij.sound := by rw [suspension_ij]; exact changeover_form h
  unfold trackBoundary
  simp only []
  split
  · exact allocate_form ((takeAll_journals ..).form (retire_form hturn))
  · exact retire_form ((takeAll_journals ..).form (allocate_form hturn))

/-! ## The contexts and the ring -/

/-- What `RunSound` says of a state whose cycle counter a boundary has just raised: every set is a cycle older. -/
structure View.Opened (v : View) : Prop extends View.Agrees v where
  ordered : (v.sets.map fun a => v.age a.tag).Pairwise fun a b => b < a
  ages : ∀ a ∈ v.sets, 1 ≤ v.age a.tag ∧ v.age a.tag ≤ v.gateLag

theorem View.Agrees.gateLag_le {v : View} (h : v.Agrees) : v.gateLag ≤ 127 := by
  rcases h.lags with ⟨-, -, hg⟩ | ⟨-, -, -, hg⟩ <;> omega

/-- A boundary's count makes every set a cycle older (R32, R51). -/
theorem View.Aged.opened {v : View} (h : v.Agrees) (g : v.Aged) : View.Opened { v with cycle := v.cycle + 1 } := by
  have hlag := h.gateLag_le
  have hage : ∀ a ∈ v.sets, View.age { v with cycle := v.cycle + 1 } a.tag = v.age a.tag + 1 := fun a ha => by
    have hyoung := g.young a ha
    unfold View.age at hyoung ⊢
    bv_omega
  refine ⟨⟨h.oneActive, h.oneDraining, h.suspended, h.draining, h.pending, h.lags, h.fitted, h.owned, h.counted⟩, ?_, ?_⟩
  · rw [List.map_congr_left hage]
    have hold := List.pairwise_map.mp g.ordered
    exact List.pairwise_map.mpr (hold.imp fun hlt => by omega)
  · intro a ha
    rw [hage a ha]
    have := g.young a ha
    exact ⟨by omega, this⟩

theorem boundary_opened {s : State} (h : RunSound s) (k : Opening) (pos : Nat) :
    ({ s with wpu := s.wpu.openCycle k pos, choices := s.choices + 1 } : State).view.Opened := by
  obtain ⟨hagrees, haged⟩ := (runSound_iff s).mp h
  exact haged.opened hagrees

section
variable {s : State} (h : s.view.Opened)
include h

theorem View.Opened.tags : (s.st.ring.map SetRecord.tag).Nodup := by
  have hages : ((s.view.sets.map SetAccount.tag).map s.view.age).Nodup := by
    rw [List.map_map]
    exact h.ordered.imp fun hlt => Nat.ne_of_gt hlt
  have := hages.of_map
  simp only [State.view, List.map_map] at this
  exact this

theorem View.Opened.age {r : SetRecord} (hr : r ∈ s.st.ring) : 1 ≤ tagAge s r.tag ∧ tagAge s r.tag ≤ s.st.gateLag :=
  h.ages r.account (List.mem_map.mpr ⟨r, hr, rfl⟩)

theorem View.Opened.tag_ne_cycle {r : SetRecord} (hr : r ∈ s.st.ring) : r.tag ≠ s.wpu.cycle := fun e => by
  have := (h.age hr).1
  simp [tagAge, e] at this

theorem View.Opened.ready : BoundaryReady s where
  oneActive := by simpa only [slotState_eq_view] using h.oneActive
  pending a ha := by rw [slotState_eq_view]; exact (h.pending a ha).1
  suspended k c hc hs := by
    obtain ⟨x, hx, rfl⟩ := standing_eq_some.mp hc
    exact (h.suspended k _ (course_of_some hx) hs).2.1
  draining k c hc hd := by
    obtain ⟨x, hx, rfl⟩ := standing_eq_some.mp hc
    exact h.draining k _ (course_of_some hx) hd
  counted k c hc := by
    obtain ⟨x, hx, rfl⟩ := standing_eq_some.mp hc
    exact (h.counted k _ (course_of_some hx)).trans (setsOf_eq_view s k).symm
  tags := h.tags
  lags hrun := by
    have hmerge := h.fitted (by rwa [← nothingRuns_iff])
    have hlags := h.lags
    simp only [State.view] at hmerge hlags
    omega

end

/-- Where contexts stand once a boundary has settled them: none waits to be suspended, and each counts its sets (R158,
R171). -/
def Tallied (s : State) : Prop :=
  ∀ (k : SlotId) (c : Standing), standing s k = some c → c.suspend = false ∧ c.inFlight = setsOf k s

theorem Tallied.congr {s t : State} (h : Tallied s) (hstand : standing t = standing s) (hst : t.st = s.st) : Tallied t := by
  intro k c hc
  rw [setsOf, hst]
  exact h k c (hstand ▸ hc)

@[simp] theorem Standing.leave_inFlight (c : Standing) : c.leave.inFlight = c.inFlight - 1 := by
  unfold Standing.leave; split <;> rfl

theorem Standing.leave_suspend {c : Standing} (h : c.suspend = false) : c.leave.suspend = false := by
  unfold Standing.leave
  split
  · rfl
  · exact h

/-- A retirement takes the due set out of its slot's sets. -/
theorem setsOf_retire {s : State} (h : (s.st.ring.map SetRecord.tag).Nodup) (k : SlotId) :
    setsOf k s = setsOf k (retire s) + if dueIn s k then 1 else 0 := by
  have hring : setsOf k (retire s) = ((stay s).filter fun r => r.slot == k).length := by rw [setsOf, retire_ring]
  rw [hring, dueIn]
  cases hdue : setTagged s (dueTag s) with
  | none =>
    have hall : stay s = s.st.ring := List.filter_eq_self.mpr fun r hr => bne_iff_ne.mpr (setTagged_none hdue r hr)
    rw [hall]; rfl
  | some r =>
    obtain ⟨hmem, htag⟩ := setTagged_some hdue
    have hperm := (perm_of_tag (f := SetRecord.tag) h hmem).filter fun r => r.slot == k
    rw [setsOf, hperm.length_eq, htag, List.filter_cons]
    simp only [Option.any_some]
    split
    · rfl
    · rfl

theorem retire_tallied {s : State} (h : Tallied s) (htags : (s.st.ring.map SetRecord.tag).Nodup) : Tallied (retire s) := by
  intro k c hc
  rw [retire_standing_at, Option.map_eq_some_iff] at hc
  obtain ⟨x, hx, rfl⟩ := hc
  obtain ⟨hsuspend, hcount⟩ := h k x hx
  rw [setsOf_retire htags] at hcount
  cases hdue : dueIn s k with
  | false => exact ⟨hsuspend, by simpa [hdue] using hcount⟩
  | true => exact ⟨Standing.leave_suspend hsuspend, by simp [hdue] at hcount ⊢; omega⟩

theorem allocate_tallied {s : State} (h : Tallied s) : Tallied (allocate s) := by
  rcases allocate_cases s with e | ⟨j, d, r, -, hd, hr, hst, hstand⟩
  · rw [e]; exact h
  · intro k c hc
    have hsets : setsOf k (allocate s) = setsOf k s + if r.slot == k then 1 else 0 := by
      rw [setsOf, hst]
      simp only [List.filter_append, List.length_append, List.filter_cons, List.filter_nil]
      split <;> rfl
    rw [hsets, hr.slot]
    rw [hstand] at hc
    by_cases hk : k = j
    · subst hk
      rw [Function.update_self, Option.some.injEq] at hc
      subst hc
      obtain ⟨hsuspend, hcount⟩ := h k d hd
      exact ⟨hsuspend, by simp [hcount]⟩
    · rw [Function.update_of_ne hk] at hc
      obtain ⟨hsuspend, hcount⟩ := h k c hc
      exact ⟨hsuspend, by simp [hcount, Ne.symm hk]⟩

/-- After changeover and suspension no context is to be suspended. -/
theorem View.Opened.turn_tallied {s : State} (h : s.view.Opened) : Tallied (suspension (changeover s)) := by
  intro k c hc
  have hsets : Machine.setsOf k (suspension (changeover s)) = Machine.setsOf k s := by
    rw [Machine.setsOf, Machine.setsOf, turn_st]
  rw [hsets]
  obtain ⟨hruns, hnot⟩ := h.ready.turn k
  by_cases hr : Runs s k
  · rw [hruns hr, Option.map_eq_some_iff] at hc
    obtain ⟨x, hx, rfl⟩ := hc
    exact ⟨rfl, h.ready.counted k x hx⟩
  · rw [hnot hr, Option.map_eq_some_iff] at hc
    obtain ⟨x, hx, rfl⟩ := hc
    have hcount := h.ready.counted k x hx
    by_cases ha : x.state = .active
    · rw [Standing.giveWay_active ha]
      exact ⟨rfl, hcount⟩
    · rw [Standing.giveWay_other ha]
      refine ⟨?_, hcount⟩
      obtain ⟨y, hy, rfl⟩ := standing_eq_some.mp hx
      by_contra hs
      exact ha (h.suspended k _ (course_of_some hy) (Bool.eq_true_of_not_eq_false hs)).1

theorem View.Opened.track_tallied {s : State} (h : s.view.Opened) (o : BoundaryOrder) : Tallied (trackBoundary o s) := by
  have hturn := h.turn_tallied
  have hst := turn_st s
  have htags : ((suspension (changeover s)).st.ring.map SetRecord.tag).Nodup := by rw [hst]; exact h.tags
  unfold trackBoundary
  simp only []
  split
  · exact allocate_tallied ((retire_tallied hturn htags).congr (takeAll_standing ..) (takeAll_st ..))
  · refine retire_tallied ((allocate_tallied hturn).congr (takeAll_standing ..) (takeAll_st ..)) ?_
    rw [takeAll_st]
    refine allocate_tags htags ?_
    rw [hst, turn_cycle]
    exact fun r hr => h.tag_ne_cycle hr

/-- A boundary leaves the lags. -/
theorem trackBoundary_lags (o : BoundaryOrder) (s : State) :
    (trackBoundary o s).st.merge = s.st.merge ∧ (trackBoundary o s).st.inspect = s.st.inspect ∧
      (trackBoundary o s).st.gateLag = s.st.gateLag := by
  have hallocate : ∀ u : State, (allocate u).st.merge = u.st.merge ∧ (allocate u).st.inspect = u.st.inspect ∧
      (allocate u).st.gateLag = u.st.gateLag := fun u => by
    rcases allocate_cases u with e | ⟨k, c, r, -, -, -, hst, -⟩
    · rw [e]; exact ⟨rfl, rfl, rfl⟩
    · rw [hst]; exact ⟨rfl, rfl, rfl⟩
  have hturn := turn_st s
  unfold trackBoundary
  simp only []
  split
  · obtain ⟨hm, hi, hg⟩ := hallocate (o.requests.foldl takeWithin (retire (suspension (changeover s))))
    rw [hm, hi, hg, takeAll_st, retire_st, hturn]
    exact ⟨rfl, rfl, rfl⟩
  · obtain ⟨hm, hi, hg⟩ := hallocate (suspension (changeover s))
    rw [retire_st]
    simp only [takeAll_st, hm, hi, hg, hturn, and_self]

section
variable {s : State} (h : s.view.Opened) (o : BoundaryOrder)
include h

/-- After the Set Tracker's boundary the ACTIVE context is the one that runs. -/
theorem View.Opened.track_active (k : SlotId) : slotState (trackBoundary o s) k = some .active ↔ Runs s k := by
  obtain ⟨hnone, hsome⟩ := h.ready.track_slotState o k
  refine ⟨fun ha => ?_, fun hr => ?_⟩
  · by_contra hr
    cases hc : standing s k with
    | none => rw [hnone hc] at ha; cases ha
    | some c =>
      obtain ⟨-, hleaves, hrests⟩ := hsome c hc
      by_cases hrun : c.state = .active ∨ c.state = .draining
      · rw [hleaves hr hrun] at ha
        split at ha <;> cases ha
      · rw [not_or] at hrun
        rw [hrests hr hrun.1 hrun.2, Option.some.injEq] at ha
        exact hrun.1 ha
  · obtain ⟨c, hc⟩ := h.ready.standing_of_runs hr
    exact (hsome c hc).1 hr

/-- After the Set Tracker's boundary a context drains that was ACTIVE or DRAINING, does not run and keeps a set. -/
theorem View.Opened.track_draining {k : SlotId} (hd : slotState (trackBoundary o s) k = some .draining) :
    ¬Runs s k ∧ (slotState s k = some .active ∨ slotState s k = some .draining) ∧
      (stay s).any (fun r => r.slot == k) = true := by
  obtain ⟨hnone, hsome⟩ := h.ready.track_slotState o k
  cases hc : standing s k with
  | none => rw [hnone hc] at hd; cases hd
  | some c =>
    obtain ⟨hruns, hleaves, hrests⟩ := hsome c hc
    have hr : ¬Runs s k := fun hr => by rw [hruns hr] at hd; cases hd
    have hstate : slotState s k = some c.state := by rw [slotState_eq, hc]; rfl
    by_cases hrun : c.state = .active ∨ c.state = .draining
    · rw [hleaves hr hrun] at hd
      refine ⟨hr, hrun.imp (fun e => hstate.trans (congrArg some e)) fun e => hstate.trans (congrArg some e), ?_⟩
      by_contra hany
      rw [if_neg hany] at hd; cases hd
    · rw [not_or] at hrun
      rw [hrests hr hrun.1 hrun.2, Option.some.injEq] at hd
      exact absurd hd hrun.2

/-- An ACTIVE context that gives way leaves none DRAINING beside it (R159, R170). -/
theorem View.Opened.alone {i : SlotId} (hr : ¬Runs s i) (ha : slotState s i = some .active) (j : SlotId) :
    slotState s j ≠ some .draining := by
  intro hj
  rw [slotState_eq_view] at hj
  obtain ⟨x, hx, hxa⟩ := Option.map_eq_some_iff.mp ha
  by_cases hcome : ∃ k, Comes s k
  · obtain ⟨k, a, hact, -, -⟩ := hcome
    rw [slotState_eq_view] at ha
    exact (h.pending a hact).2 j i hj ha
  · have hflag : x.suspend = true := by
      by_contra hs
      exact hr (.inr ⟨fun k hk => hcome ⟨k, hk⟩, _, standing_of_some hx, hxa, Bool.eq_false_iff.mpr hs⟩)
    exact (h.suspended i _ (course_of_some hx) hflag).2.2 j hj

/-- The sets of the ring after the Set Tracker's boundary: those that stay, and one that the running context gains. -/
theorem View.Opened.track_ring : (trackBoundary o s).st.ring = stay s ∨
    ∃ (k : SlotId) (r : SetRecord), Runs s k ∧ r.tag = s.wpu.cycle ∧ r.slot = k ∧
      (trackBoundary o s).st.ring = stay s ++ [r] := by
  cases ho : s.st.runOpen with
  | false => exact .inl (h.ready.track_closed o (.inl ho))
  | true =>
    by_cases hrun : ∃ k, Runs s k
    · obtain ⟨k, hr⟩ := hrun
      obtain ⟨c, hc⟩ := h.ready.standing_of_runs hr
      obtain ⟨r, hfresh, hring⟩ := h.ready.track_opened o ho hr hc
      exact .inr ⟨k, r, hr, hfresh.tag, hfresh.slot, hring⟩
    · exact .inl (h.ready.track_closed o (.inr fun k hk => hrun ⟨k, hk⟩))

/-- A set that stays is younger than the gate lag (R120). -/
theorem View.Opened.stay_young {r : SetRecord} (hr : r ∈ stay s) : tagAge s r.tag < s.st.gateLag := by
  obtain ⟨hmem, hkept⟩ := List.mem_filter.mp hr
  obtain ⟨-, hle⟩ := h.age hmem
  refine lt_of_le_of_ne hle fun e => (bne_iff_ne.mp hkept) ?_
  have hlag : s.st.gateLag ≤ 127 := h.gateLag_le
  unfold tagAge at e
  unfold dueTag
  rw [← e]
  bv_omega

/-- The slots that run or drain after the boundary ran or drained before it, or an activation was pending. -/
theorem View.Opened.not_nothingRuns (hrun : ¬NothingRuns (trackBoundary o s)) : ¬NothingRuns s := by
  intro hnothing
  refine hrun ⟨fun k => ⟨fun ha => ?_, fun hd => ?_⟩, ?_⟩
  · exact ((h.track_active o k).mp ha).not_nothingRuns hnothing
  · rcases (h.track_draining o hd).2.1 with e | e
    · exact (hnothing.1 k).1 e
    · exact (hnothing.1 k).2 e
  · rw [trackBoundary_activation]
    rw [changeover_of_none fun i ⟨a, ha, _⟩ => by rw [hnothing.2] at ha; cases ha]
    exact hnothing.2

/-- The owner of a set that stays runs or drains after the boundary. -/
theorem View.Opened.track_owned {r : SetRecord} (hr : r ∈ stay s) :
    slotState (trackBoundary o s) r.slot = some .active ∨ slotState (trackBoundary o s) r.slot = some .draining := by
  by_cases hruns : Runs s r.slot
  · exact .inl ((h.track_active o _).mpr hruns)
  · have howned := h.owned r.account (List.mem_map.mpr ⟨r, (List.mem_filter.mp hr).1, rfl⟩)
    simp only [← slotState_eq_view] at howned
    obtain ⟨c, hc, hrun⟩ : ∃ c, standing s r.slot = some c ∧ (c.state = .active ∨ c.state = .draining) := by
      rcases howned with e | e <;>
      · rw [show r.account.slot = r.slot from rfl, slotState_eq, Option.map_eq_some_iff] at e
        obtain ⟨c, hc, he⟩ := e
        exact ⟨c, hc, by simp [he]⟩
    right
    rw [((h.ready.track_slotState o r.slot).2 c hc).2.1 hruns hrun, if_pos]
    exact List.any_eq_true.mpr ⟨r, hr, by simp⟩

end

/-- The Set Tracker's boundary makes a sound state of one whose cycle counter has been raised. -/
theorem View.Opened.track_runSound {s : State} (h : s.view.Opened) (o : BoundaryOrder) : RunSound (trackBoundary o s) := by
  have htally := h.track_tallied o
  have hcycle : (trackBoundary o s).wpu = s.wpu := trackBoundary_wpu o s
  have hage : ∀ t, tagAge (trackBoundary o s) t = tagAge s t := fun t => by rw [tagAge, tagAge, hcycle]
  obtain ⟨hmerge, hinspect, hgate⟩ := trackBoundary_lags o s
  have hring := h.track_ring o
  have hone : ∀ i j : SlotId, slotState s i = some .active → slotState s j = some .active → i = j := h.ready.oneActive
  have hdrain : ∀ i j : SlotId, slotState s i = some .draining → slotState s j = some .draining → i = j := by
    simpa only [slotState_eq_view] using h.oneDraining
  have hordered : (s.st.ring.map fun r => tagAge s r.tag).Pairwise fun a b => b < a := by
    have := h.ordered
    simp only [State.view, List.map_map] at this
    exact this
  have hstayOrdered : ((stay s).map fun r => tagAge s r.tag).Pairwise fun a b => b < a :=
    hordered.sublist (List.filter_sublist.map _)
  refine ⟨fun i j hi hj => ?_, fun i j hi hj => ?_, fun k c hc hs => ?_, fun k c hc hd => ?_, fun a ha => ?_, ?_, fun hrun => ?_,
    fun r hr => ?_, fun k c hc => (htally k _ (standing_of_some hc)).2, ?_, fun r hr => ?_⟩
  · exact h.ready.runs_unique ((h.track_active o i).mp hi) ((h.track_active o j).mp hj)
  · obtain ⟨hri, hsi, -⟩ := h.track_draining o hi
    obtain ⟨hrj, hsj, -⟩ := h.track_draining o hj
    rcases hsi with hsi | hsi <;> rcases hsj with hsj | hsj
    · exact hone i j hsi hsj
    · exact absurd hsj (h.alone hri hsi j)
    · exact absurd hsi (h.alone hrj hsj i)
    · exact hdrain i j hsi hsj
  · have hs' : c.suspend = false := (htally k _ (standing_of_some hc)).1
    rw [hs] at hs'; cases hs'
  · have hstate : slotState (trackBoundary o s) k = some .draining := by rw [slotState, hc, Option.map_some, hd]
    obtain ⟨-, -, hany⟩ := h.track_draining o hstate
    have hcount : c.inFlight = Machine.setsOf k (trackBoundary o s) := (htally k _ (standing_of_some hc)).2
    rw [stay_any, decide_eq_true_eq] at hany
    rw [hcount, Machine.setsOf]
    rcases hring with e | ⟨i, r, -, -, -, e⟩ <;> rw [e]
    · exact hany
    · rw [List.filter_append, List.length_append]; omega
  · rw [trackBoundary_activation] at ha
    have hno : ∀ i, ¬Comes s i := fun i hi => by rw [changeover_activation_of_comes hi] at ha; cases ha
    rw [changeover_of_none hno] at ha
    obtain ⟨hstate, hnone⟩ := h.pending a ha
    simp only [← slotState_eq_view] at hstate hnone
    refine ⟨?_, fun i j hi hj => ?_⟩
    · obtain ⟨c, hc, he⟩ := Option.map_eq_some_iff.mp ((slotState_eq s a.slot).symm.trans hstate)
      have hidle : c.state ≠ .active ∧ c.state ≠ .draining := by rw [he]; cases a.origin <;> decide
      have hr : ¬Runs s a.slot := fun hr => by
        rcases hr with hr | ⟨-, d, hd, hda, -⟩
        · exact hno _ hr
        · rw [hc, Option.some.injEq] at hd; subst hd; exact hidle.1 hda
      rw [((h.ready.track_slotState o a.slot).2 c hc).2.2 hr hidle.1 hidle.2, he]
    · obtain ⟨hri, hsi, -⟩ := h.track_draining o hi
      have hja : slotState s j = some .active := by
        rcases (h.track_active o j).mp hj with hr | ⟨-, d, hd, hda, -⟩
        · exact absurd hr (hno j)
        · rw [slotState_eq, hd, Option.map_some, hda]
      rcases hsi with hsi | hsi
      · obtain rfl := hone i j hsi hja
        exact hri ((h.track_active o i).mp hj)
      · exact hnone i j hsi hja
  · rw [hmerge, hinspect, hgate]; exact h.lags
  · rw [hmerge]
    exact h.fitted (by rw [← nothingRuns_iff]; exact h.not_nothingRuns o hrun)
  · rcases hring with e | ⟨k, q, hruns, -, hslot, e⟩ <;> rw [e] at hr
    · exact h.track_owned o hr
    · rcases List.mem_append.mp hr with hr | hr
      · exact h.track_owned o hr
      · obtain rfl := List.mem_singleton.mp hr
        exact .inl ((h.track_active o _).mpr (hslot ▸ hruns))
  · simp only [hage]
    rcases hring with e | ⟨k, q, -, htag, -, e⟩ <;> rw [e]
    · exact hstayOrdered
    · rw [List.map_append, List.pairwise_append]
      refine ⟨hstayOrdered, List.pairwise_singleton .., fun x hx y hy => ?_⟩
      obtain ⟨r, hr, rfl⟩ := List.mem_map.mp hx
      simp only [List.map_singleton, List.mem_singleton] at hy
      have hzero : tagAge s q.tag = 0 := by simp [tagAge, htag]
      rw [hy, hzero]
      exact (h.age (List.mem_filter.mp hr).1).1
  · rw [hage, hgate]
    rcases hring with e | ⟨k, q, hruns, htag, -, e⟩ <;> rw [e] at hr
    · exact h.stay_young hr
    · rcases List.mem_append.mp hr with hr | hr
      · exact h.stay_young hr
      · obtain rfl := List.mem_singleton.mp hr
        have hzero : tagAge s r.tag = 0 := by simp [tagAge, htag]
        rw [hzero]
        exact (h.ready.lags hruns.not_nothingRuns).1

end Sys2Proof.Machine
end

section
/-! PROOFS. Every step keeps contexts and ring in agreement, the journal's form, and the account of its records. -/

namespace Sys2Proof.Machine

/-! ## The relation -/

/-- What holds of contexts, ring and journal before a change holds after it. -/
structure Keeps (s t : State) : Prop where
  run : RunSound s → RunSound t
  form : s.ij.sound → t.ij.sound
  space : RunSound s → SpaceSound s → SpaceSound t

namespace Keeps

theorem refl (s : State) : Keeps s s := ⟨id, id, fun _ => id⟩

theorem trans {s t u : State} (h : Keeps s t) (g : Keeps t u) : Keeps s u :=
  ⟨g.run ∘ h.run, g.form ∘ h.form, fun hr hs => g.space (h.run hr) (h.space hr hs)⟩

theorem ite {s t u : State} {b : Prop} [Decidable b] (h : b → Keeps s t) (g : ¬b → Keeps s u) :
    Keeps s (if b then t else u) := by
  split
  · exact h ‹_›
  · exact g ‹_›

end Keeps

theorem Journals.keeps {s t : State} (h : Journals s t) : Keeps s t where
  run hs := by rw [runSound_iff, h.view, ← runSound_iff]; exact hs
  form := h.form
  space _ hs := by rw [spaceSound_iff] at hs ⊢; exact h.account 0 hs

theorem Aside.keeps {s t : State} (h : Aside s t) : Keeps s t := h.journals.keeps

theorem modifyWpu_aside {f : Wpu → Wpu} {s : State} (h : (f s.wpu).cycle = s.wpu.cycle) : Aside s (modifyWpu f s) :=
  .of_eq (hwpu := h)

/-! ## The boundary -/

theorem trackBoundary_keeps_opened (o : BoundaryOrder) {s : State} (h : s.view.Opened) :
    RunSound (trackBoundary o s) ∧ (SpaceSound s → SpaceSound (trackBoundary o s)) := by
  refine ⟨h.track_runSound o, fun hs => ?_⟩
  rw [spaceSound_iff] at hs ⊢
  exact trackBoundary_accounted o hs h.ready.pending h.tags fun r hr => h.tag_ne_cycle hr

/-- In whatever order the blocks take a boundary, the Set Tracker has its turn once, and the others leave contexts, ring and
journal alone. -/
theorem boundaryWork_split (o : BoundaryOrder) (n : Option WebNotice) (s : State) :
    ∃ u, Aside s u ∧ Aside (trackBoundary o u) (boundaryWork o n s) := by
  have hperm := permute_perm o.blocks [Phase.measure, .window, .track, .heads, .webNotice]
  have hnodup := hperm.nodup_iff.mpr (by decide)
  obtain ⟨before, after, hsplit⟩ := List.append_of_mem (hperm.mem_iff.mpr (show Phase.track ∈ _ by decide))
  have hfold : ∀ (l : List Phase) (u : State), (∀ p ∈ l, p ≠ .track) → Aside u (l.foldl (runPhase o n) u) := by
    intro l
    induction l with
    | nil => exact fun u _ => .refl u
    | cons p l ih =>
      exact fun u hl => (runPhase_aside o n u (hl p (List.mem_cons_self ..))).trans
        (ih _ fun q hq => hl q (List.mem_cons_of_mem p hq))
  unfold boundaryWork
  rw [hsplit] at hnodup ⊢
  obtain ⟨-, hlater, hapart⟩ := List.nodup_append.mp hnodup
  refine ⟨before.foldl (runPhase o n) s, hfold before s fun p hp => hapart p hp _ (List.mem_cons_self ..), ?_⟩
  rw [List.foldl_append, List.foldl_cons]
  exact (hfold after _ fun p hp e => (List.nodup_cons.mp hlater).1 (e ▸ hp)).trans (handOver_aside ..)

theorem boundary_keeps (k : Opening) (pos : Nat) (n : Option WebNotice) (s : State) : Keeps s (boundary k pos n s) := by
  let u : State := { s with wpu := s.wpu.openCycle k pos, choices := s.choices + 1 }
  obtain ⟨v, hbefore, hafter⟩ := boundaryWork_split (chosenOrder s) n u
  have hopened : RunSound s → v.view.Opened := fun h => by rw [hbefore.1]; exact boundary_opened h k pos
  refine ⟨fun h => hafter.keeps.run (trackBoundary_keeps_opened _ (hopened h)).1, fun h => ?_, fun h hs => ?_⟩
  · exact hafter.keeps.form (trackBoundary_form _ (hbefore.keeps.form h))
  · have hv : SpaceSound v := by
      rw [spaceSound_iff] at hs ⊢
      rw [hbefore.1, hbefore.2]
      exact hs.of_states rfl rfl rfl
    obtain ⟨hrun, hspace⟩ := trackBoundary_keeps_opened (chosenOrder s) (hopened h)
    exact hafter.keeps.space hrun (hspace hv)

/-! ## Changes of one slot -/

/-- A context takes a new course, or its slot becomes EMPTY. -/
def View.setCourse (k : SlotId) (o : Option Course) (v : View) : View := { v with course := Function.update v.course k o }

theorem View.setCourse_state (k : SlotId) (o : Option Course) (v : View) (i : SlotId) :
    (v.setCourse k o).state i = if i = k then o.map Course.state else v.state i := by
  unfold View.state View.setCourse
  split
  · rename_i e; subst e; simp only [Function.update_self]
  · rename_i e; simp only [Function.update_of_ne e]

theorem View.setCourse_some {k : SlotId} {o : Option Course} {v : View} {i : SlotId} {c : Course}
    (h : (v.setCourse k o).course i = some c) : (i = k ∧ o = some c) ∨ (i ≠ k ∧ v.course i = some c) := by
  by_cases hi : i = k
  · subst hi
    exact .inl ⟨rfl, by simpa [View.setCourse] using h⟩
  · exact .inr ⟨hi, by simpa [View.setCourse, hi] using h⟩

theorem View.Aged.congr {v w : View} (h : v.Aged) (hsets : w.sets = v.sets) (hcycle : w.cycle = v.cycle)
    (hlag : w.gateLag = v.gateLag) : w.Aged := by
  have hage : w.age = v.age := by funext t; rw [View.age, View.age, hcycle]
  refine ⟨?_, ?_⟩
  · rw [hsets, hage]; exact h.ordered
  · rw [hsets, hage, hlag]; exact h.young

/-- A slot that neither runs nor drains has no set (R70). -/
theorem View.Agrees.setsOf_idle {v : View} (h : v.Agrees) {k : SlotId} (ha : v.state k ≠ some .active)
    (hd : v.state k ≠ some .draining) : v.setsOf k = 0 := by
  refine List.length_eq_zero_iff.mpr (List.filter_eq_nil_iff.mpr fun a hmem e => ?_)
  rw [beq_iff_eq] at e
  rcases h.owned a hmem with hs | hs
  · exact ha (e ▸ hs)
  · exact hd (e ▸ hs)

/-- A change of a slot that neither runs nor drains, before or after, and has no activation pending. -/
structure View.IdleChange (v : View) (k : SlotId) (o : Option Course) : Prop where
  notActive : v.state k ≠ some .active
  notDraining : v.state k ≠ some .draining
  notPending : ∀ a : Activation, v.activation = some a → a.slot ≠ k
  after : ∀ c, o = some c → c.state ≠ .active ∧ c.state ≠ .draining ∧ c.suspend = false ∧ c.inFlight = 0

section
variable {v : View} {k : SlotId} {o : Option Course} (g : v.IdleChange k o)
include g

theorem View.IdleChange.active (i : SlotId) : (v.setCourse k o).state i = some .active ↔ v.state i = some .active := by
  rw [View.setCourse_state]
  split
  · rename_i e; subst e
    refine ⟨fun h => ?_, fun h => absurd h g.notActive⟩
    obtain ⟨c, hc, hs⟩ := Option.map_eq_some_iff.mp h
    exact absurd hs (g.after c hc).1
  · rfl

theorem View.IdleChange.draining (i : SlotId) :
    (v.setCourse k o).state i = some .draining ↔ v.state i = some .draining := by
  rw [View.setCourse_state]
  split
  · rename_i e; subst e
    refine ⟨fun h => ?_, fun h => absurd h g.notDraining⟩
    obtain ⟨c, hc, hs⟩ := Option.map_eq_some_iff.mp h
    exact absurd hs (g.after c hc).2.1
  · rfl

theorem View.IdleChange.agrees (h : v.Agrees) : (v.setCourse k o).Agrees where
  oneActive i j := by rw [g.active, g.active]; exact h.oneActive i j
  oneDraining i j := by rw [g.draining, g.draining]; exact h.oneDraining i j
  suspended i c hc hs := by
    rcases View.setCourse_some hc with ⟨-, ho⟩ | ⟨-, hc⟩
    · rw [(g.after c ho).2.2.1] at hs; cases hs
    · simp only [ne_eq, g.draining]
      exact h.suspended i c hc hs
  draining i c hc hd := by
    rcases View.setCourse_some hc with ⟨-, ho⟩ | ⟨-, hc⟩
    · exact absurd hd (g.after c ho).2.1
    · exact h.draining i c hc hd
  pending a ha := by
    obtain ⟨hstate, hnone⟩ := h.pending a ha
    simp only [ne_eq, g.active, g.draining]
    exact ⟨by rw [View.setCourse_state, if_neg (g.notPending a ha), hstate], hnone⟩
  lags := h.lags
  fitted hrun := h.fitted fun hidle => hrun ⟨fun i => by
    rw [ne_eq, ne_eq, g.active, g.draining]; exact hidle.1 i, hidle.2⟩
  owned a ha := by rw [g.active, g.draining]; exact h.owned a ha
  counted i c hc := by
    rcases View.setCourse_some hc with ⟨rfl, ho⟩ | ⟨-, hc⟩
    · exact (g.after c ho).2.2.2.trans (h.setsOf_idle g.notActive g.notDraining).symm
    · exact h.counted i c hc

theorem View.IdleChange.accounted {j : Journal} {e : Nat} (h : Accounted v j e)
    (hp : v.state k = some .parked → j.deferred = []) : Accounted (v.setCourse k o) j e := by
  refine h.of_view rfl (fun i => ?_) fun i hi hw => ?_
  · simp only [View.runsOrPends, View.runCount, g.active, g.draining]; rfl
  · rw [View.setCourse_state, if_neg, hi]
    rintro rfl
    rw [hp hi] at hw
    exact hw rfl

end

/-- A change of such a slot keeps everything, unless a record of a PARKED context waits. -/
theorem Keeps.idle {s t : State} {k : SlotId} {o : Option Course} (hv : t.view = s.view.setCourse k o) (hij : t.ij = s.ij)
    (g : RunSound s → s.view.IdleChange k o) (hp : s.view.state k ≠ some .parked) : Keeps s t where
  run h := by
    obtain ⟨hagrees, haged⟩ := (runSound_iff s).mp h
    rw [runSound_iff, hv]
    exact ⟨(g h).agrees hagrees, haged.congr rfl rfl rfl⟩
  form h := hij ▸ h
  space h hs := by
    rw [spaceSound_iff] at hs ⊢
    rw [hv, hij]
    exact (g h).accounted hs fun e => absurd e hp

/-- A pending slot is in the state it came from, READY or PARKED (R167). -/
theorem View.Agrees.pending_ne {v : View} (h : v.Agrees) {k : SlotId} (hr : v.state k ≠ some .ready)
    (hp : v.state k ≠ some .parked) (a : Activation) (ha : v.activation = some a) : a.slot ≠ k := by
  rintro rfl
  have hstate := (h.pending a ha).1
  cases ho : a.origin <;> rw [ho] at hstate
  · exact hr hstate
  · exact hp hstate

theorem setSlot_view (k : SlotId) (c : Option Context) (s : State) :
    (setSlot k c s).view = s.view.setCourse k (c.map Context.course) := by
  have hcourse : course (setSlot k c s) = Function.update (course s) k (c.map Context.course) := by
    funext i
    by_cases hi : i = k
    · subst hi; simp [course]
    · have hne : (k : Nat) ≠ i := fun e => hi (Fin.ext e.symm)
      simp [course, hi, Vector.getElem_set_ne _ _ hne]
  simp only [State.view, View.setCourse, hcourse, setSlot_activation, setSlot_wpu, setSlot_st]

/-- The context of a slot enters a state beside ACTIVE and DRAINING from one beside these and PARKED (R159). -/
theorem enter_keeps {s : State} {k : SlotId} {c : Context} {j : JobState} (hc : s.slots[k] = some c)
    (hfrom : c.state = .building ∨ c.state = .ready) (hj : j = .building ∨ j = .ready)
    (hn : c.state = .ready → isPendingSlot s k = false) : Keeps s (modifyContext k (Context.enter j) s) := by
  have hcourse := course_of_some hc
  have hstate : s.view.state k = some c.state := by rw [View.state, hcourse]; rfl
  refine .idle (k := k) (o := some (c.course.enter j)) ?_ rfl (fun h => ?_) ?_
  · rw [enter_view, View.enter, hcourse]; rfl
  · have hagrees := ((runSound_iff s).mp h).1
    have ha : s.view.state k ≠ some .active := by rw [hstate]; rcases hfrom with e | e <;> rw [e] <;> decide
    have hd : s.view.state k ≠ some .draining := by rw [hstate]; rcases hfrom with e | e <;> rw [e] <;> decide
    refine ⟨ha, hd, fun a hact e => ?_, fun x hx => ?_⟩
    · rcases hfrom with hb | hr
      · exact hagrees.pending_ne (k := k) (by rw [hstate, hb]; decide) (by rw [hstate, hb]; decide) a hact e
      · have hact : s.activation = some a := hact
        have hpend := hn hr
        simp [isPendingSlot, hact, e] at hpend
    · cases hx
      refine ⟨?_, ?_, rfl, ?_⟩
      · rcases hj with rfl | rfl <;> nofun
      · rcases hj with rfl | rfl <;> nofun
      · exact (hagrees.counted k _ hcourse).trans (hagrees.setsOf_idle ha hd)
  · rw [hstate]; rcases hfrom with e | e <;> rw [e] <;> decide

/-- OPEN_CONTEXT fills an EMPTY slot (R161). -/
theorem open_keeps {s : State} {k : SlotId} (hnone : s.slots[k] = none) (job lanes : Nat) (p : SpoilPolicy) (li : Nat) :
    Keeps s (setSlot k (some (openedContext job lanes p li)) s) := by
  have hstate : s.view.state k = none := by rw [← slotState_eq_view, slotState, hnone]; rfl
  refine .idle (setSlot_view ..) rfl (fun h => ?_) (by rw [hstate]; decide)
  have hagrees := ((runSound_iff s).mp h).1
  refine ⟨by rw [hstate]; decide, by rw [hstate]; decide,
    hagrees.pending_ne (by rw [hstate]; decide) (by rw [hstate]; decide), fun x hx => ?_⟩
  cases hx
  exact ⟨nofun, nofun, rfl, rfl⟩

/-- DISCARD empties a slot in BUILDING (R162). -/
theorem discard_keeps {s : State} {k : SlotId} {c : Context} (hc : s.slots[k] = some c) (hb : c.state = .building) :
    Keeps s (setSlot k none s) := by
  have hstate : s.view.state k = some .building := by rw [← slotState_eq_view, slotState, hc, Option.map_some, hb]
  refine .idle (setSlot_view ..) rfl (fun h => ?_) (by rw [hstate]; decide)
  have hagrees := ((runSound_iff s).mp h).1
  exact ⟨by rw [hstate]; decide, by rw [hstate]; decide,
    hagrees.pending_ne (by rw [hstate]; decide) (by rw [hstate]; decide), fun x hx => by cases hx⟩

/-! ## SUSPEND -/

/-- An ACTIVE context without sets parks (R170). -/
theorem View.Agrees.park {v : View} (h : v.Agrees) {k : SlotId} {c : Course} (hc : v.course k = some c)
    (ha : c.state = .active) (hempty : c.inFlight = 0) : (v.enter k .parked).Agrees := by
  have hk : v.state k = some .active := by rw [View.state, hc, Option.map_some, ha]
  have hstate : ∀ i, (v.enter k .parked).state i = if i = k then some .parked else v.state i := fun i => by
    rw [View.enter_state, hk]; rfl
  have hactive : ∀ i, (v.enter k .parked).state i ≠ some .active := fun i hi => by
    rw [hstate] at hi
    split at hi
    · cases hi
    · rename_i hne; exact hne (h.oneActive i k hi hk)
  have hdraining : ∀ i, (v.enter k .parked).state i = some .draining ↔ v.state i = some .draining := fun i => by
    rw [hstate]
    split
    · rename_i e; subst e; rw [hk]; decide
    · rfl
  have hcourse : ∀ i x, (v.enter k .parked).course i = some x → (i = k ∧ x = c.enter .parked) ∨ v.course i = some x ∧ i ≠ k :=
    fun i x hx => by
      by_cases hi : i = k
      · subst hi; left; simpa [View.enter, hc, eq_comm] using hx
      · right; exact ⟨by simpa [View.enter, hi] using hx, hi⟩
  refine ⟨fun i j hi => absurd hi (hactive i), fun i j => ?_, fun i x hx hs => ?_, fun i x hx hd => ?_, fun a hact => ?_, h.lags,
    fun _ => ?_, fun a hmem => ?_, fun i x hx => ?_⟩
  · rw [hdraining, hdraining]; exact h.oneDraining i j
  · rcases hcourse i x hx with ⟨-, rfl⟩ | ⟨hx, hne⟩
    · cases hs
    · have hi := (h.suspended i x hx hs).1
      exact absurd (h.oneActive i k (by rw [View.state, hx, Option.map_some, hi]) hk) hne
  · rcases hcourse i x hx with ⟨-, rfl⟩ | ⟨hx, -⟩
    · cases hd
    · exact h.draining i x hx hd
  · obtain ⟨horigin, -⟩ := h.pending a hact
    refine ⟨?_, fun i j _ => hactive j⟩
    rw [hstate, if_neg, horigin]
    rintro e
    rw [e, hk, Option.some.injEq] at horigin
    exact a.origin.state_ne_active horigin.symm
  · exact h.fitted fun hidle => (hidle.1 k).1 hk
  · have hne : a.slot ≠ k := fun e => by
      have hnone := List.length_eq_zero_iff.mp ((h.counted k c hc).symm.trans hempty)
      exact List.filter_eq_nil_iff.mp hnone a hmem (by simp [e])
    rw [hstate, if_neg hne]
    exact h.owned a hmem
  · rcases hcourse i x hx with ⟨rfl, rfl⟩ | ⟨hx, -⟩
    · exact h.counted i c hc
    · exact h.counted i x hx

theorem park_keeps {s : State} {k : SlotId} {c : Context} (hc : s.slots[k] = some c) (ha : c.state = .active)
    (hempty : c.inFlight = 0) : Keeps s (parkContext k s) where
  run h := by
    obtain ⟨hagrees, haged⟩ := (runSound_iff s).mp h
    rw [runSound_iff, parkContext_view]
    exact ⟨hagrees.park (course_of_some hc) ha hempty, haged.congr rfl rfl rfl⟩
  form := parkContext_form k
  space _ hs := by
    rw [spaceSound_iff] at hs ⊢
    exact parkContext_accounted hs (.inl (by rw [← slotState_eq_view, slotState, hc, Option.map_some, ha]))

/-- The ACTIVE context is to be suspended, with a set in flight and none DRAINING (R170). -/
theorem flag_keeps {s : State} {k : SlotId} {c : Context} (hc : s.slots[k] = some c) (ha : c.state = .active)
    (hsets : c.inFlight ≠ 0) (hother : otherDraining s k = false) :
    Keeps s (modifyContext k (fun c => { c with suspend := true }) s) := by
  have hcourse := course_of_some hc
  have hview : (modifyContext k (fun c => { c with suspend := true }) s).view =
      s.view.setCourse k (some { c.course with suspend := true }) := by
    have hsome : course s k = some c.course := hcourse
    simp only [State.view, View.setCourse, modifyContext_activation, modifyContext_wpu, modifyContext_st]
    rw [modifyContext_course (f := fun c => { c with suspend := true }) (g := fun c => { c with suspend := true })
      fun _ => rfl, hsome]
    rfl
  have hk : s.view.state k = some .active := by rw [View.state, hcourse, Option.map_some]; exact congrArg some ha
  have hstate : (modifyContext k (fun c => { c with suspend := true }) s).view.state = s.view.state := by
    funext i
    rw [hview, View.setCourse_state]
    split
    · rename_i e; subst e; rw [hk]; exact congrArg some ha
    · rfl
  have hnone : ∀ j, s.view.state j ≠ some .draining := fun j hj => by
    by_cases hjk : j = k
    · rw [hjk, hk] at hj; cases hj
    · rw [← slotState_eq_view] at hj
      have := List.any_eq_false.mp hother j (List.mem_finRange j)
      simp [hjk, hj] at this
  refine ⟨fun h => ?_, id, fun _ hs => ?_⟩
  · obtain ⟨hagrees, haged⟩ := (runSound_iff s).mp h
    rw [runSound_iff]
    refine ⟨⟨by rw [hstate]; exact hagrees.oneActive, by rw [hstate]; exact hagrees.oneDraining, fun i x hx hs => ?_,
      fun i x hx hd => ?_, by rw [hstate]; exact hagrees.pending, hagrees.lags, fun hrun => hagrees.fitted fun hidle =>
        hrun ⟨by rw [hstate]; exact hidle.1, hidle.2⟩, by rw [hstate]; exact hagrees.owned, fun i x hx => ?_⟩,
      haged.congr rfl rfl rfl⟩
    · rw [hstate]
      rcases View.setCourse_some (hview ▸ hx) with ⟨-, e⟩ | ⟨-, hx⟩
      · cases e; exact ⟨ha, Nat.pos_of_ne_zero hsets, hnone⟩
      · exact hagrees.suspended i x hx hs
    · rcases View.setCourse_some (hview ▸ hx) with ⟨-, e⟩ | ⟨-, hx⟩
      · cases e; cases ha.symm.trans hd
      · exact hagrees.draining i x hx hd
    · rcases View.setCourse_some (hview ▸ hx) with ⟨rfl, e⟩ | ⟨-, hx⟩
      · cases e; exact hagrees.counted i c.course hcourse
      · exact hagrees.counted i x hx
  · rw [spaceSound_iff] at hs ⊢
    exact hs.of_states rfl rfl hstate

/-! ## ACTIVATE and CANCEL_ACTIVATION -/

theorem activation_view (o : Option Activation) (s : State) :
    ({ s with activation := o } : State).view = { s.view with activation := o } := rfl

/-- A READY or PARKED slot's activation becomes pending beside no other and no DRAINING context, with the lags set
(R159, R166). -/
theorem View.Agrees.activate {v : View} (h : v.Agrees) {a : Activation} (hstate : v.state a.slot = some a.origin.state)
    (hdrain : ∀ i, v.state i ≠ some .draining) (hlag : 1 ≤ v.merge) :
    View.Agrees { v with activation := some a } :=
  ⟨h.oneActive, h.oneDraining, h.suspended, h.draining, fun b hb => by
    cases hb
    exact ⟨hstate, fun i _ hi => absurd hi (hdrain i)⟩, h.lags, fun _ => hlag, h.owned, h.counted⟩

/-- One record becomes the slot's context reservation (R146). -/
theorem Accounted.reserve {v : View} {j : Journal} {a : Activation} (h : Accounted v j 0) (hfree : 1 ≤ j.unreserved)
    (hnone : v.activation = none) (hstate : v.state a.slot = some a.origin.state) :
    Accounted { v with activation := some a }
      { j with contextReserved := updateAt j.contextReserved a.slot (· + 1), reserved := j.reserved + 1 } 0 := by
  have hnil := h.none_waits hfree
  refine ⟨⟨?_, ?_, h.covers, fun k => ?_, h.parked⟩, fun hne => absurd hnil hne⟩
  · unfold Journal.unreserved at hfree; simp only []; omega
  · have := h.sum
    have hsum := sum_updateAt j.contextReserved a.slot (· + 1)
    simp only []
    omega
  · have hk := h.contexts k
    have hrun : ∀ o, View.runCount { v with activation := o } k = v.runCount k := fun _ => rfl
    simp only [View.runsOrPends, hrun, hnone, hnil, pendCount_none, pendCount_some, Fin.getElem_fin, updateAt_getElem,
      Fin.ext_iff] at hk ⊢
    split
    · rename_i hka
      obtain rfl := Fin.ext hka
      rw [View.runCount_of_origin hstate] at hk ⊢
      exact ⟨by omega, Nat.le_refl 1⟩
    · exact hk

theorem makePending_keeps {s : State} {k : SlotId} {c : Context} (hc : s.slots[k] = some c) (hidle : c.state.isIdle = true)
    (hdrain : (slotIn s .draining).isNone = true) (hnone : s.activation = none) (hlag : 1 ≤ s.st.merge)
    (hfree : 1 ≤ s.ij.unreserved) (x : Cycle) : Keeps s (makePending k c x s) := by
  let a : Activation := { slot := k, effective := x, origin := c.state.origin }
  have hstate : s.view.state a.slot = some a.origin.state := by
    rw [← slotState_eq_view, slotState, hc, Option.map_some]
    show some c.state = some c.state.origin.state
    generalize c.state = j at hidle ⊢
    cases j with
    | ready | parked => rfl
    | building | active | draining => cases hidle
  have hdraining : ∀ i, s.view.state i ≠ some .draining := fun i hi => by
    rw [← slotState_eq_view] at hi
    have := List.find?_eq_none.mp (Option.isNone_iff_eq_none.mp hdrain) i (List.mem_finRange i)
    simp [hi] at this
  have hreserved := reserveRecords_ij 1 { s with ij := { s.ij with
    contextReserved := updateAt s.ij.contextReserved k (· + 1) } }
  have hview := reserveRecords_view 1 { s with ij := { s.ij with
    contextReserved := updateAt s.ij.contextReserved k (· + 1) } }
  have hside := notifyJob_aside k (some c.job) (some c.state) (some c.state)
    { reserveContext k s with activation := some a }
  have hpending : ({ reserveContext k s with activation := some a } : State).view = { s.view with activation := some a } := by
    rw [activation_view, reserveContext, hview]; rfl
  have hij : ({ reserveContext k s with activation := some a } : State).ij =
      { s.ij with contextReserved := updateAt s.ij.contextReserved k (· + 1), reserved := s.ij.reserved + 1 } := hreserved
  refine .trans (t := { reserveContext k s with activation := some a }) ⟨fun h => ?_, fun h => ?_, fun _ hs => ?_⟩ hside.keeps
  · obtain ⟨hagrees, haged⟩ := (runSound_iff s).mp h
    rw [runSound_iff, hpending]
    exact ⟨hagrees.activate hstate hdraining hlag, haged.congr rfl rfl rfl⟩
  · rw [hij]; exact Journal.sound_congr rfl rfl rfl h
  · rw [spaceSound_iff] at hs ⊢
    rw [hpending, hij]
    exact hs.reserve hfree hnone hstate

/-- A withdrawn activation's reservation is an extra one until it returns (R168). -/
theorem Accounted.withdraw {v : View} {j : Journal} {a : Activation} (h : Accounted v j 0) (ha : v.activation = some a)
    (hstate : v.state a.slot = some a.origin.state) :
    Accounted { v with activation := none } { j with contextReserved := updateAt j.contextReserved a.slot (· - 1) } 1 := by
  have hat : j.contextReserved[a.slot] = 1 ∧ waitingFor j.deferred a.slot = 0 := by
    have := h.contexts a.slot
    simp only [View.runsOrPends, View.runCount_of_origin hstate, ha, pendCount_some, if_true] at this
    omega
  refine ⟨⟨h.fits, ?_, h.covers, fun k => ?_, h.parked⟩, h.waits⟩
  · have := h.sum
    have hsum := sum_updateAt j.contextReserved a.slot (· - 1)
    simp only [hat.1] at hsum
    simp only []
    omega
  · have hk := h.contexts k
    have hrun : ∀ o, View.runCount { v with activation := o } k = v.runCount k := fun _ => rfl
    simp only [View.runsOrPends, hrun, ha, pendCount_none, pendCount_some, Fin.getElem_fin, updateAt_getElem,
      Fin.ext_iff] at hk hat ⊢
    split
    · rename_i hka
      obtain rfl := Fin.ext hka
      rw [View.runCount_of_origin hstate, hat.1, hat.2]
      decide
    · rename_i hka
      simpa only [if_neg hka] using hk

theorem withdrawActivation_keeps {s : State} {a : Activation} (ha : s.activation = some a) :
    Keeps s (withdrawActivation a s) := by
  let u : State := { s with
    activation := none, ij := { s.ij with contextReserved := updateAt s.ij.contextReserved a.slot (· - 1) } }
  have hview : (returnReserved 1 u).view = { s.view with activation := none } := returnReserved_view 1 u
  refine .trans (t := returnReserved 1 u) ⟨fun h => ?_, fun h => ?_, fun h hs => ?_⟩ (notifyJob_aside ..).keeps
  · obtain ⟨hagrees, haged⟩ := (runSound_iff s).mp h
    rw [runSound_iff, hview]
    exact ⟨⟨hagrees.oneActive, hagrees.oneDraining, hagrees.suspended, hagrees.draining, nofun, hagrees.lags,
      fun hrun => hagrees.fitted fun hidle => hrun ⟨hidle.1, rfl⟩, hagrees.owned, hagrees.counted⟩, haged.congr rfl rfl rfl⟩
  · exact returnReserved_form 1 (s := u) (Journal.sound_congr rfl rfl rfl h)
  · have hstate := (((runSound_iff s).mp h).1.pending a ha).1
    rw [spaceSound_iff] at hs ⊢
    exact returnReserved_accounted (s := u) (hs.withdraw ha hstate)

/-! ## END_JOB -/

/-- A change that writes at most `n` records, where so many unreserved ones are free. -/
structure Writes (n : Nat) (s t : State) : Prop where
  view : t.view = s.view
  form : s.ij.sound → t.ij.sound
  deferred : t.ij.deferred = s.ij.deferred
  account : ∀ e m : Nat, n + m ≤ s.ij.unreserved → Accounted s.view s.ij e →
    Accounted t.view t.ij e ∧ m ≤ t.ij.unreserved

namespace Writes

theorem trans {m n : Nat} {s t u : State} (h : Writes m s t) (g : Writes n t u) : Writes (m + n) s u where
  view := g.view.trans h.view
  form := g.form ∘ h.form
  deferred := g.deferred.trans h.deferred
  account e l hl hs := by
    obtain ⟨ht, hn⟩ := h.account e (n + l) (by omega) hs
    exact g.account e l hn ht

theorem of_aside {s t : State} (h : Aside s t) : Writes 0 s t :=
  ⟨h.1, h.journals.form, by rw [h.2], fun e m hm hs => ⟨h.journals.account e hs, by rw [h.2]; omega⟩⟩

end Writes

theorem journalUnreserved_writes {slot : SlotId} {job : Nat} {stamp : Cycle} {b : RecordBody} (hb : b.opens) (s : State) :
    Writes 1 s (journalUnreserved slot job stamp b s) where
  view := journalUnreserved_view ..
  form h := by rw [journalUnreserved_ij]; exact Journal.append_sound hb h
  deferred := by rw [journalUnreserved_ij]; rfl
  account e m hm hs := by
    refine ⟨(journalUnreserved_journals (by omega) hb).account e hs, ?_⟩
    have hlen := Journal.append_length slot job stamp b s.ij
    rw [journalUnreserved_ij]
    unfold Journal.unreserved at hm ⊢
    rw [hlen]
    simp only [Journal.append]
    omega

theorem endEntry_writes (k : SlotId) (job : Nat) (q : SeqId) (s : State) (e : QueueEntry) :
    Writes 1 s (endEntry k job q s e) :=
  (Nat.zero_add 1) ▸ (Writes.of_aside (modifySequence_aside k q Sequence.voidOldest s)).trans
    (journalUnreserved_writes (RecordBody.opens_of_not_run rfl) _)

theorem endEntries_writes (k : SlotId) (job : Nat) (q : SeqId) (l : List QueueEntry) (s : State) :
    Writes l.length s (l.foldl (endEntry k job q) s) := by
  induction l generalizing s with
  | nil => exact .of_aside (.refl s)
  | cons e l ih =>
    rw [List.length_cons, Nat.add_comm]
    exact (endEntry_writes k job q s e).trans (ih _)

/-- The voiding of one queue leaves the others of its slot. -/
theorem endEntries_queueOf (k : SlotId) (job : Nat) {q p : SeqId} (hp : p ≠ q) (l : List QueueEntry) (s : State) :
    queueOf (l.foldl (endEntry k job q) s) k p = queueOf s k p := by
  refine foldl_keeps (fun s => queueOf s k p) (fun s e => ?_) l s
  have hslots : (endEntry k job q s e).slots = (modifySequence k q Sequence.voidOldest s).slots := journalUnreserved_slots ..
  have hkept : sequenceOf (modifySequence k q Sequence.voidOldest s) k p = sequenceOf s k p := by
    unfold sequenceOf modifySequence
    rw [modifyContext_slots]
    simp only [Fin.getElem_fin, updateAt_getElem, if_true]
    cases s.slots[(k : Nat)] with
    | none => rfl
    | some c => simp [Context.modifySequence, updateAt_get_ne _ _ _ _ (Ne.symm hp)]
  rw [queueOf, sequenceOf, hslots, ← sequenceOf, hkept, queueOf]

theorem endQueues_writes (k : SlotId) (job : Nat) (s : State) :
    Writes ((List.finRange 8).map fun q => (queueOf s k q).length).sum s (endQueues k job s) := by
  suffices H : ∀ l : List SeqId, l.Nodup → ∀ s : State, Writes (l.map fun q => (queueOf s k q).length).sum s
      (l.foldl (fun s q => (queueOf s k q).foldl (endEntry k job q) s) s) from H _ (List.nodup_finRange 8) s
  intro l
  induction l with
  | nil => exact fun _ s => .of_aside (.refl s)
  | cons q l ih =>
    intro hl s
    obtain ⟨hq, hl⟩ := List.nodup_cons.mp hl
    have hrest := ih hl ((queueOf s k q).foldl (endEntry k job q) s)
    have hkept : ∀ p ∈ l, (queueOf ((queueOf s k q).foldl (endEntry k job q) s) k p).length = (queueOf s k p).length :=
      fun p hp => by
        rw [endEntries_queueOf k job (by rintro rfl; exact hq hp)]
    rw [List.map_congr_left hkept] at hrest
    rw [List.map_cons, List.sum_cons]
    exact (endEntries_writes k job q _ s).trans hrest

theorem queuedCount_eq {s : State} {k : SlotId} {c : Context} (hc : s.slots[k] = some c) :
    ((List.finRange 8).map fun q => (queueOf s k q).length).sum = c.queuedCount := by
  have hqueue : ∀ q : SeqId, (queueOf s k q).length = ((c.sequences[q]).map fun x => x.queue.length).getD 0 := fun q => by
    rw [queueOf, sequenceOf, hc, Option.bind_some]
    cases c.sequences[q] <;> rfl
  rw [Context.queuedCount]
  congr 1
  refine List.ext_getElem (by simp) fun i h₁ h₂ => ?_
  simp [hqueue]

/-- A slot that neither runs nor has an activation pending is emptied after records were written from unreserved space. -/
theorem Writes.empty_keeps {n : Nat} {s w : State} {k : SlotId} {c : Context} (hwrites : Writes n s w)
    (hc : s.slots[k] = some c) (hidle : c.state.isIdle = true) (hn : isPendingSlot s k = false)
    (hpos : 0 < n) (hroom : n ≤ s.ij.unreserved) : Keeps s (setSlot k none w) := by
  have hstate : s.view.state k = some c.state := by rw [← slotState_eq_view, slotState, hc]; rfl
  have hchange : s.view.IdleChange k none := by
    refine ⟨?_, ?_, fun a ha e => ?_, nofun⟩
    · rw [hstate]; intro e; rw [Option.some.inj e] at hidle; cases hidle
    · rw [hstate]; intro e; rw [Option.some.inj e] at hidle; cases hidle
    · have ha : s.activation = some a := ha
      simp [isPendingSlot, ha, e] at hn
  have hview : (setSlot k none w).view = s.view.setCourse k none := by
    rw [setSlot_view, hwrites.view]; rfl
  refine ⟨fun h => ?_, hwrites.form, fun _ hs => ?_⟩
  · obtain ⟨hagrees, haged⟩ := (runSound_iff s).mp h
    rw [runSound_iff, hview]
    exact ⟨hchange.agrees hagrees, haged.congr rfl rfl rfl⟩
  · rw [spaceSound_iff] at hs ⊢
    rw [hview]
    have hpaid := (hwrites.account 0 0 hroom hs).1
    rw [hwrites.view] at hpaid
    exact hchange.accounted hpaid fun _ => hwrites.deferred.trans (hs.none_waits (by omega))

/-- END_JOB journals the queued values and the end of the job from unreserved space, and empties the slot (R174). -/
theorem endJob_keeps {s : State} {k : SlotId} {c : Context} (hc : s.slots[k] = some c) (hidle : c.state.isIdle = true)
    (hn : isPendingSlot s k = false) (hroom : c.queuedCount + 1 ≤ s.ij.unreserved) : Keeps s (endJob k c s) := by
  have hqueues := endQueues_writes k c.job s
  rw [queuedCount_eq hc] at hqueues
  unfold endJob
  exact ((hqueues.trans (journalUnreserved_writes (RecordBody.opens_of_not_run rfl) _)).empty_keeps hc hidle hn
    (Nat.succ_pos _) hroom).trans (notifyJob_aside ..).keeps

end Sys2Proof.Machine
end

section
/-! PROOFS. What the events and the requests keep of contexts, ring and journal. -/

namespace Sys2Proof.Machine

/-! ## The events of press and lines -/

theorem showDriven_aside (f : LineFunction) (v : Bool) (s : State) : Aside s (showDriven f v s) := .of_eq

theorem changeStops_aside (c : StopCause) (n : StopSet) (b : Byte) (s : State) : Aside s (changeStops c n b s) := .of_eq

theorem countPosition_aside {f : Wpu → Wpu} {s : State} (h : (f s.wpu).cycle = s.wpu.cycle) :
    Aside s (followMeasurement (modifyWpu f s)) :=
  (modifyWpu_aside h).trans (followMeasurement_aside _)

theorem forwardEdge_keeps (s : State) : Keeps s (forwardEdge s) := by
  have hcount : Aside s (releaseGates (followMeasurement (modifyWpu (fun w => { w with position := s.wpu.position + 1 }) s))) :=
    (countPosition_aside rfl).trans (releaseGates_aside _)
  unfold forwardEdge
  exact .ite (fun _ => .ite (fun _ => boundary_keeps ..) fun _ => hcount.keeps)
    fun _ => .ite (fun _ => boundary_keeps ..) fun _ => hcount.keeps

theorem backedForward_aside (s : State) : Aside s (backedForward s) :=
  .ite (fun _ => (modifyWpu_aside (by rfl)).trans (notify_aside ..)) fun _ => modifyWpu_aside rfl

theorem reverseEdge_aside (s : State) : Aside s (reverseEdge s) :=
  .ite (fun _ => countPosition_aside (by rfl)) fun _ => (modifyWpu_aside (by rfl)).trans (notify_aside ..)

theorem backedReverse_aside (s : State) : Aside s (backedReverse s) := by
  unfold backedReverse
  extract_lets d s1
  have h1 : Aside s s1 := modifyWpu_aside rfl
  exact .ite (fun _ => h1.trans ((modifyWpu_aside (by rfl)).trans (notify_aside ..))) fun _ => h1

theorem countedEdge_keeps (d : Direction) (s : State) : Keeps s (countedEdge d s) := by
  unfold countedEdge
  split
  · exact forwardEdge_keeps s
  · exact (backedForward_aside s).keeps
  · exact (reverseEdge_aside s).keeps
  · exact (backedReverse_aside s).keeps

theorem judgeTransition_keeps (r now : Levels) (s : State) : Keeps s (judgeTransition r now s) := by
  have href : Aside s (modifyWpu (fun w => { w with reference := some now }) s) := modifyWpu_aside rfl
  have hedge : ∀ d u, Keeps u (countedEdge d (modifyWpu (Wpu.edge d) u)) := fun d u =>
    .trans (modifyWpu_aside (f := Wpu.edge d) rfl).keeps (countedEdge_keeps d _)
  unfold judgeTransition
  extract_lets s1
  split
  · exact .refl s
  · exact href.keeps.trans (hedge .forward s1)
  · exact href.keeps.trans (hedge .reverse s1)
  · exact (href.trans (notify_aside ..)).keeps

theorem watchEncoder_keeps (s : State) : Keeps s (watchEncoder s) := by
  unfold watchEncoder
  split
  · exact judgeTransition_keeps ..
  · exact .refl s

theorem indexSetsBack_aside (s : State) : Aside s (indexSetsBack s) := countPosition_aside rfl

theorem takeIndex_keeps (s : State) : Keeps s (takeIndex s) :=
  .ite (fun _ => .ite (fun _ => boundary_keeps ..) fun _ =>
    .ite (fun _ => ((indexSetsBack_aside s).trans (notify_aside ..)).keeps) fun _ =>
    .ite (fun _ => (indexSetsBack_aside s).keeps) fun _ =>
    .ite (fun _ => boundary_keeps ..) fun _ => .refl s) fun _ => .refl s

theorem hearLine_keeps (f : LineFunction) (level : Bool) (s : State) : Keeps s (hearLine f level s) := by
  unfold hearLine
  split
  · exact watchEncoder_keeps s
  · exact watchEncoder_keeps s
  · exact .ite (fun _ => takeIndex_keeps s) fun _ => .refl s
  · exact .ite (fun _ => (markEdge_aside ..).keeps) fun _ => .refl s
  all_goals exact .refl s

theorem State.reset_keeps {s t : State} (hv : t.view = State.reset.view) (hij : t.ij = State.reset.ij) : Keeps s t := by
  refine ⟨fun _ => ?_, fun _ => hij ▸ reset_journalSound, fun _ _ => ?_⟩
  · rw [runSound_iff, hv, ← runSound_iff]
    exact reset_runSound
  · rw [spaceSound_iff, hv, hij, ← spaceSound_iff]
    exact reset_spaceSound

/-! ## The head link -/

theorem takeCompletion_aside (h : HeadId) (t : Cycle) (res : PrintResult) (s : State) :
    Aside s (takeCompletion h t res s) := by
  unfold takeCompletion
  split
  · cases res with
    | printed => exact settle_aside ..
    | failed => exact settle_aside ..
  · exact notify_aside ..

theorem setDevice_aside (h : HeadId) (d : Device) (s : State) : Aside s (setDevice h d s) :=
  .ite (fun _ => .refl s) fun _ => (modifyHead_aside ..).trans (notify_aside ..)

theorem failOrders_aside (h : HeadId) (s : State) : Aside s (failOrders h s) := .foldl (fun _ _ => settle_aside ..) _ s

theorem takeStateMessage_aside (h : HeadId) (rep : HeadReport) (s : State) : Aside s (takeStateMessage h rep s) := by
  cases rep with
  | ready => exact setDevice_aside ..
  | fault =>
    refine .trans (.ite (fun _ => ?_) fun _ => failOrders_aside h s) (setDevice_aside ..)
    exact (failOrders_aside h s).trans (latchStop_aside ..)

theorem takeHeadFrame_aside (f : RxFrame) (s : State) : Aside s (takeHeadFrame f s) := by
  unfold takeHeadFrame
  split
  · exact .refl s
  · split
    · split
      · exact .ite (fun _ => takeCompletion_aside ..) fun _ => .ite (fun _ => takeCompletion_aside ..) fun _ => .refl s
      · exact .refl s
    · split
      · exact .ite (fun _ => takeStateMessage_aside ..) fun _ => .ite (fun _ => takeStateMessage_aside ..) fun _ => .refl s
      · exact .refl s
    · exact .refl s

/-! ## The background operations -/

theorem stepProbe_aside (p : Probe) (s : State) : Aside s (stepProbe p s) := by
  have hend : ∀ p e, Aside s (endProbe p e s) := fun p e =>
    .trans (t := setProbe { p with ended := some e } s) ⟨rfl, rfl⟩ (notify_aside ..)
  unfold stepProbe
  split
  · exact hend ..
  · exact .ite (fun _ => hend ..) fun _ => ⟨rfl, rfl⟩

theorem endSkip_aside (k : Skip) (e : SkipEnd) (s : State) : Aside s (endSkip k e s) :=
  .trans (t := setSkip { k with held := false, ended := some e } s) ⟨rfl, rfl⟩ (notify_aside ..)

/-- A skipped value extends the tail or takes an unreserved record (R26). -/
theorem journalSkip_journals {k : Skip} {job : Nat} {x : Sequence} {v : Nat} {s t : State}
    (h : journalSkip k job x v s = some t) : Journals s t := by
  simp only [journalSkip] at h
  split at h
  · rename_i j hj
    cases h
    obtain ⟨_, _, _, -, -, -, -, hmerged⟩ := Journal.merge_some hj
    refine ⟨rfl, Journal.merge_sound hj, fun e hs => hs.of_journal (Journal.merge_length hj) ?_ ?_ ?_⟩ <;> rw [hmerged]
  · split at h
    · rename_i hfree
      cases h
      exact journalUnreserved_journals hfree fun _ => Nat.lt_of_sub_eq_succ rfl
    · cases h

theorem commitSkip_aside (k : Skip) (x : Sequence) (v : Nat) (w : Bool) (s : State) : Aside s (commitSkip k x v w s) := by
  have hdrawn := modifySequence_aside k.slot k.sequence (fun y => (y.commit v w).countSkipped) s
  exact .ite (fun _ => hdrawn.trans (endSkip_aside ..)) fun _ => hdrawn.trans ⟨rfl, rfl⟩

theorem stepSkip_journals (k : Skip) (c : Context) (x : Sequence) (s : State) : Journals s (stepSkip k c x s) := by
  unfold stepSkip
  split
  · exact ((modifySequence_aside ..).trans (endSkip_aside ..)).journals
  · split
    · exact Aside.journals ⟨rfl, rfl⟩
    · rename_i hs
      exact (journalSkip_journals hs).trans (commitSkip_aside ..).journals

/-! ## RELEASE_JOURNAL -/

/-- READ records leave the journal, and what waits may be written (R149, R153, R154). -/
theorem releaseRecords_journals (n : Nat) (s : State) : Journals s (releaseRecords n s) := by
  unfold releaseRecords
  split
  · exact .refl s
  · let u : State := { s with ij := s.ij.dropOldest n }
    refine ⟨(afterRaise_view u).trans rfl, fun h => afterRaise_form (Journal.dropOldest_sound n h), fun e h => ?_⟩
    refine afterRaise_accounted (s := u) ⟨?_, h.sum, h.covers, h.contexts, h.parked⟩
    have hfits := h.fits
    have hless : (s.ij.dropOldest n).records.length = s.ij.records.length - n := by simp [Journal.dropOldest]
    show (s.ij.dropOldest n).records.length + s.ij.reserved ≤ 1024
    omega

/-! ## SET_LAGS -/

/-- SET_LAGS comes while nothing runs, so the ring is empty (R50). -/
theorem setLags_keeps {s : State} {m q g : Nat} (hm : isLag m = true) (hg : isLag g = true)
    (hidle : NothingRuns s) (hmq : m ≤ q) (hqg : q + 2 ≤ g) :
    Keeps s (modifyTracker (fun t => { t with merge := m, inspect := q, gateLag := g }) s) := by
  simp only [isLag, Bool.and_eq_true, decide_eq_true_eq] at hm hg
  have hv : (modifyTracker (fun t => { t with merge := m, inspect := q, gateLag := g }) s).view =
      { s.view with merge := m, inspect := q, gateLag := g } := rfl
  refine ⟨fun h => ?_, id, fun _ hs => ?_⟩
  · obtain ⟨hagrees, haged⟩ := (runSound_iff s).mp h
    obtain ⟨hslots, -⟩ := (nothingRuns_iff s).mp hidle
    rw [runSound_iff, hv]
    refine ⟨⟨hagrees.oneActive, hagrees.oneDraining, hagrees.suspended, hagrees.draining, hagrees.pending,
      .inr ⟨hm.1, hmq, hqg, hg.2⟩, fun _ => hm.1, hagrees.owned, hagrees.counted⟩, haged.ordered, fun a ha => ?_⟩
    rcases hagrees.owned a ha with e | e
    · exact absurd e (hslots a.slot).1
    · exact absurd e (hslots a.slot).2
  · rw [spaceSound_iff] at hs ⊢
    exact hs.of_states rfl rfl rfl

/-! ## The requests -/

/-- A request keeps what its acceptance keeps. -/
theorem request_keeps {p : PortId} {c : Instr} {act : State → Reply} {s t : State} (h : request p c act s = .next t)
    (ha : ∀ u, (act u).Ensures (Keeps u)) : Keeps s t :=
  request_ensures (P := Keeps s) (fun p f _ hu => hu.trans (modifyPort_aside p f _).keeps)
    (fun u hu => (ha u).mono fun _ ht => hu.trans ht) h (.refl s)

/-- A consistency check that passes. -/
theorem ensures_passed {P : State → Prop} {o : Option (Nat × Nat)} {r : Reply} (h : o = none → r.Ensures P) :
    (consistent o r).Ensures P := by
  cases o with
  | none => exact h rfl
  | some => trivial

theorem ensures_geometryFree {P : State → Prop} {s : State} {r : Reply} (h : NothingRuns s → r.Ensures P) :
    (geometryFree s r).Ensures P :=
  ensures_require fun hrun => h (running_eq_false.mp (by simpa using hrun))

theorem ensures_journalRoom {P : State → Prop} {s : State} {n : Nat} {r : Reply}
    (h : n ≤ s.ij.unreserved → r.Ensures P) : (journalRoom s n r).Ensures P :=
  ensures_require fun hroom => h (by simpa using hroom)

/-- A change of a context in BUILDING beside its state, its suspend flag and its sets in flight. -/
theorem building_keeps {k : SlotId} {s : State} {f : Context → Context} {r : Context → List Byte}
    (h : ∀ c, (f c).course = c.course := by exact fun _ => rfl) :
    (building s k fun c => .accept (modifyContext k f s) (r c)).Ensures (Keeps s) :=
  ensures_inState fun _ _ => (Aside.of_context h).keeps

theorem replyLoadValue_keeps (sl sq : Nat) (v : Int) (s : State) : (replyLoadValue sl sq v s).Ensures (Keeps s) :=
  ensures_named fun k => ensures_named fun q => ensures_require fun _ => ensures_inState fun _ _ => ensures_require fun _ =>
  ensures_require fun _ => ensures_defined fun _ _ => ensures_require fun _ => ensures_require fun _ =>
  ensures_journalRoom fun hfree =>
  ((modifySequence_aside k q (Sequence.load v) s).journals.trans
    (journalUnreserved_journals hfree (RecordBody.opens_of_not_run rfl))).keeps

theorem replyAddExclusion_keeps (sl sq a b : Nat) (s : State) : (replyAddExclusion sl sq a b s).Ensures (Keeps s) :=
  ensures_named fun k => ensures_named fun q => ensures_require fun _ => ensures_inState fun c _ =>
  ensures_defined fun _ _ => ensures_require fun _ => ensures_journalRoom fun hfree => by
    have hjournal : Journals s (journalExclusion k c q a b s) := by
      unfold journalExclusion
      split
      · exact .refl s
      · rename_i hb
        rw [if_neg hb] at hfree
        exact journalUnreserved_journals hfree (RecordBody.opens_of_not_run rfl)
    have hadd : Aside (journalExclusion k c q a b s) (modifyContext k (fun c => { c with
        exclusions := insertRange { sequence := q, low := a, high := b } c.exclusions }) (journalExclusion k c q a b s)) :=
      .of_context fun _ => rfl
    exact (hjournal.trans (hadd.trans (makeStale_aside ..)).journals).keeps

/-- The context of the slot is in a state that the request asks for. -/
theorem ensures_standing {P : State → Prop} {s : State} {k : SlotId} {a : JobState → Bool} {f : Context → Reply}
    (h : ∀ c, s.slots[k] = some c → a c.state = true → (f c).Ensures P) : (inState s k a f).Ensures P := by
  unfold inState
  split
  · rename_i c hc
    split
    · exact h c hc ‹_›
    · trivial
  · trivial

theorem replyActivate_keeps (sl : Nat) (e : Option Nat) (s : State) : (replyActivate sl e s).Ensures (Keeps s) :=
  ensures_named fun k => ensures_effectiveCycle fun x => ensures_standing fun c hc hidle => ensures_require fun _ =>
  ensures_require fun hfree => ensures_passed fun hpress => ensures_journalRoom fun hroom => by
    obtain ⟨hdrain, hnone⟩ := Bool.and_eq_true_iff.mp hfree
    have hlags : 0 < s.st.merge := by
      by_contra hzero
      simp [pressFailure, hzero] at hpress
    exact makePending_keeps hc hidle hdrain (Option.isNone_iff_eq_none.mp hnone) hlags hroom x

theorem replyCancelActivation_keeps (s : State) : (replyCancelActivation s).Ensures (Keeps s) := by
  unfold replyCancelActivation
  split
  · trivial
  · exact withdrawActivation_keeps ‹_›

theorem replyOpenContext_keeps (sl job lanes po li : Nat) (s : State) :
    (replyOpenContext sl job lanes po li s).Ensures (Keeps s) :=
  ensures_named fun _ => ensures_require fun _ => ensures_coded fun _ => ensures_require fun _ => ensures_require fun hempty =>
  (open_keeps (Option.isNone_iff_eq_none.mp hempty) ..).trans (notifyJob_aside ..).keeps

theorem replyDiscard_keeps (sl : Nat) (s : State) : (replyDiscard sl s).Ensures (Keeps s) :=
  ensures_named fun _ => ensures_standing fun _ hc hb => ensures_require fun _ =>
  (discard_keeps hc (beq_iff_eq.mp hb)).trans (notifyJob_aside ..).keeps

theorem replyCloseBuild_keeps (sl : Nat) (s : State) : (replyCloseBuild sl s).Ensures (Keeps s) :=
  ensures_named fun _ => ensures_standing fun c hc hb => ensures_consistent <| by
    have hb : c.state = .building := beq_iff_eq.mp hb
    exact (enter_keeps hc (.inl hb) (.inr rfl) fun hr => by rw [hb] at hr; cases hr).trans (notifyJob_aside ..).keeps

theorem replyReopen_keeps (sl : Nat) (s : State) : (replyReopen sl s).Ensures (Keeps s) :=
  ensures_named fun _ => ensures_standing fun _ hc hr => ensures_require fun hn => ensures_require fun _ =>
  (enter_keeps hc (.inr (beq_iff_eq.mp hr)) (.inl rfl) fun _ => by simpa using hn).trans (notifyJob_aside ..).keeps

theorem replySuspend_keeps (sl : Nat) (s : State) : (replySuspend sl s).Ensures (Keeps s) :=
  ensures_named fun k => ensures_standing fun c hc ha => ensures_require fun hother => by
    have ha : c.state = .active := beq_iff_eq.mp ha
    refine .ite (fun hempty => ?_) fun hsets => ?_
    · exact (park_keeps hc ha hempty).trans (notifyJob_aside ..).keeps
    · exact flag_keeps hc ha hsets (by simpa [hsets] using hother)

theorem replyFlush_keeps (sl : Nat) (s : State) : (replyFlush sl s).Ensures (Keeps s) :=
  ensures_named fun k => ensures_inState fun _ _ => ensures_journalRoom fun hroom => by
    have hflush := flushSets_aside k s
    have hfree : 0 < (flushSets k s).ij.unreserved := by rw [hflush.2]; exact hroom
    exact (hflush.journals.trans (journalUnreserved_journals hfree (RecordBody.opens_of_not_run rfl))).keeps

theorem replyEndJob_keeps (sl : Nat) (s : State) : (replyEndJob sl s).Ensures (Keeps s) :=
  ensures_named fun _ => ensures_standing fun _ hc hidle => ensures_require fun hn => ensures_require fun _ =>
  ensures_journalRoom fun hroom => endJob_keeps hc hidle (by simpa using hn) hroom

theorem replyCancelBackground_aside (s : State) : (replyCancelBackground s).Ensures (Aside s) := by
  unfold replyCancelBackground
  split
  · trivial
  · rename_i p _
    exact ensures_require fun _ => Aside.trans (t := setProbe { p with ended := some .cancelled } s) ⟨rfl, rfl⟩ (notify_aside ..)
  · exact ensures_require fun _ => endSkip_aside ..

theorem replyClearStop_aside (c : Nat) (s : State) : (replyClearStop c s).Ensures (Aside s) :=
  ensures_coded fun c => by
    split
    · refine ensures_require fun _ => ?_
      cases c with
      | regRun => exact Aside.trans (t := _) ⟨rfl, rfl⟩ (changeStops_aside ..)
      | seqExhausted | journalHigh | headFault | operatorStop => exact changeStops_aside ..
    · exact Aside.refl s

theorem replyReadSet_keeps (tag page : Nat) (s : State) : (replyReadSet tag page s).Ensures (Keeps s) := by
  unfold replyReadSet
  split
  · trivial
  · exact .refl s

/-! ## The events of the ports -/

theorem execGarbledFrame_aside {p : PortId} {s t : State} (h : execGarbledFrame p s = .next t) : Aside s t := by
  obtain ⟨hwaits, htaken⟩ := takeFrame_ensures (P := Aside s) (fun p f _ hu => hu.trans (modifyPort_aside p f _)) (p := p)
    (f := .garbled) (.refl s)
  cases h
  split
  · rename_i u hu; exact hwaits u hu
  · rename_i u hu; exact (htaken u hu).trans (modifyPort_aside ..)

theorem execUnknownRequestCode_aside {p : PortId} {body : List Byte} {s t : State}
    (h : execUnknownRequestCode p body s = .next t) : Aside s t := by
  cases h
  exact .ite (fun _ => .refl s) fun _ =>
    onFrame_ensures (P := Aside s) (fun p f _ hu => hu.trans (modifyPort_aside p f _))
      (fun _ hu => hu.trans (modifyPort_aside ..)) (.refl s)

theorem execSkipDraw_keeps {s t : State} (h : execSkipDraw s = .next t) : Keeps s t := by
  cases h
  split
  · refine .ite (fun _ => ?_) fun _ => .refl s
    split
    · exact .refl s
    · split
      · exact .refl s
      · exact (stepSkip_journals ..).keeps
  · exact .refl s
  · exact .refl s

/-! ## Every step -/

/-- Every command keeps what holds of contexts, ring and journal. -/
theorem exec_keeps {c : Instr} {s t : State} (h : exec c s = .next t) : Keeps s t := by
  cases c with
  | deviceReset levels => cases h; exact State.reset_keeps rfl rfl
  | encoderTransition a b =>
    cases h
    exact ((showDriven_aside .encA a s).trans (showDriven_aside .encB b _)).keeps.trans (watchEncoder_keeps _)
  | indexEdge =>
    cases h
    exact .ite (fun _ => (showDriven_aside .index true s).keeps.trans (takeIndex_keeps _)) fun _ => .refl s
  | markEdge channel =>
    cases h
    exact .ite (fun _ => ((showDriven_aside (.mark channel) true s).trans (markEdge_aside ..)).keeps) fun _ => .refl s
  | orderDeadline head => cases h; exact (expireHead_aside head s).keeps
  | orderSend => cases h; exact (sendOrder_aside s).keeps
  | orderFrameEnd => cases h; exact Aside.keeps ⟨rfl, rfl⟩
  | completion head tag result => cases h; exact (takeCompletion_aside ..).keeps
  | stateMessage head report => cases h; exact (takeStateMessage_aside ..).keeps
  | headFrameDiscard => cases h; exact Aside.keeps ⟨rfl, rfl⟩
  | headLinkGapTimeout | headLinkBadStopBit =>
    cases h; exact .ite (fun _ => Aside.keeps ⟨rfl, rfl⟩) fun _ => .refl s
  | headLinkByteReceived byte =>
    cases h
    split
    · exact Aside.keeps ⟨rfl, rfl⟩
    · exact (Aside.trans (s := s) (t := headLinkHunting s) ⟨rfl, rfl⟩ (takeHeadFrame_aside ..)).keeps
  | probeDraw =>
    cases h
    split
    · exact .ite (fun _ => (stepProbe_aside ..).keeps) fun _ => .refl s
    · exact .refl s
    · exact .refl s
  | skipDraw => exact execSkipDraw_keeps h
  | skipResume => cases h; exact (resumeSkip_aside s).keeps
  | portFrameReceived port frame => cases h; exact (modifyPort_aside ..).keeps
  | portByteReceived port byte => cases h; split <;> exact (modifyPort_aside ..).keeps
  | frameGapTimeout port | badStopBit port =>
    cases h; exact .ite (fun _ => (modifyPort_aside ..).keeps) fun _ => .refl s
  | portReset port => cases h; exact (modifyPort_aside ..).keeps
  | garbledFrame port => exact (execGarbledFrame_aside h).keeps
  | unknownRequestCode port body => exact (execUnknownRequestCode_aside h).keeps
  | frameSendStart port => cases h; exact (modifyPort_aside ..).keeps
  | frameSendEnd port => cases h; exact (modifyPort_aside ..).keeps
  | edgeAgeTick => cases h; exact (modifyWpu_aside (by rfl)).keeps
  | fieldLineLevelChange line level =>
    cases h
    let u : State := { s with lm := { s.lm with lines := updateAt s.lm.lines line fun l => { l with level := level } } }
    have hshown : Aside s u := ⟨rfl, rfl⟩
    exact .ite (fun _ => .refl s) fun _ => hshown.keeps.trans (hearLine_keeps _ _ u)
  | defineSequence p sl sq d f l st po sc =>
    exact request_keeps h fun _ => ensures_named fun _ => ensures_named fun _ => ensures_require fun _ =>
      ensures_require fun _ => ensures_coded fun _ => ensures_coded fun _ => ensures_inState fun _ _ =>
      ensures_require fun _ => (Aside.of_context (by exact fun _ => rfl)).keeps
  | loadValue p sl sq v => exact request_keeps h (replyLoadValue_keeps sl sq v)
  | addExclusion p sl sq a b => exact request_keeps h (replyAddExclusion_keeps sl sq a b)
  | removeExclusion p sl sq a =>
    exact request_keeps h fun _ => ensures_named fun _ => ensures_named fun _ => ensures_require fun _ =>
      ensures_inState fun _ _ => ensures_defined fun _ _ => ensures_require fun _ =>
      ((Aside.of_context (by exact fun _ => rfl)).trans (makeStale_aside ..)).keeps
  | withdrawReprint p sl sq v =>
    exact request_keeps h fun u => (replyWithdrawReprint_journals sl sq v u).mono fun _ => Journals.keeps
  | defineEntry p sl e la mo so rf =>
    exact request_keeps h fun _ => ensures_named fun _ => ensures_named fun _ => ensures_namedLane fun _ =>
      ensures_entryMode fun _ => ensures_inState fun _ _ => ensures_require fun _ => (Aside.of_context (by exact fun _ => rfl)).keeps
  | trimList p sl n => exact request_keeps h fun _ => ensures_named fun _ => ensures_require fun _ => building_keeps
  | assignHead p sl hd a =>
    exact request_keeps h fun _ => ensures_named fun _ => ensures_named fun _ => ensures_assigned fun _ => building_keeps
  | defineFormat p sl f items =>
    exact request_keeps h fun _ => ensures_named fun _ => ensures_named fun _ => ensures_require fun _ =>
      ensures_coded fun _ => building_keeps
  | defineMarks p sl ch en ps tol =>
    exact request_keeps h fun _ => ensures_named fun _ => ensures_namedChannel fun _ => ensures_flag fun _ =>
      ensures_channelMarks fun _ => building_keeps
  | setMarkWindow p sl m c => exact request_keeps h fun _ => ensures_named fun _ => ensures_require fun _ => building_keeps
  | setInspection p sl la e =>
    exact request_keeps h fun _ => ensures_named fun _ => ensures_namedLane fun _ => ensures_entryOrNone fun _ =>
      building_keeps
  | openContext p sl job lanes po li => exact request_keeps h (replyOpenContext_keeps sl job lanes po li)
  | discard p sl => exact request_keeps h (replyDiscard_keeps sl)
  | closeBuild p sl => exact request_keeps h (replyCloseBuild_keeps sl)
  | reopen p sl => exact request_keeps h (replyReopen_keeps sl)
  | activate p sl e => exact request_keeps h (replyActivate_keeps sl e)
  | cancelActivation p => exact request_keeps h replyCancelActivation_keeps
  | suspend p sl => exact request_keeps h (replySuspend_keeps sl)
  | flush p sl => exact request_keeps h (replyFlush_keeps sl)
  | endJob p sl => exact request_keeps h (replyEndJob_keeps sl)
  | probeSequence p sl sq n =>
    exact request_keeps h fun _ => ensures_named fun _ => ensures_named fun _ => ensures_require fun _ =>
      ensures_inState fun _ _ => ensures_require fun _ => ensures_defined fun _ _ => Aside.keeps ⟨rfl, rfl⟩
  | skipAhead p sl sq n =>
    exact request_keeps h fun _ => ensures_named fun _ => ensures_named fun _ => ensures_require fun _ =>
      ensures_inState fun _ _ => ensures_require fun _ => ensures_require fun _ => ensures_defined fun _ _ =>
      Aside.keeps ⟨rfl, rfl⟩
  | cancelBackground p => exact request_keeps h fun u => (replyCancelBackground_aside u).mono fun _ => Aside.keeps
  | setWeb p r tol =>
    exact request_keeps h fun _ => ensures_require fun _ => ensures_require fun _ => (countPosition_aside (by rfl)).keeps
  | setLags p m q g =>
    exact request_keeps h fun _ => ensures_require fun hrange => ensures_geometryFree fun hidle => ensures_require fun hlags =>
      ensures_require fun _ => by
        obtain ⟨hmq, hg⟩ := Bool.and_eq_true_iff.mp hrange
        simp only [Bool.and_eq_true, decide_eq_true_eq] at hlags
        exact setLags_keeps (Bool.and_eq_true_iff.mp hmq).1 hg hidle hlags.1 hlags.2
  | openRun p | closeRun p => exact request_keeps h fun _ => Aside.keeps ⟨rfl, rfl⟩
  | placeHead p hd pl =>
    exact request_keeps h fun _ => ensures_named fun _ => ensures_placed fun _ => ensures_require fun _ =>
      (modifyHead_aside ..).keeps
  | setRegStop p n | setGate p n =>
    exact request_keeps h fun _ => ensures_require fun _ => ensures_require fun _ => Aside.keeps ⟨rfl, rfl⟩
  | reportRead p la ds c =>
    exact request_keeps h fun _ => ensures_namedLane fun _ => ensures_require fun _ => ensures_reportedCheck fun _ =>
      ensures_inWindow fun _ _ => (modifySet_aside (by exact fun _ => rfl) _).keeps
  | reportDefect p la d =>
    exact request_keeps h fun _ => ensures_namedLane fun _ => ensures_require fun _ => ensures_inWindow fun _ _ =>
      ((modifySet_aside (by exact fun _ => rfl) _).trans (notify_aside ..)).keeps
  | rejectSets p t c m =>
    exact request_keeps h fun _ => ensures_require fun _ => ensures_require fun _ => (modifySets_aside (by exact fun _ => rfl) _).keeps
  | releaseJournal p i => exact request_keeps h fun _ => (releaseRecords_journals ..).keeps
  | assignLine p li f u =>
    exact request_keeps h fun _ => ensures_named fun _ => ensures_coded fun _ => ensures_flag fun _ => ensures_require fun _ =>
      ensures_require fun _ => Aside.keeps ⟨rfl, rfl⟩
  | writeLines p m l => exact request_keeps h fun _ => Aside.keeps ⟨rfl, rfl⟩
  | setStop p => exact request_keeps h fun _ => (latchStop_aside ..).keeps
  | clearStop p c => exact request_keeps h fun u => (replyClearStop_aside c u).mono fun _ => Aside.keeps
  | setRole p n r =>
    exact request_keeps h fun _ => ensures_named fun _ => ensures_grantable fun _ => ensures_require fun _ =>
      ensures_require fun _ => (modifyPort_aside ..).keeps
  | setNotices p c =>
    exact request_keeps h fun _ => ensures_require fun _ => (modifyPort_aside ..).keeps
  | readStatus p | readLines p | readBackground p => exact request_keeps h .refl
  | readRegistration p pg => exact request_keeps h .refl
  | readHead p hd => exact request_keeps h fun u => ensures_named fun _ => .refl u
  | readSet p tag pg => exact request_keeps h (replyReadSet_keeps tag (pg.getD 0))
  | readSequence p sl sq pg =>
    exact request_keeps h fun u => (replyWithin_journals (c := .readSequence p sl sq pg) rfl u).mono fun _ => Journals.keeps
  | readQueue p sl sq pg =>
    exact request_keeps h fun u => (replyWithin_journals (c := .readQueue p sl sq pg) rfl u).mono fun _ => Journals.keeps
  | readContext p sl part f =>
    exact request_keeps h fun u => (replyWithin_journals (c := .readContext p sl part f) rfl u).mono fun _ => Journals.keeps
  | readJournal p i n =>
    exact request_keeps h fun u => (replyWithin_journals (c := .readJournal p i n) rfl u).mono fun _ => Journals.keeps

theorem step_keeps {s t : State} (h : step s = .next t) : Keeps s t := by
  unfold step at h
  split at h
  · cases h; exact .refl s
  · rename_i rest _
    have htaken : Aside s { s with pending := rest } := ⟨rfl, rfl⟩
    exact htaken.keeps.trans (exec_keeps h)

/-- Settles O56: the journal's form and the account of its records are among what every step keeps. -/
theorem journalStaysSound : Obligations.JournalStaysSound :=
  fun _ _ h => ⟨(step_keeps h).form, (step_keeps h).space⟩

/-- Ages that fall along the ring, each below G of at most 127, are those of distinct tags and of at most 127 sets. -/
theorem RunSound.ring {s : State} (h : RunSound s) : (s.st.ring.map SetRecord.tag).Nodup ∧ s.st.ring.length ≤ 128 := by
  have hages : (s.st.ring.map fun r => tagAge s r.tag).Nodup := h.ordered.imp Nat.ne_of_gt
  refine ⟨List.Nodup.of_map (tagAge s) (by rwa [List.map_map]), ?_⟩
  have hlag : s.st.gateLag ≤ 127 := by rcases h.lags with ⟨-, -, e⟩ | ⟨-, -, -, e⟩ <;> omega
  have hsub : (s.st.ring.map fun r => tagAge s r.tag) ⊆ List.range s.st.gateLag := fun a ha => by
    obtain ⟨r, hr, rfl⟩ := List.mem_map.mp ha
    exact List.mem_range.mpr (h.young r hr)
  have hlen := (hages.subperm hsub).length_le
  rw [List.length_map, List.length_range] at hlen
  omega

/-- Settles O57: contexts and ring are among what every step keeps, and the ages tell the sets apart. -/
theorem contextsAndRingStaySound : Obligations.ContextsAndRingStaySound :=
  ⟨fun _ _ h => (step_keeps h).run, fun _ => RunSound.ring⟩

end Sys2Proof.Machine
end

section
/-! PROOFS. The allocation of a set: the filling of its entries, the degraded set and the record that joins the ring. -/

namespace Sys2Proof.Machine

/-! ## The lanes of a new set -/

/-- The lane parts of a set stand in the order of the lanes (R65, R66). -/
theorem laneIds_getElem? {n : Nat} {l : LaneId} (h : (l : Nat) < n) : (laneIds n)[(l : Nat)]? = some l := by
  have hfull : ∀ m, 4 ≤ m → laneIds m = List.finRange 4 := fun m hm =>
    List.filter_eq_self.mpr fun i _ => by simpa using i.isLt.trans_le hm
  rcases Nat.lt_or_ge n 4 with hn | hn
  · revert l
    interval_cases n <;> decide
  · rw [hfull n hn]; simp

theorem newSet_lanes_getElem? {c : Context} {l : LaneId} (h : (l : Nat) < c.lanes) (k : SlotId) (x : Cycle)
    (parts : List EntryPart) (left : Nat) : (newSet k c x parts left).lanes[(l : Nat)]? = some (newLane c parts l) := by
  simp [newSet, laneIds_getElem? h]

theorem length_newSet_lanes (k : SlotId) (c : Context) (x : Cycle) (parts : List EntryPart) (left : Nat) :
    (newSet k c x parts left).lanes.length = min c.lanes 4 := by
  simp [newSet, length_laneIds]

/-- A lane starts rejected where an entry of it is UNNUMBERED, and AWAITING where its inspected entry has a number
(R65, R66). -/
theorem newLane_eq (c : Context) (parts : List EntryPart) (l : LaneId) :
    newLane c parts l =
      let short := parts.any fun e => e.lane == l && e.state == .unnumbered
      { inspection := if c.inspection[l].any (fun e => (parts[(e : Nat)]?.bind EntryPart.number).isSome) then .awaiting
          else .notRequired
        reasons := if short then 128 else 0
        primary := if short then some .unnumbered else none } := by
  have hshort : (parts.any fun p => decide (p.lane = l) && p.isUnnumbered) =
      parts.any fun e => e.lane == l && e.state == .unnumbered := rfl
  simp only [newLane, hshort]
  cases parts.any fun e => e.lane == l && e.state == .unnumbered
  · rfl
  · simp [LanePart.add, Reason.index]

/-! ## The record that joins the ring -/

theorem allocate_of_active {s : State} {k : SlotId} {c : Context} (ho : s.st.runOpen = true) (ha : activeSlot s = some k)
    (hc : s.slots[k] = some c) :
    allocate s =
      appendSet (newSet k c s.wpu.cycle (numberSet k c.list s).parts (numberSet k c.list s).left) (numberSet k c.list s).state := by
  unfold allocate
  simp only [ho, ha, hc]

theorem appendSet_of_some {r : SetRecord} {s : State} {c : Context} (hc : s.slots[(r.slot : Nat)] = some c) :
    appendSet r s = { s with
      st := { s.st with ring := s.st.ring ++ [r] },
      slots := s.slots.set r.slot (some { c with inFlight := c.inFlight + 1 }) } :=
  modifyContext_of_some (s := { s with st := { s.st with ring := s.st.ring ++ [r] } }) hc _

/-! ## The degraded set -/

theorem numberSet_of_short {k : SlotId} {l : List AllocEntry} {s : State} (h : s.ij.unreserved < freshCount l) :
    numberSet k l s = { state := s, parts := l.map degradedPart, left := 0 } :=
  if_neg (Nat.not_le.mpr h)

theorem degradedPart_number (e : AllocEntry) : (degradedPart e).number = none := by
  unfold degradedPart EntryPart.number
  cases h : e.mode <;> rfl

/-- A lane of a degraded set that holds another entry than a BLANK one starts rejected, and awaits no read (R60, R65). -/
theorem newLane_degraded {c : Context} {e : AllocEntry} {i : Nat} (hi : c.list[i]? = some e) (hb : e.mode ≠ .blank) :
    newLane c (c.list.map degradedPart) e.lane =
      { inspection := .notRequired, reasons := 128, primary := some .unnumbered } := by
  have hshort : ((c.list.map degradedPart).any fun x => x.lane == e.lane && x.state == .unnumbered) = true :=
    List.any_eq_true.mpr ⟨degradedPart e, List.mem_map_of_mem (List.mem_of_getElem? hi), by simp [degradedPart, hb]⟩
  rw [newLane_eq]
  simp only [hshort, if_true]
  cases c.inspection[e.lane] with
  | none => rfl
  | some j => simp [degradedPart_number]

/-- Settles O28: the numbering leaves the state alone, and the record takes the degraded parts. -/
theorem shortJournalDegradesSet : Obligations.ShortJournalDegradesSet := by
  intro s k c ho ha hc hshort
  have hset := numberSet_of_short (k := k) (l := c.list) hshort
  have halloc := allocate_of_active ho ha hc
  rw [hset] at halloc
  refine ⟨newSet k c s.wpu.cycle (c.list.map degradedPart) 0, ?_, rfl, rfl, rfl, rfl, length_newSet_lanes .., ?_, ?_⟩
  · rw [halloc]
    exact appendSet_of_some (r := newSet k c s.wpu.cycle (c.list.map degradedPart) 0) hc
  · exact fun i e hi => ⟨degradedPart e, by simp [newSet, hi], rfl, rfl⟩
  · exact fun i e hi hb hl => by rw [newSet_lanes_getElem? hl, newLane_degraded hi hb]

/-! ## The filling of one entry -/

theorem fillEntry_blank {e : AllocEntry} (h : e.mode = .blank) (k : SlotId) (a : Filling) :
    fillEntry k a e = a.push e.lane none .blank := by
  simp only [fillEntry, h]

theorem fillEntry_repeated {e : AllocEntry} {b : EntryId} (h : e.mode = .repeated b) (k : SlotId) (a : Filling) :
    fillEntry k a e = a.push e.lane none (repeatOf b a.parts) := by
  simp only [fillEntry, h]

theorem repeatOf_numbered {b : EntryId} {parts : List EntryPart} {part : EntryPart} {n : Number}
    (hp : parts[(b : Nat)]? = some part) (hn : part.state = .numbered n) :
    repeatOf b parts = .numbered { n with origin := .repeated b n.origin.root } := by
  simp only [repeatOf, hp, Option.bind_some, EntryPart.number, hn]

theorem repeatOf_unnumbered {b : EntryId} {parts : List EntryPart} {part : EntryPart}
    (hp : parts[(b : Nat)]? = some part) (hn : part.state = .unnumbered) : repeatOf b parts = .unnumbered := by
  simp only [repeatOf, hp, Option.bind_some, EntryPart.number, hn]

section
variable {k : SlotId} {a : Filling} {c : Context} {q : SeqId} {x : Sequence} (hc : a.state.slots[(k : Nat)] = some c)
  (hx : c.sequences[(q : Nat)] = some x) {e : AllocEntry} {rf : Bool} (he : e.mode = .fresh q rf)
include hc hx he

/-- A reprint-first entry takes the oldest queued number (R61). -/
theorem fillEntry_reprint {o : QueueEntry} {rest : List QueueEntry} (hrf : rf = true) (ho : x.queue = o :: rest) :
    fillEntry k a e = fillReprint k e.lane q x o a := by
  subst hrf
  simp only [fillEntry, he, Fin.getElem_fin, hc, hx, ho]

/-- Any other FRESH entry draws (R62). -/
theorem fillEntry_draws (h : rf = false ∨ x.queue = []) :
    fillEntry k a e = fillFresh k e.lane q x (c.rangesOf q) a := by
  simp only [fillEntry, he, Fin.getElem_fin, hc, hx]
  rcases h with rfl | h
  · rfl
  · rw [h]; cases rf <;> rfl

end

/-- Settles O27: an entry by its mode, a FRESH one by its queue and its draw; then the record of the numbered set. -/
theorem entriesFilled : Obligations.EntriesFilled := by
  refine ⟨fun k e a c hc => ⟨fun h => fillEntry_blank h k a, fun b part hb hp => ⟨fun n hn => ?_, fun hn => ?_⟩,
    fun q rf x he hx => ⟨fun o rest hrf ho => ?_, fun hdraws => ⟨fun v w hv => ?_, fun hfails => ?_⟩⟩⟩,
    fun s k c ho ha hc hroom => ?_⟩
  · rw [fillEntry_repeated hb, repeatOf_numbered hp hn]
    cases hr : n.origin <;> rfl
  · rw [fillEntry_repeated hb, repeatOf_unnumbered hp hn]; rfl
  · rw [fillEntry_reprint hc hx he hrf ho, fillReprint, modifySequence_of_some hc hx, Sequence.takeOldest, ho]; rfl
  · rw [fillEntry_draws hc hx he hdraws, fillFresh, show x.draw (c.rangesOf q) = _ from hv]
    simp only [modifySequence_of_some hc hx]
    rfl
  · rw [fillEntry_draws hc hx he hdraws, fillFresh, show x.draw (c.rangesOf q) = _ from hfails]
    simp only [modifySequence_of_some hc hx]
    rfl
  · have hset : numberSet k c.list s = c.list.foldl (fillEntry k)
        { state := reserveRecords (freshCount c.list) s, parts := [], left := freshCount c.list } := if_pos hroom
    refine ⟨newSet k c s.wpu.cycle (numberSet k c.list s).parts (numberSet k c.list s).left, ?_, rfl, rfl, ?_, ?_, rfl,
      fun h => ?_, length_newSet_lanes .., fun l hl => ?_⟩
    · rw [allocate_of_active ho ha hc, hset]; rfl
    · rw [hset]; rfl
    · rw [hset]; rfl
    · simp [newSet]
    · rw [newSet_lanes_getElem? hl, newLane_eq, hset]; rfl

end Sys2Proof.Machine
end

section
/-! PROOFS. The requests that build a job. -/

namespace Sys2Proof.Machine

/-! ## Values within their ranges -/

theorem namedChannel_fin (ch : ChannelId) (k : ChannelId → Reply) : namedChannel (ch + 1) k = k ch := by
  have hle : (ch : Nat) + 1 ≤ 6 := ch.isLt
  simp [namedChannel, hle]

theorem entryOrNone_fin (e : EntryId) (k : Option EntryId → Reply) : entryOrNone e k = k (some e) := by
  have hne : (e : Nat) ≠ 255 := by omega
  simp [entryOrNone, hne]

theorem itemsOf_of_map {raw : List RawItem} {items : List FormatItem} (h : raw.map itemOf = items.map some) :
    itemsOf raw = some items := by
  induction raw generalizing items with
  | nil => cases items with
    | nil => rfl
    | cons => cases h
  | cons i is ih => cases items with
    | nil => cases h
    | cons x xs =>
      simp only [List.map_cons, List.cons.injEq] at h
      simp only [itemsOf, h.1, ih h.2]

theorem channelMarks_enabled {ps : List Nat} {tol : Nat} (hlen : 1 ≤ ps.length ∧ ps.length ≤ 4) (hps : ∀ x ∈ ps, x ≤ 479999)
    (htol : tol ≤ 4095) (k : Option ChannelMarks → Reply) :
    channelMarks true ps tol k = k (some { positions := ps, tolerance := tol }) := by
  have hall : ps.all (· ≤ 479999) = true := List.all_eq_true.mpr fun x hx => decide_eq_true (hps x hx)
  simp only [channelMarks, if_true, hlen, htol, hall, decide_true, Bool.and_true, require_true]

/-! ## The item that each request writes -/

section
variable {s : State} {k : SlotId} {c : Context} (hc : s.slots[(k : Nat)] = some c) (hb : c.state = .building)
include hc hb

theorem building_of_some (f : Context → Reply) : building s k f = f c := by
  simp [building, inState_some hc, hb]

/-- What a request does to a context in BUILDING. -/
theorem building_accept (f : Context → Context) (r : Context → List Byte) :
    (building s k fun c => .accept (modifyContext k f s) (r c)) =
      .accept { s with slots := s.slots.set k (some (f c)) } (r c) := by
  rw [building_of_some hc hb, modifyContext_of_some hc]

theorem replyDefineEntry_accept {e : EntryId} {mode source rf : Nat} {m : EntryMode} (l : LaneId)
    (hm : ∀ f : EntryMode → Reply, entryMode mode source rf f = f m) (he : (e : Nat) ≤ c.list.length) :
    replyDefineEntry k e (l + 1) mode source rf s =
      .accept { s with slots := s.slots.set k (some { c with list := putEntry e { lane := l, mode := m } c.list }) } [] := by
  simp only [replyDefineEntry, named_fin, namedLane_fin, hm, building_of_some hc hb, he, decide_true, require_true,
    modifyContext_of_some hc]

theorem replyTrimList_accept {n : Nat} (hn : n ≤ 16) :
    replyTrimList k n s =
      .accept { s with slots := s.slots.set k (some { c with list := c.list.take n }) } [byte (min n c.list.length)] := by
  simp only [replyTrimList, named_fin, hn, decide_true, require_true, building_accept hc hb]

theorem replyAssignHead_accept {a : Option RawAssignment} {x : Option Assignment} (h : HeadId)
    (ha : ∀ f : Option Assignment → Reply, assigned a f = f x) :
    replyAssignHead k h a s =
      .accept { s with slots := s.slots.set k (some { c with assignments := c.assignments.set h x }) } [] := by
  simp only [replyAssignHead, named_fin, ha, building_accept hc hb]

theorem replyDefineFormat_accept {raw : List RawItem} {items : List FormatItem} (f : FormatId)
    (hlen : 1 ≤ raw.length ∧ raw.length ≤ 6) (hitems : raw.map itemOf = items.map some) :
    replyDefineFormat k f raw s =
      .accept { s with slots := s.slots.set k (some { c with formats := c.formats.set f (some items) }) } [] := by
  simp only [replyDefineFormat, named_fin, hlen, decide_true, Bool.and_true, require_true, itemsOf_of_map hitems, coded,
    building_accept hc hb]

theorem replyDefineMarks_accept {ps : List Nat} {tol : Nat} {m : Option ChannelMarks} (ch : ChannelId) (en : Bool)
    (hm : ∀ f : Option ChannelMarks → Reply, channelMarks en ps tol f = f m) :
    replyDefineMarks k (ch + 1) (if en then 1 else 0) ps tol s =
      .accept { s with slots := s.slots.set k (some { c with
        marks := { c.marks with channels := c.marks.channels.set ch m } }) } [] := by
  simp only [replyDefineMarks, named_fin, namedChannel_fin, flag_ite, hm, building_accept hc hb, Context.modifyMarks]

theorem replySetMarkWindow_accept {m cl : Nat} (hm : m ≤ 65535) (hcl : 1 ≤ cl ∧ cl ≤ 65535) :
    replySetMarkWindow k m cl s =
      .accept { s with slots := s.slots.set k (some { c with
        marks := { c.marks with maskEnd := m, closeAt := cl } }) } [] := by
  simp only [replySetMarkWindow, named_fin, hm, hcl, decide_true, Bool.and_true, require_true, building_accept hc hb,
    Context.modifyMarks]

theorem replySetInspection_accept {entry : Nat} {e : Option EntryId} (l : LaneId)
    (he : ∀ f : Option EntryId → Reply, entryOrNone entry f = f e) :
    replySetInspection k (l + 1) entry s =
      .accept { s with slots := s.slots.set k (some { c with inspection := c.inspection.set l e }) } [] := by
  simp only [replySetInspection, named_fin, namedLane_fin, he, building_accept hc hb]

end

/-- Settles O23: each request meets its checks in BUILDING and writes the item that it names. -/
theorem buildEdited : Obligations.BuildEdited := by
  intro p s k c hc hb
  have hc : (takenOn p s).slots[(k : Nat)] = some c := hc
  refine ⟨fun e l q rf he => ?_, fun e b l rf he => ?_, fun e l source rf he => ?_, fun n hn => ?_, fun h e f => ?_,
    fun h => ?_, fun f raw items hlen hlen' hitems => ?_, fun ch ps tol hlen hlen' hps htol => ?_, fun ch ps tol => ?_,
    fun m cl hm hcl hcl' => ?_, fun l e => ?_, fun l => ?_⟩
  · exact acceptedAs_of_reply rfl
      (replyDefineEntry_accept hc hb l (fun f => by simp only [entryMode, named_fin, flag_ite]) he)
  · exact acceptedAs_of_reply rfl (replyDefineEntry_accept hc hb l (fun f => by simp only [entryMode, named_fin]) he)
  · exact acceptedAs_of_reply rfl (replyDefineEntry_accept hc hb l (fun f => rfl) he)
  · exact acceptedAs_of_reply rfl (replyTrimList_accept hc hb hn)
  · exact acceptedAs_of_reply rfl (replyAssignHead_accept hc hb h fun f => by simp only [assigned, named_fin])
  · exact acceptedAs_of_reply rfl (replyAssignHead_accept hc hb h fun f => rfl)
  · exact acceptedAs_of_reply rfl (replyDefineFormat_accept hc hb f ⟨hlen, hlen'⟩ hitems)
  · exact acceptedAs_of_reply rfl
      (replyDefineMarks_accept hc hb ch true (channelMarks_enabled ⟨hlen, hlen'⟩ hps htol))
  · exact acceptedAs_of_reply rfl (replyDefineMarks_accept hc hb ch false fun f => rfl)
  · exact acceptedAs_of_reply rfl (replySetMarkWindow_accept hc hb hm ⟨hcl, hcl'⟩)
  · exact acceptedAs_of_reply rfl (replySetInspection_accept hc hb l (entryOrNone_fin e))
  · exact acceptedAs_of_reply rfl (replySetInspection_accept hc hb l fun f => rfl)

end Sys2Proof.Machine
end

section
/-! PROOFS. Requests on the wire: the numbers of a body, the code that a parsed request has, and the requests that a boundary
takes. -/

namespace Sys2Proof

/-! ## Numbers -/

/-- The bytes of a number see nothing of what stands above them. -/
theorem be_mod {n m : Nat} (h : n ≤ m) (v : Nat) : be n (v % 256 ^ m) = be n v := by
  induction n with
  | zero => rfl
  | succ n ih =>
    have hpow : (256 : Nat) ^ m = 256 ^ n * 256 * 256 ^ (m - n - 1) := by
      rw [← pow_succ, ← pow_add]; congr 1; omega
    have hbyte : BitVec.ofNat 8 (v % 256 ^ m / 256 ^ n) = BitVec.ofNat 8 (v / 256 ^ n) := by
      refine BitVec.eq_of_toNat_eq ?_
      rw [BitVec.toNat_ofNat, BitVec.toNat_ofNat, hpow, mul_assoc, Nat.mod_mul_right_div_self, Nat.mod_mul_right_mod]
    rw [be, be, hbyte, ih (by omega)]

theorem takeNumber_be {n v : Nat} (h : v < 256 ^ n) (acc : Nat) (rest : List Byte) :
    takeNumber n acc (be n v ++ rest) = some (acc * 256 ^ n + v, rest) := by
  induction n generalizing v acc with
  | zero =>
    have hzero : v = 0 := by simpa using h
    subst hzero
    simp [takeNumber, be]
  | succ n ih =>
    have hpos : 0 < 256 ^ n := by positivity
    have hbyte : (BitVec.ofNat 8 (v / 256 ^ n)).toNat = v / 256 ^ n := by
      rw [BitVec.toNat_ofNat]
      exact Nat.mod_eq_of_lt (Nat.div_lt_of_lt_mul (by rwa [pow_succ] at h))
    have hsplit := Nat.div_add_mod v (256 ^ n)
    rw [be, List.cons_append, takeNumber, ← be_mod (le_refl n), ih (Nat.mod_lt _ hpos), hbyte]
    congr 2
    calc (acc * 256 + v / 256 ^ n) * 256 ^ n + v % 256 ^ n
        = acc * 256 ^ (n + 1) + (256 ^ n * (v / 256 ^ n) + v % 256 ^ n) := by ring
      _ = acc * 256 ^ (n + 1) + v := by rw [hsplit]

theorem takeNumber_length {n acc v : Nat} {bs rest : List Byte} (h : takeNumber n acc bs = some (v, rest)) :
    bs.length = n + rest.length := by
  induction n generalizing acc bs with
  | zero => cases h; simp
  | succ n ih => cases bs with
    | nil => cases h
    | cons b bs => rw [List.length_cons, ih h]; omega

theorem fields_length {ws : List Nat} {bs : List Byte} {vs : List Nat} (h : fields ws bs = some vs) :
    bs.length = ws.sum := by
  induction ws generalizing bs vs with
  | nil => cases bs with
    | nil => rfl
    | cons => cases h
  | cons w ws ih =>
    unfold fields at h
    split at h
    · cases h
    · rename_i v rest hv
      obtain ⟨_, hws, -⟩ := Option.map_eq_some_iff.mp h
      rw [takeNumber_length hv, ih hws, List.sum_cons]

/-- A body of another length holds no such numbers (R190 check 4). -/
theorem fields_eq_none {ws : List Nat} {bs : List Byte} (h : bs.length ≠ ws.sum) : fields ws bs = none := by
  by_contra hsome
  obtain ⟨vs, hvs⟩ := Option.ne_none_iff_exists'.mp hsome
  exact h (fields_length hvs)

theorem fields_writeFields {l : List (Nat × Nat)} (h : ∀ f ∈ l, f.2 < 256 ^ f.1) :
    fields (l.map Prod.fst) (writeFields l) = some (l.map Prod.snd) := by
  induction l with
  | nil => rfl
  | cons f l ih =>
    have hf := h f (List.mem_cons_self ..)
    have hl := ih fun g hg => h g (List.mem_cons_of_mem f hg)
    simp only [writeFields] at hl
    simp [fields, writeFields, takeNumber_be hf, hl]

/-! ## The code of a parsed request -/

/-- Each row of R197's table gives the request of its own code: in every arm that gives one, the request is written out. -/
theorem parseParameters_code {p : PortId} {k : Nat} {bs : List Byte} {c : Instr} (h : parseParameters p k bs = some c) :
    requestCode c = some k := by
  unfold parseParameters at h
  split at h <;> repeat' split at h
  all_goals simp only [Option.map_eq_some_iff, Option.some.injEq, reduceCtorEq] at h
  all_goals grind [requestCode]

/-! ## The requests that a boundary takes, read back from their bodies -/

theorem fitsBytes_iff {n v : Nat} : fitsBytes n v = true ↔ v < 256 ^ n := by simp [fitsBytes]

theorem parse_withdrawReprint {p : PortId} {sl sq v : Nat} (h : Instr.wf (.withdrawReprint p sl sq v) = true) :
    parseRequest p (encodeRequest (.withdrawReprint p sl sq v)) = some (.withdrawReprint p sl sq v) := by
  simp only [Instr.wf, Bool.and_eq_true, fitsBytes_iff] at h
  obtain ⟨⟨hsl, hsq⟩, hv⟩ := h
  have hfields := fields_writeFields (l := [(1, sl), (1, sq), (5, v)]) (by simp_all)
  simp only [List.map_cons, List.map_nil] at hfields
  simp [encodeRequest, requestCode, parseRequest, parseParameters, encodeParameters, hfields]

/-- Two bytes, and a page byte or none, read back: with a page byte the shorter layout does not fit. -/
theorem fields_page {a b : Nat} {pg : Option Nat} (ha : a < 256 ^ 1) (hb : b < 256 ^ 1) (hpg : pageFits pg = true) :
    (pg = none ∧ fields [1, 1] (writeFields [(1, a), (1, b)] ++ writePage pg) = some [a, b]) ∨
    ∃ x, pg = some x ∧ fields [1, 1] (writeFields [(1, a), (1, b)] ++ writePage pg) = none ∧
      fields [1, 1, 1] (writeFields [(1, a), (1, b)] ++ writePage pg) = some [a, b, x] := by
  cases pg with
  | none =>
    have hfields := fields_writeFields (l := [(1, a), (1, b)]) (by simp_all)
    exact .inl ⟨rfl, by simpa [writePage] using hfields⟩
  | some x =>
    have hx : x < 256 ^ 1 := by simpa [pageFits, fitsBytes_iff] using hpg
    have hfields := fields_writeFields (l := [(1, a), (1, b), (1, x)]) (by simp_all)
    refine .inr ⟨x, rfl, fields_eq_none ?_, by simpa [writePage, writeFields] using hfields⟩
    simp [writeFields, writePage, be]

theorem parse_pagedReads {p : PortId} {sl sq : Nat} {pg : Option Nat} (hsl : sl < 256 ^ 1) (hsq : sq < 256 ^ 1)
    (hpg : pageFits pg = true) :
    parseRequest p (encodeRequest (.readSequence p sl sq pg)) = some (.readSequence p sl sq pg) ∧
    parseRequest p (encodeRequest (.readQueue p sl sq pg)) = some (.readQueue p sl sq pg) := by
  simp only [encodeRequest, requestCode, parseRequest, encodeParameters]
  rcases fields_page hsl hsq hpg with ⟨rfl, hshort⟩ | ⟨x, rfl, hshort, hlong⟩
  · simp [parseParameters, hshort]
  · simp [parseParameters, hshort, hlong]

theorem parse_readContext {p : PortId} {sl pa : Nat} {f : Option Nat} (h : Instr.wf (.readContext p sl pa f) = true) :
    parseRequest p (encodeRequest (.readContext p sl pa f)) = some (.readContext p sl pa f) := by
  simp only [Instr.wf, Bool.and_eq_true, fitsBytes_iff, beq_iff_eq] at h
  obtain ⟨⟨⟨hsl, hpa⟩, hf⟩, hpart⟩ := h
  simp only [encodeRequest, requestCode, parseRequest, encodeParameters]
  rcases fields_page hsl hpa hf with ⟨rfl, hshort⟩ | ⟨x, rfl, hshort, hlong⟩
  · have hne : pa ≠ 3 := by simpa using hpart
    simp [parseParameters, hshort, hne]
  · obtain rfl : pa = 3 := by simpa using hpart
    simp [parseParameters, hshort, hlong]

theorem parse_readJournal {p : PortId} {i n : Nat} (h : Instr.wf (.readJournal p i n) = true) :
    parseRequest p (encodeRequest (.readJournal p i n)) = some (.readJournal p i n) := by
  simp only [Instr.wf, Bool.and_eq_true, fitsBytes_iff] at h
  obtain ⟨hi, hn⟩ := h
  have hfields := fields_writeFields (l := [(4, i), (1, n)]) (by simp_all)
  simp only [List.map_cons, List.map_nil] at hfields
  simp [encodeRequest, requestCode, parseRequest, parseParameters, encodeParameters, hfields]

namespace Machine

/-! ## The requests that a boundary takes -/

/-- The codes of WITHDRAW_REPRINT and of the reads that a boundary takes (R136, R137; log 36). -/
def withinCodes : List Nat := [0x19, 0x32, 0x33, 0x34, 0x37, 0x38, 0x39]

theorem replyWithin_code {c : Instr} {act : State → Reply} (h : replyWithin c = some act) :
    ∃ k ∈ withinCodes, requestCode c = some k := by
  unfold replyWithin at h
  split at h
  case h_8 => cases h
  all_goals exact ⟨_, by decide, rfl⟩

/-- A request with one of these codes is served by what the boundary serves, and its body reads back. -/
theorem served_within {c : Instr} {p : PortId} {k : Nat} (hp : portOf c = some p) (hwf : c.wf = true)
    (hk : requestCode c = some k) (hmem : k ∈ withinCodes) :
    ∃ act, replyWithin c = some act ∧ parseRequest p (encodeRequest c) = some c ∧ ∀ s, exec c s = request p c act s := by
  cases c with
  | withdrawReprint _ sl sq v => cases hp; exact ⟨_, rfl, parse_withdrawReprint hwf, fun _ => rfl⟩
  | readSequence _ sl sq pg =>
    cases hp
    simp only [Instr.wf, Bool.and_eq_true, fitsBytes_iff] at hwf
    exact ⟨_, rfl, (parse_pagedReads hwf.1.1 hwf.1.2 hwf.2).1, fun _ => rfl⟩
  | readQueue _ sl sq pg =>
    cases hp
    simp only [Instr.wf, Bool.and_eq_true, fitsBytes_iff] at hwf
    exact ⟨_, rfl, (parse_pagedReads hwf.1.1 hwf.1.2 hwf.2).2, fun _ => rfl⟩
  | readContext _ sl pa f => cases hp; exact ⟨_, rfl, parse_readContext hwf, fun _ => rfl⟩
  | readLines => cases hp; exact ⟨_, rfl, rfl, fun _ => rfl⟩
  | readBackground => cases hp; exact ⟨_, rfl, rfl, fun _ => rfl⟩
  | readJournal _ i n => cases hp; exact ⟨_, rfl, parse_readJournal hwf, fun _ => rfl⟩
  | _ => cases hk <;> exact absurd hmem (by decide)

/-- Whatever else stands at the front of a port waits on (R190; log 36). -/
theorem takeWithin_waits {s : State} {p : PortId}
    (h : ∀ body c act, nextFrame s.ports[p].buffer = some (.sound body) → parseRequest p body = some c →
      replyWithin c ≠ some act) : takeWithin s p = s := by
  rcases takeWithin_cases s p with h' | ⟨body, c, act, hb, hc, ha, -⟩
  · exact h'
  · exact absurd ha (h body c act hb hc)

/-- The first byte of a request's body is its code, so what is read back has that code. -/
theorem parseRequest_code {c d : Instr} {p : PortId} {k : Nat} (hk : requestCode c = some k) (hlt : k < 256)
    (h : parseRequest p (encodeRequest c) = some d) : requestCode d = some k := by
  simp only [encodeRequest, hk, parseRequest] at h
  rw [BitVec.toNat_ofNat, Nat.mod_eq_of_lt hlt] at h
  exact parseParameters_code h

theorem requestCode_lt {c : Instr} {k : Nat} (h : requestCode c = some k) : k < 256 := by
  cases c <;> cases h <;> decide

/-! ## A frame that waits, is lost or is taken at once -/

/-- Every request command stands for its frame (R190; log 2). -/
theorem exec_request {c : Instr} {p : PortId} (h : portOf c = some p) :
    ∃ act : State → Reply, ∀ s, exec c s = request p c act s := by
  cases c <;> cases h <;> exact ⟨_, fun _ => rfl⟩

theorem encodeRequest_pos {c : Instr} {p : PortId} (h : portOf c = some p) : 1 ≤ (encodeRequest c).length := by
  cases c <;> cases h <;> exact Nat.succ_pos _

theorem request_waits {p : PortId} {c : Instr} {act : State → Reply} {s : State} (hfit : fitsFrame (encodeRequest c) = true)
    (h : takeFrame p (.sound (encodeRequest c)) s = .waits (modifyPort p (Port.receive (.sound (encodeRequest c))) s)) :
    request p c act s = .next (modifyPort p (Port.receive (.sound (encodeRequest c))) s) := by
  simp only [request, onFrame, hfit, if_true, h]

theorem markTaken_append {b : List BufferedFrame} (h : nextFrame b = none) (f : RxFrame) :
    markTaken (b ++ [{ frame := f, taken := false }]) = b ++ [{ frame := f, taken := true }] := by
  induction b with
  | nil => rfl
  | cons g b ih =>
    have hall : ∀ x ∈ g :: b, x.taken = true := by simpa [nextFrame] using h
    have hb : nextFrame b = none := by
      simpa [nextFrame] using fun x hx => hall x (List.mem_cons_of_mem g hx)
    simp [markTaken, hall g (List.mem_cons_self ..), ih hb]

theorem nextFrame_append {b : List BufferedFrame} (h : nextFrame b = none) (f : RxFrame) :
    nextFrame (b ++ [{ frame := f, taken := false }]) = some f := by
  have hnone : b.find? (fun f => !f.taken) = none := by simpa [nextFrame] using h
  simp [nextFrame, List.find?_append, hnone]

/-- With no frame waiting and room, a frame that has joined the buffer is taken as one that comes with its command. -/
theorem takeFrame_joined {p : PortId} {f : RxFrame} {s : State} (hnone : nextFrame s.ports[(p : Nat)].buffer = none)
    (hroom : s.ports[(p : Nat)].buffer.length < 2) :
    takeFrame p f (modifyPort p (Port.receive f) s) = takeFrame p f s := by
  have hjoined : (modifyPort p (Port.receive f) s).ports[(p : Nat)] =
      { s.ports[(p : Nat)] with buffer := s.ports[(p : Nat)].buffer ++ [{ frame := f, taken := false }] } := by
    simp [Port.receive, hroom]
  simp only [takeFrame, Fin.getElem_fin, hjoined, nextFrame_append hnone, hnone, hroom, if_true]
  simp [modifyPort, updateAt, Port.receive, hroom, markTaken_append hnone]

theorem request_joined {p : PortId} {c : Instr} {s : State} (act : State → Reply)
    (hfit : fitsFrame (encodeRequest c) = true) (hnone : nextFrame s.ports[(p : Nat)].buffer = none) (hroom : s.ports[(p : Nat)].buffer.length < 2) :
    request p c act s = request p c act (modifyPort p (Port.receive (.sound (encodeRequest c))) s) := by
  simp only [request, onFrame, hfit, if_true, takeFrame_joined hnone hroom]

/-- Settles O51: a request stands for its frame, which waits, is lost or is taken; within a boundary the code decides. -/
theorem requestsWaitTheirTurn : Obligations.RequestsWaitTheirTurn := by
  intro c p s hp
  obtain ⟨act, hexec⟩ := exec_request hp
  have hpos := encodeRequest_pos hp
  refine ⟨fun hlen => ?_, fun hlen => ?_, fun hwf hfront k hk => ⟨fun hmem => ?_, fun hmem => ?_⟩, fun hbody => ?_,
    fun o => ⟨fun h => ?_, fun h => ?_⟩⟩
  · have hfit : fitsFrame (encodeRequest c) = true := by simp [fitsFrame, hpos, hlen]
    refine ⟨fun g hg hne => ?_, fun hnone hfull => ?_, fun hnone hroom => ?_⟩
    · rw [hexec]
      exact request_waits hfit (by simp only [takeFrame, hg, if_neg hne])
    · rw [hexec]
      exact request_waits hfit (by simp only [takeFrame, hnone, if_neg (Nat.not_lt.mpr hfull)])
    · exact (hexec s).trans ((request_joined act hfit hnone hroom).trans (hexec _).symm)
  · have hfit : fitsFrame (encodeRequest c) = false := by simp [fitsFrame]; omega
    rw [hexec, request, onFrame, hfit]
    rfl
  · obtain ⟨act, ha, hparse, hexec⟩ := served_within hp hwf hk hmem
    rw [hexec]
    exact takeWithin_front hfront hparse ha
  · refine takeWithin_waits fun body d act hb hd ha => ?_
    obtain rfl : encodeRequest c = body := by
      rw [hfront.2, Option.some.injEq, RxFrame.sound.injEq] at hb
      exact hb
    obtain ⟨n, hn, hcode⟩ := replyWithin_code ha
    rw [parseRequest_code hk (requestCode_lt hk) hd, Option.some.injEq] at hcode
    exact hmem (hcode ▸ hn)
  · exact takeWithin_waits fun body d act hb hd => by rw [hbody body hb] at hd; cases hd
  · simp only [trackBoundary, h, if_true]
  · simp only [trackBoundary, h, Bool.false_eq_true, if_false]

end Machine

end Sys2Proof
end

section
/-! PROOFS. A head's rule for a boundary: expiry, issue, the order's place in the transmit queue and the characters it
carries. -/

namespace Sys2Proof.Machine

/-! ## The characters of an order -/

theorem digitText_eq (d v : Nat) :
    digitText d v = (List.range d).map fun i => byte (0x30 + v / 10 ^ (d - 1 - i) % 10) := by
  refine List.ext_getElem (by simp [digitText, digitsOf]) fun i _ _ => ?_
  simp [digitText, digitsOf]

/-- The lowest n digits are all zero when what they spell is. -/
theorem digits_zero_iff (w n : Nat) : (∀ m < n, w / 10 ^ m % 10 = 0) ↔ w % 10 ^ n = 0 := by
  induction n with
  | zero => simp [Nat.mod_one]
  | succ n ih =>
    have hpos : 0 < 10 ^ n := by positivity
    rw [Nat.forall_lt_succ_right, ih, Nat.mod_pow_succ]
    constructor
    · rintro ⟨h, h'⟩; rw [h, h', Nat.mul_zero]
    · intro h
      obtain ⟨h, h'⟩ := Nat.add_eq_zero_iff.mp h
      exact ⟨h, (Nat.mul_eq_zero.mp h').resolve_left hpos.ne'⟩

/-- The digits from the first to place i of D are all zero when the number that they spell is. -/
theorem leading_zero_iff {d i : Nat} (h : i < d) (v : Nat) :
    (∀ j ≤ i, v / 10 ^ (d - 1 - j) % 10 = 0) ↔ v / 10 ^ (d - 1 - i) % 10 ^ (i + 1) = 0 := by
  have hplace : ∀ j ≤ i, v / 10 ^ (d - 1 - j) = v / 10 ^ (d - 1 - i) / 10 ^ (i - j) := fun j hj => by
    rw [Nat.div_div_eq_div_mul, ← pow_add]; congr 2; omega
  rw [← digits_zero_iff]
  constructor
  · intro hall m hm
    have hz := hall (i - m) (Nat.sub_le i m)
    rwa [hplace _ (Nat.sub_le i m), Nat.sub_sub_self (by omega)] at hz
  · intro hall j hj
    rw [hplace j hj]
    exact hall (i - j) (by omega)

theorem byte_digit_eq_zero_iff {n : Nat} (h : n < 10) : byte (0x30 + n) = 0x30 ↔ n = 0 := by
  interval_cases n <;> decide

/-- A character becomes a space when it and all before it are zeros, unless it is the last (R81). -/
theorem blankLeading_getElem? (l : List Byte) (i : Nat) :
    (blankLeading l)[i]? = if i + 1 < l.length ∧ ∀ j ≤ i, l[j]? = some 0x30 then some 0x20 else l[i]? := by
  induction l using blankLeading.induct generalizing i with
  | case1 => simp [blankLeading]
  | case2 => simp [blankLeading]
  | case3 y rest ih =>
    rw [blankLeading, if_pos rfl]
    cases i with
    | zero => simp
    | succ i =>
      have hshift : (∀ j ≤ i + 1, (0x30 :: y :: rest : List Byte)[j]? = some 0x30) ↔
          ∀ j ≤ i, (y :: rest)[j]? = some 0x30 :=
        ⟨fun h j hj => h (j + 1) (by omega), fun h j hj => by
          cases j with
          | zero => rfl
          | succ j => exact h j (by omega)⟩
      simp only [hshift, List.getElem?_cons_succ, ih, List.length_cons, Nat.add_lt_add_iff_right]
  | case4 x y rest hx =>
    have hno : ¬∀ j ≤ i, (x :: y :: rest)[j]? = some 0x30 := fun hall => hx (Option.some.inj (hall 0 (Nat.zero_le i)))
    rw [blankLeading, if_neg hx, if_neg fun h => hno h.2]

theorem blankLeading_digitText (d v : Nat) :
    blankLeading (digitText d v) = (List.range d).map fun i =>
      if i + 1 < d ∧ v / 10 ^ (d - 1 - i) % 10 ^ (i + 1) = 0 then 0x20 else byte (0x30 + v / 10 ^ (d - 1 - i) % 10) := by
  have hdigit : ∀ j < d, (digitText d v)[j]? = some (byte (0x30 + v / 10 ^ (d - 1 - j) % 10)) := fun j hj => by
    rw [digitText_eq, List.getElem?_map, List.getElem?_range hj]; rfl
  have hlen : (digitText d v).length = d := by simp [digitText_eq]
  refine List.ext_getElem? fun i => ?_
  rw [blankLeading_getElem?, hlen, List.getElem?_map]
  rcases Nat.lt_or_ge i d with hi | hi
  · have hzero : (∀ j ≤ i, (digitText d v)[j]? = some 0x30) ↔ v / 10 ^ (d - 1 - i) % 10 ^ (i + 1) = 0 := by
      rw [← leading_zero_iff hi]
      refine forall₂_congr fun j hj => ?_
      rw [hdigit j (by omega), Option.some.injEq, byte_digit_eq_zero_iff (Nat.mod_lt _ (by decide))]
    simp only [hzero, hdigit i hi, List.getElem?_range hi, Option.map_some]
    split <;> rfl
  · rw [if_neg (by omega), List.getElem?_eq_none (by omega), List.getElem?_eq_none (by simpa using hi)]
    rfl

/-! ## The order's place in the transmit queue -/

/-- An order goes ahead of the first order of its own boundary with a higher head number (R86). -/
theorem insertWaiting_split (w : WaitingOrder) (l : List WaitingOrder) :
    ∃ older later, l = older ++ later ∧ (∀ x ∈ older, ¬(x.boundary = w.boundary ∧ w.head < x.head)) ∧
      (∀ x, later.head? = some x → x.boundary = w.boundary ∧ w.head < x.head) ∧
      insertWaiting w l = older ++ w :: later := by
  induction l with
  | nil => exact ⟨[], [], rfl, by simp, by simp, rfl⟩
  | cons x xs ih =>
    by_cases hx : x.boundary = w.boundary ∧ w.head < x.head
    · exact ⟨[], x :: xs, rfl, by simp, by simpa using hx, by rw [insertWaiting, if_pos hx]; rfl⟩
    · obtain ⟨older, later, rfl, holder, hlater, e⟩ := ih
      exact ⟨x :: older, later, rfl, by simpa using ⟨fun hb => by simpa [hb] using hx, fun y hy => by simpa using holder y hy⟩,
        hlater, by rw [insertWaiting, if_neg hx, e]; rfl⟩

/-! ## Issue -/

theorem markOutcome_reason (h : HeadId) (t : Cycle) (o : HeadOutcome) (why : Reason) (s : State) :
    markOutcome h t o (some why) s = { s with st := { s.st with
      ring := s.st.ring.map fun x => if x.tag = t then settledSet s h o why x else x } } := by
  have hwrite : ∀ r : SetRecord, writeOutcome h o (some why) (headLaneIn s h r) r = settledSet s h o why r := fun r => by
    unfold writeOutcome settledSet headLaneIn
    cases s.slots[r.slot].bind fun c => c.headLane h <;> rfl
  simp only [markOutcome, modifySet, hwrite]

theorem refersUnnumbered_iff {r : SetRecord} {own : EntryId} {items : List FormatItem} :
    refersUnnumbered r own items = true ↔
      ∃ i ∈ items, ∃ (ref : EntryRef) (part : EntryPart), (i = .check ref ∨ ∃ fill, i = .number ref fill) ∧
        r.entries[((ref.resolve own : EntryId) : Nat)]? = some part ∧ part.state = .unnumbered := by
  have hitem : ∀ i : FormatItem, ((i.reference own).any fun e => r.entries[(e : Nat)]?.any EntryPart.isUnnumbered) = true ↔
      ∃ (ref : EntryRef) (part : EntryPart), (i = .check ref ∨ ∃ fill, i = .number ref fill) ∧
        r.entries[((ref.resolve own : EntryId) : Nat)]? = some part ∧ part.state = .unnumbered := fun i => by
    cases i <;> simp [FormatItem.reference, Option.any_eq_true, EntryPart.isUnnumbered]
  simp only [refersUnnumbered, List.any_eq_true, hitem]

theorem issueHead_eq {s : State} {h : HeadId} {p : Placement} {r : SetRecord}
    (hp : s.hou.heads[(h : Nat)].placement = some p) (hr : setAtAge s (p.lag - 1) = some r) :
    issueHead h s = issueOrder h p r s := by
  simp only [issueHead, Fin.getElem_fin, hp, hr]

theorem issueHead_none {s : State} {h : HeadId} {p : Placement} (hp : s.hou.heads[(h : Nat)].placement = some p)
    (hr : setAtAge s (p.lag - 1) = none) : issueHead h s = s := by
  simp only [issueHead, Fin.getElem_fin, hp, hr]

/-- A head state that is no longer PENDING stays (R84). -/
theorem issueOrder_settled {h : HeadId} {r : SetRecord} (hh : r.heads[(h : Nat)] ≠ .pending) (p : Placement) (s : State) :
    issueOrder h p r s = s := by
  unfold issueOrder
  split
  · rename_i hpending _; exact absurd hpending hh
  · rfl

section
variable {s : State} {h : HeadId} {p : Placement} {r : SetRecord} {c : Context} {a : Assignment}
  (hc : s.slots[(r.slot : Nat)] = some c) (ha : c.assignments[(h : Nat)] = some a) (hh : r.heads[(h : Nat)] = .pending)
include hc ha hh

/-- The order due for a PENDING head of the set, by the first case that matches (R84). -/
theorem issueOrder_due :
    issueOrder h p r s =
      if s.hou.heads[(h : Nat)].device ≠ .ready then markOutcome h r.tag .notReady (some .headNotReady) s
      else if refersUnnumbered r a.entry ((c.formats[a.format]).getD []) then markOutcome h r.tag .notIssued none s
      else
        let o : Order :=
          { tag := r.tag, text := imprint c r a.entry ((c.headLane h).getD p.lane) p.ply ((c.formats[a.format]).getD []) }
        let s2 := modifyHead h (fun x => { x with queue := x.queue ++ [o], issued := x.issued + 1 })
          (markOutcome h r.tag .ordered none s)
        { s2 with hou := { s2.hou with
            transmit := insertWaiting { boundary := s.wpu.cycle, head := h, order := o } s2.hou.transmit } } := by
  simp only [issueOrder, Fin.getElem_fin, hc, ha, hh]

theorem issueOrder_notReady (hd : s.hou.heads[(h : Nat)].device ≠ .ready) :
    issueOrder h p r s = { s with st := { s.st with
      ring := s.st.ring.map fun x => if x.tag = r.tag then settledSet s h .notReady .headNotReady x else x } } := by
  rw [issueOrder_due hc ha hh, if_pos hd, markOutcome_reason]

theorem issueOrder_notIssued (hd : s.hou.heads[(h : Nat)].device = .ready)
    (hu : refersUnnumbered r a.entry ((c.formats[a.format]).getD []) = true) :
    issueOrder h p r s = { s with st := { s.st with
      ring := s.st.ring.map fun x => if x.tag = r.tag then { x with heads := x.heads.set h .notIssued } else x } } := by
  rw [issueOrder_due hc ha hh, if_neg (not_not.mpr hd), if_pos hu]
  rfl

theorem issueOrder_ordered {own : AllocEntry} (hown : c.list[(a.entry : Nat)]? = some own)
    (hd : s.hou.heads[(h : Nat)].device = .ready)
    (hu : ¬refersUnnumbered r a.entry ((c.formats[a.format]).getD []) = true) :
    let o : Order :=
      { tag := r.tag, text := ((c.formats[a.format]).getD []).flatMap (itemText c r a.entry own.lane p.ply) }
    issueOrder h p r s = { s with
      st := { s.st with
        ring := s.st.ring.map fun x => if x.tag = r.tag then { x with heads := x.heads.set h .ordered } else x },
      hou := { s.hou with
        heads := s.hou.heads.set h { s.hou.heads[h] with
          queue := s.hou.heads[h].queue ++ [o], issued := s.hou.heads[h].issued + 1 },
        transmit := insertWaiting { boundary := s.wpu.cycle, head := h, order := o } s.hou.transmit } } := by
  have hlane : (c.headLane h).getD p.lane = own.lane := by simp [Context.headLane, ha, hown]
  rw [issueOrder_due hc ha hh, if_neg (not_not.mpr hd), if_neg hu, hlane]
  rfl

end

/-! ## The steps of a boundary -/

theorem expireHead_placement (h i : HeadId) (s : State) :
    (expireHead h s).hou.heads[(i : Nat)].placement = s.hou.heads[(i : Nat)].placement := by
  unfold expireHead
  split
  · rfl
  · extract_lets t
    split
    · simp only [settleLate, modifyHead, markOutcome_hou, dropOrder, updateAt_getElem]
      split <;> rfl
    · rfl

theorem hasLagOne_of_placement {s : State} {h : HeadId} {p : Placement} (hp : s.hou.heads[(h : Nat)].placement = some p) :
    hasLagOne s h = (p.lag == 1) := by
  simp [hasLagOne, hp]

theorem headBoundary_of_placement {s : State} {h : HeadId} {p : Placement}
    (hp : s.hou.heads[(h : Nat)].placement = some p) :
    headBoundary s h = if p.lag = 1 then expireHead h s else issueHead h (expireHead h s) := by
  have hlag : hasLagOne (expireHead h s) h = (p.lag == 1) :=
    hasLagOne_of_placement ((expireHead_placement h h s).trans hp)
  simp only [headBoundary, hlag, beq_iff_eq]

theorem handStep_head_of_placement {s : State} {h : HeadId} {p : Placement}
    (hp : s.hou.heads[(h : Nat)].placement = some p) :
    handStep s (.head h) = if p.lag = 1 then issueHead h s else s := by
  simp only [handStep, hasLagOne_of_placement hp, beq_iff_eq]

theorem handStep_head_unplaced {s : State} {h : HeadId} (hp : s.hou.heads[(h : Nat)].placement = none) :
    handStep s (.head h) = s := by
  simp [handStep, hasLagOne, hp]

/-- Among the heads the arbiter leaves an order of the present boundary (R86). -/
theorem sendOlder_stays {s : State} {w : WaitingOrder} (hw : s.hou.transmit.head? = some w)
    (hb : w.boundary = s.wpu.cycle) : sendOlder s = s := by
  obtain ⟨rest, hrest⟩ := List.head?_eq_some_iff.mp hw
  simp only [sendOlder, hrest, hb, if_true]

theorem sendOlder_sends {s : State} (h : ∀ w, s.hou.transmit.head? = some w → w.boundary ≠ s.wpu.cycle) :
    sendOlder s = sendOrder s := by
  unfold sendOlder
  split
  · rename_i w rest hw
    exact if_neg (h w (by rw [hw]; rfl))
  · rename_i hw
    simp [sendOrder, hw]

/-! ## The head's rule -/

/-- The order due of a READY head joins the head's queue and takes its place in the transmit queue (R84, R85, R86). -/
theorem issueHead_ordered {s : State} {h : HeadId} {p : Placement} {r : SetRecord} {c : Context} {a : Assignment} {own : AllocEntry}
    (hp : s.hou.heads[(h : Nat)].placement = some p) (hr : setAtAge s (p.lag - 1) = some r)
    (hc : s.slots[(r.slot : Nat)] = some c) (ha : c.assignments[(h : Nat)] = some a)
    (hown : c.list[(a.entry : Nat)]? = some own) (hh : r.heads[(h : Nat)] = .pending)
    (hd : s.hou.heads[(h : Nat)].device = .ready)
    (hu : ¬refersUnnumbered r a.entry ((c.formats[a.format]).getD []) = true) :
    let o : Order :=
      { tag := r.tag, text := ((c.formats[a.format]).getD []).flatMap (itemText c r a.entry own.lane p.ply) }
    ∃ older later : List WaitingOrder, s.hou.transmit = older ++ later ∧
      (∀ w ∈ older, ¬(w.boundary = s.wpu.cycle ∧ h < w.head)) ∧
      (∀ w, later.head? = some w → w.boundary = s.wpu.cycle ∧ h < w.head) ∧
      issueHead h s = { s with
        st := { s.st with
          ring := s.st.ring.map fun x => if x.tag = r.tag then { x with heads := x.heads.set h .ordered } else x },
        hou := { s.hou with
          heads := s.hou.heads.set h { s.hou.heads[h] with
            queue := s.hou.heads[h].queue ++ [o], issued := s.hou.heads[h].issued + 1 },
          transmit := older ++ { boundary := s.wpu.cycle, head := h, order := o } :: later } } := by
  intro o
  obtain ⟨older, later, hsplit, holder, hlater, hinsert⟩ :=
    insertWaiting_split { boundary := s.wpu.cycle, head := h, order := o } s.hou.transmit
  refine ⟨older, later, hsplit, holder, hlater, ?_⟩
  rw [issueHead_eq hp hr, issueOrder_ordered hc ha hh hown hd hu, hinsert]

/-- Settles O30: expiry and issue by their cases, the link beside them, every order of the steps, and the characters. -/
theorem ordersIssued : Obligations.OrdersIssued := by
  refine ⟨fun s h p hp => ⟨fun hlag => ?_, fun hlag t ht => ?_, issueHead_none hp, fun r c a own hr hc ha hown => ?_⟩,
    fun s => ⟨fun h => rfl, fun h p => handStep_head_of_placement, fun h => handStep_head_unplaced, rfl,
      fun ⟨w, hw, hb⟩ => sendOlder_stays hw hb, fun hold => congrArg _ (sendOlder_sends hold).symm, rfl, rfl⟩,
    ⟨fun o s => ⟨takeHeads_steps o s, handOver_steps o s⟩, fun link l hl => ?_⟩,
    fun c r own lane ply => ⟨fun t => rfl, rfl, rfl, digitText_eq 5 c.job, fun ref n hn => ⟨fun d hd => ?_, fun hd => ?_,
      fun x hx => ⟨?_, ?_⟩⟩⟩⟩
  · rw [headBoundary_of_placement hp, if_pos hlag]; rfl
  · cases ht; rw [headBoundary_of_placement hp, if_neg hlag]
  · refine ⟨fun hh => ?_, fun hh => ⟨fun hd => ?_, fun hd hu => ?_, fun hd hu => ?_⟩⟩
    · rw [issueHead_eq hp hr, issueOrder_settled hh]
    · rw [issueHead_eq hp hr, issueOrder_notReady hc ha hh hd]
    · rw [issueHead_eq hp hr, issueOrder_notIssued hc ha hh hd (refersUnnumbered_iff.mpr hu)]
    · exact issueHead_ordered hp hr hc ha hown hh hd fun h => hu (refersUnnumbered_iff.mp h)
  · obtain ⟨code, hcode⟩ := permute_onto (l := houSteps link) hl
    refine ⟨code, fun o s => ⟨fun ho hlink => ?_, fun ho hlink => ?_⟩⟩
    · rw [takeHeads, ho, hlink, hcode]
    · rw [handOver, ho, hlink, hcode]
  · simp only [itemText, hn, Option.bind_some, hd]
  · simp only [itemText, hn, Option.bind_some, hd]
  · simp only [itemText, hn, hx, digitText_eq]
  · simp only [itemText, hn, hx, blankLeading_digitText]

end Sys2Proof.Machine
end

section
/-! PROOFS. The checks of CLOSE_BUILD and of ACTIVATE against the press: each passes exactly when its condition holds. -/

namespace Sys2Proof.Machine

/-! ## Tests of each index, and of each head -/

theorem firstFailing_eq_none {n : Nat} {ok : Nat → Bool} : firstFailing n ok = none ↔ ∀ i < n, ok i = true := by
  simp [firstFailing]

theorem firstFailing_fin_eq_none {n : Nat} {p : Fin n → Bool} :
    (firstFailing n fun i => if h : i < n then p ⟨i, h⟩ else true) = none ↔ ∀ i : Fin n, p i = true := by
  rw [firstFailing_eq_none]
  exact ⟨fun hp i => by simpa using hp i i.isLt, fun hp i hi => by simpa [hi] using hp ⟨i, hi⟩⟩

theorem firstFailing_heads_eq_none {p : HeadId → Bool} :
    firstFailing 24 (headTest p) = none ↔ ∀ h : HeadId, p h = true :=
  firstFailing_fin_eq_none

theorem firstFailing_list_eq_none {α : Type} {l : List α} {p : α → Bool} :
    (firstFailing l.length fun i => l[i]?.all p) = none ↔ ∀ x ∈ l, p x = true := by
  rw [firstFailing_eq_none, List.forall_mem_iff_getElem]
  exact ⟨fun h i hi => by simpa [hi] using h i hi, fun h i hi => by simpa [hi] using h i hi⟩

theorem all_heads_iff {c : Context} {p : HeadId → Assignment → Bool} :
    (∀ h : HeadId, c.headMeets h (p h) = true) ↔
      ∀ (h : HeadId) (a : Assignment), c.assignments[h] = some a → p h a = true := by
  simp only [Context.headMeets, Option.all_eq_true_iff_get, Option.eq_some_iff_get_eq]
  exact forall_congr' fun h => ⟨fun hp a ⟨hs, ha⟩ => ha ▸ hp hs, fun hp hs => hp _ ⟨hs, rfl⟩⟩

/-! ## The checks of CLOSE_BUILD (R164) -/

theorem printsIn_iff {c : Context} {i : Nat} {l : LaneId} :
    c.printsIn i l = true ↔ ∃ d : AllocEntry, c.list[i]? = some d ∧ d.lane = l ∧ d.mode ≠ .blank := by
  simp [Context.printsIn, Option.any_eq_true]

theorem repeats_sound_iff {c : Context} :
    firstFailing c.list.length c.repeatSound = none ↔
      ∀ (i : Nat) (e : AllocEntry) (b : EntryId), c.list[i]? = some e → e.mode = .repeated b →
        (b : Nat) < i ∧ c.printsIn b e.lane = true := by
  rw [firstFailing_eq_none]
  constructor
  · intro h i e b he hb
    simpa [Context.repeatSound, he, hb] using h i (List.getElem?_eq_some_iff.mp he).1
  · intro h i hi
    have he := List.getElem?_eq_getElem hi
    cases hm : c.list[i].mode with
    | repeated b => simpa [Context.repeatSound, he, hm] using h i _ b he hm
    | fresh q rf => simp [Context.repeatSound, he, hm]
    | blank => simp [Context.repeatSound, he, hm]

theorem fresh_sound_iff {c : Context} :
    firstFailing c.list.length c.freshSound = none ↔
      ∀ e ∈ c.list, ∀ (q : SeqId) (rf : Bool), e.mode = .fresh q rf → c.sequences[q].isSome = true := by
  unfold Context.freshSound
  rw [firstFailing_list_eq_none]
  refine forall₂_congr fun e _ => ?_
  cases e.mode <;> simp

theorem sequence_sound_iff {x : Sequence} :
    x.sound = true ↔
      x.first < 10 ^ x.digits ∧ x.last < 10 ^ x.digits ∧ (0 < x.step → x.first ≤ x.last) ∧
      (x.step ≤ 0 → x.last ≤ x.first) ∧ min (x.first : Int) x.last ≤ x.value ∧ x.value ≤ max (x.first : Int) x.last := by
  simp only [Sequence.sound, Sequence.lo, Sequence.hi, Bool.and_eq_true, decide_eq_true_eq, Nat.cast_min, Nat.cast_max]
  by_cases hs : 0 < x.step
  · simp [hs, hs.not_ge, and_assoc]
  · simp [hs, not_lt.mp hs, and_assoc]

theorem sequences_sound_iff {c : Context} :
    (firstFailing 8 fun i => if h : i < 8 then c.sequences[i].all Sequence.sound else true) = none ↔
      ∀ (q : SeqId) (x : Sequence), c.sequences[q] = some x → x.sound = true := by
  refine (firstFailing_fin_eq_none (p := fun q : SeqId => c.sequences[q].all Sequence.sound)).trans
    (forall_congr' fun q => ?_)
  cases c.sequences[q] <;> simp

/-- The references of a format's items are those of its NUMBER and CHECK items. -/
theorem all_references_iff {items : List FormatItem} {own : EntryId} {p : Nat → Bool} :
    (items.all fun i => (i.reference own).all p) = true ↔
      ∀ ref : EntryRef, FormatItem.check ref ∈ items ∨ (∃ fill, FormatItem.number ref fill ∈ items) →
        p (ref.resolve own) = true := by
  rw [List.all_eq_true]
  constructor
  · rintro h ref (hc | ⟨fill, hn⟩)
    · exact h _ hc
    · exact h _ hn
  · intro h i hi
    cases i with
    | number ref fill => exact h ref (.inr ⟨fill, hi⟩)
    | check ref => exact h ref (.inl hi)
    | literal _ | lane | ply | job => rfl

/-- With the entries of all heads on the list (check 5) and their formats given, check 7 is about each head's own lane. -/
theorem references_sound_iff {c : Context}
    (hown : ∀ (h : HeadId) (a : Assignment), c.assignments[h] = some a → (a.entry : Nat) < c.list.length) :
    (∀ (h : HeadId) (a : Assignment), c.assignments[h] = some a → c.referencesSound a = true) ↔
      ∀ (h : HeadId) (a : Assignment) (items : List FormatItem) (ref : EntryRef) (own : AllocEntry),
        c.assignments[h] = some a → c.formats[a.format] = some items → c.list[(a.entry : Nat)]? = some own →
        (FormatItem.check ref ∈ items ∨ ∃ fill, FormatItem.number ref fill ∈ items) →
        c.printsIn (ref.resolve a.entry) own.lane = true := by
  constructor
  · intro h hd a items ref own ha hf ho
    have := h hd a ha
    simp only [Context.referencesSound, Context.itemsFor, hf, ho, Option.getD_some, Option.any_some] at this
    exact all_references_iff (p := fun e => c.printsIn e own.lane).mp this ref
  · intro h hd a ha
    obtain ⟨own, ho⟩ : ∃ own, c.list[(a.entry : Nat)]? = some own := ⟨_, List.getElem?_eq_getElem (hown hd a ha)⟩
    cases hf : c.formats[a.format] with
    | none => simp [Context.referencesSound, Context.itemsFor, hf]
    | some items =>
      simp only [Context.referencesSound, Context.itemsFor, hf, ho, Option.getD_some, Option.any_some]
      exact all_references_iff (p := fun e => c.printsIn e own.lane).mpr fun ref => h hd a items ref own ha hf ho

theorem strings_fit_iff {c : Context} :
    (∀ (h : HeadId) (a : Assignment), c.assignments[h] = some a → c.stringFits a = true) ↔
      ∀ (h : HeadId) (a : Assignment) (items : List FormatItem),
        c.assignments[h] = some a → c.formats[a.format] = some items →
        (items.map (c.itemLength a.entry)).sum ≤ 20 := by
  refine forall₂_congr fun h a => ?_
  rw [← forall_comm]
  refine forall_congr' fun _ => ?_
  unfold Context.stringFits Context.itemsFor
  cases c.formats[a.format] <;> simp

theorem inspections_sound_iff {c : Context} :
    (firstFailing 4 fun i =>
      if h : i < 4 then decide (c.lanes ≤ i) || c.inspectionSound ⟨i, h⟩ else true) = none ↔
      ∀ (l : LaneId) (e : EntryId), (l : Nat) < c.lanes → c.inspection[l] = some e → c.printsIn e l = true := by
  refine (firstFailing_fin_eq_none (p := fun l : LaneId => decide (c.lanes ≤ (l : Nat)) || c.inspectionSound l)).trans
    (forall_congr' fun l => ?_)
  unfold Context.inspectionSound
  rcases lt_or_ge (l : Nat) c.lanes with hl | hl
  · cases c.inspection[l] <;> simp [hl, hl.not_ge]
  · simp [hl, hl.not_gt]

theorem ascending_iff (l : List Nat) : ascending l = true ↔ l.Pairwise (· < ·) := by
  rw [← List.isChain_iff_pairwise]
  induction l using ascending.induct with
  | case1 => simp [ascending]
  | case2 => simp [ascending]
  | case3 a b rest ih => simp [ascending, ih]

theorem channels_ascend_iff {c : Context} :
    (firstFailing 6 fun i =>
      if h : i < 6 then c.marks.channels[i].all fun m => ascending m.positions else true) = none ↔
      ∀ (k : ChannelId) (m : ChannelMarks), c.marks.channels[k] = some m → m.positions.Pairwise (· < ·) := by
  refine (firstFailing_fin_eq_none (p := fun k : ChannelId => c.marks.channels[k].all fun m => ascending m.positions)).trans
    (forall_congr' fun k => ?_)
  cases c.marks.channels[k] <;> simp [ascending_iff]

/-! ## The checks of ACTIVATE against the press (R166) -/

/-- Each assigned head has an entry of the list and a placement, which meet a condition together. -/
def PlacedSo (s : State) (c : Context) (p : AllocEntry → Placement → Prop) : Prop :=
  ∀ (h : HeadId) (a : Assignment), c.assignments[h] = some a → ∃ (own : AllocEntry) (x : Placement),
    c.list[(a.entry : Nat)]? = some own ∧ s.hou.heads[h].placement = some x ∧ p own x

theorem all_placements_iff {s : State} {c : Context} {p : HeadId → Placement → Bool} :
    (∀ h : HeadId, placementMeets s c h (p h) = true) ↔
      ∀ (h : HeadId) (a : Assignment), c.assignments[h] = some a →
        ∃ x : Placement, s.hou.heads[h].placement = some x ∧ p h x = true := by
  unfold placementMeets
  rw [all_heads_iff (p := fun h _ => s.hou.heads[h].placement.any (p h))]
  simp only [Option.any_eq_true]

theorem headLane_eq_some {c : Context} {h : HeadId} {a : Assignment} {l : LaneId} (ha : c.assignments[h] = some a) :
    c.headLane h = some l ↔ ∃ own : AllocEntry, c.list[(a.entry : Nat)]? = some own ∧ own.lane = l := by
  simp [Context.headLane, ha]

/-- Checks 2 to 5 together: placed, in the lane of the head's own entry, and within the lags. -/
theorem placements_iff {s : State} {c : Context} :
    (∀ h : HeadId, placementMeets s c h (fun _ => true) = true) ∧
      (∀ h : HeadId, placementMeets s c h (fun p => c.headLane h == some p.lane) = true) ∧
      (∀ h : HeadId, placementMeets s c h (fun p => p.lag ≤ s.st.merge) = true) ∧
      (∀ h : HeadId, placementMeets s c h (fun p => p.lag + 2 ≤ s.st.gateLag) = true) ↔
    PlacedSo s c fun own x => x.lane = own.lane ∧ x.lag ≤ s.st.merge ∧ x.lag + 2 ≤ s.st.gateLag := by
  simp only [all_placements_iff, beq_iff_eq, decide_eq_true_eq]
  constructor
  · rintro ⟨-, hlane, hmerge, hgate⟩ h a ha
    obtain ⟨x, hx, hl⟩ := hlane h a ha
    obtain ⟨y, hy, hm⟩ := hmerge h a ha
    obtain ⟨z, hz, hg⟩ := hgate h a ha
    obtain ⟨own, ho, hol⟩ := (headLane_eq_some ha).mp hl
    obtain rfl := Option.some.inj (hx.symm.trans hy)
    obtain rfl := Option.some.inj (hx.symm.trans hz)
    exact ⟨own, x, ho, hx, hol.symm, hm, hg⟩
  · intro hp
    refine ⟨fun h a ha => ?_, fun h a ha => ?_, fun h a ha => ?_, fun h a ha => ?_⟩ <;>
      obtain ⟨own, x, ho, hx, hl, hm, hg⟩ := hp h a ha
    · exact ⟨x, hx, trivial⟩
    · exact ⟨x, hx, (headLane_eq_some ha).mpr ⟨own, ho, hl.symm⟩⟩
    · exact ⟨x, hx, hm⟩
    · exact ⟨x, hx, hg⟩

theorem encoders_iff {s : State} :
    (if holdsFunction s .encA then if holdsFunction s .encB then none else some ((6 : Nat), (1 : Nat)) else some (6, 0)) =
      none ↔ holdsFunction s .encA = true ∧ holdsFunction s .encB = true := by
  cases holdsFunction s .encA <;> cases holdsFunction s .encB <;> decide

theorem mark_lines_iff {s : State} {c : Context} :
    (firstFailing 6 fun i =>
      if h : i < 6 then c.marks.channels[i].isNone || holdsFunction s (.mark ⟨i, h⟩) else true) = none ↔
      ∀ k : ChannelId, c.marks.channels[k].isSome = true → holdsFunction s (.mark k) = true := by
  refine (firstFailing_fin_eq_none
    (p := fun k : ChannelId => c.marks.channels[k].isNone || holdsFunction s (.mark k))).trans (forall_congr' fun k => ?_)
  cases c.marks.channels[k] <;> simp

theorem gate_lines_iff {s : State} {c : Context} :
    (firstFailing 4 fun i =>
      if h : i < 4 then decide (c.lanes ≤ i) || holdsFunction s (.gate ⟨i, h⟩) else true) = none ↔
      ∀ l : LaneId, (l : Nat) < c.lanes → holdsFunction s (.gate l) = true := by
  refine (firstFailing_fin_eq_none
    (p := fun l : LaneId => decide (c.lanes ≤ (l : Nat)) || holdsFunction s (.gate l))).trans (forall_congr' fun l => ?_)
  rcases lt_or_ge (l : Nat) c.lanes with hl | hl
  · simp [hl, hl.not_ge]
  · simp [hl, hl.not_gt]

theorem buildFailure_eq_none {c : Context} :
    c.buildFailure = none ↔
      (∀ e ∈ c.list, (e.lane : Nat) < c.lanes) ∧
      (∀ (i : Nat) (e : AllocEntry) (b : EntryId), c.list[i]? = some e → e.mode = .repeated b →
        (b : Nat) < i ∧ c.printsIn b e.lane = true) ∧
      (∀ e ∈ c.list, ∀ (q : SeqId) (rf : Bool), e.mode = .fresh q rf → c.sequences[q].isSome = true) ∧
      (∀ (q : SeqId) (x : Sequence), c.sequences[q] = some x → x.sound = true) ∧
      (∀ (h : HeadId) (a : Assignment), c.assignments[h] = some a → (a.entry : Nat) < c.list.length) ∧
      (∀ (h : HeadId) (a : Assignment), c.assignments[h] = some a → c.formats[a.format].isSome = true) ∧
      (∀ (h : HeadId) (a : Assignment), c.assignments[h] = some a → c.referencesSound a = true) ∧
      (∀ (h : HeadId) (a : Assignment), c.assignments[h] = some a → c.stringFits a = true) ∧
      (∀ (l : LaneId) (e : EntryId), (l : Nat) < c.lanes → c.inspection[l] = some e → c.printsIn e l = true) ∧
      (∀ (k : ChannelId) (m : ChannelMarks), c.marks.channels[k] = some m → m.positions.Pairwise (· < ·)) ∧
      c.marks.maskEnd < c.marks.closeAt := by
  simp only [Context.buildFailure, Option.or_eq_none_iff, Option.map_eq_none_iff, firstFailing_list_eq_none,
    repeats_sound_iff, fresh_sound_iff, sequences_sound_iff, firstFailing_heads_eq_none, inspections_sound_iff,
    channels_ascend_iff, all_heads_iff, decide_eq_true_eq, ite_eq_left_iff, reduceCtorEq, imp_false, not_not]

theorem pressFailure_eq_none {s : State} {c : Context} :
    pressFailure s c = none ↔
      (0 < s.st.merge ∧ 0 < s.st.inspect ∧ 0 < s.st.gateLag) ∧
      PlacedSo s c (fun own x => x.lane = own.lane ∧ x.lag ≤ s.st.merge ∧ x.lag + 2 ≤ s.st.gateLag) ∧
      (holdsFunction s .encA = true ∧ holdsFunction s .encB = true) ∧
      (∀ k : ChannelId, c.marks.channels[k].isSome = true → holdsFunction s (.mark k) = true) ∧
      (∀ l : LaneId, (l : Nat) < c.lanes → holdsFunction s (.gate l) = true) := by
  rw [← placements_iff]
  simp only [pressFailure, Option.or_eq_none_iff, Option.map_eq_none_iff, firstFailing_heads_eq_none, encoders_iff,
    mark_lines_iff, gate_lines_iff, ite_eq_left_iff, reduceCtorEq, imp_false, not_not, and_assoc]

/-- Settles O37: one equivalence per check; check 7 needs check 5, which puts each head's own entry on the list, and the
checks 2 to 5 against the press join in one condition on the placement. -/
theorem buildAndPressChecks : Obligations.BuildAndPressChecks := by
  unfold Obligations.BuildAndPressChecks
  refine ⟨fun c => ?_, fun s c => ?_⟩
  · simp only [← printsIn_iff, ← sequence_sound_iff]
    refine buildFailure_eq_none.trans ?_
    refine and_congr .rfl <| and_congr .rfl <| and_congr .rfl <| and_congr .rfl <| and_congr_right fun hown => ?_
    refine and_congr .rfl <| and_congr (references_sound_iff hown) <| and_congr (strings_fit_iff.trans ?_) .rfl
    refine forall₅_congr fun h a items ha hf => ?_
    rw [List.map_congr_left fun i _ => ?_]
    cases i <;> rfl
  · simp only [← holdsFunction_iff]
    exact pressFailure_eq_none

end Sys2Proof.Machine
end

section
/-! PROOFS. What settling an order changes; an order's deadline, COMPLETION and STATE messages. -/

namespace Sys2Proof.Machine

/-! ## Settling one order -/

theorem hasOrder_iff {s : State} {h : HeadId} {t : Cycle} :
    hasOrder s h t = true ↔ ∃ o ∈ s.hou.heads[h].queue, o.tag = t := by
  simp [hasOrder]

theorem hasOrder_eq_false {s : State} {h : HeadId} {t : Cycle} :
    hasOrder s h t = false ↔ ∀ o ∈ s.hou.heads[h].queue, o.tag ≠ t := by
  simp [hasOrder]

/-- A head's order is out of both queues, and the head has counted it. -/
def withoutOrder (h : HeadId) (t : Cycle) (count : Head → Head) (u : Hou) : Hou :=
  { u with
    heads := u.heads.set h (count { u.heads[h] with queue := u.heads[h].queue.filter fun o => o.tag != t }),
    transmit := u.transmit.filter fun w => !(w.head == h && w.order.tag == t) }

theorem modifyHead_dropOrder (h : HeadId) (t : Cycle) (count : Head → Head) (s : State) :
    (modifyHead h count (dropOrder h t s)).hou = withoutOrder h t count s.hou := by
  simp [modifyHead, dropOrder, withoutOrder, updateAt]

theorem settleLate_eq (h : HeadId) (t : Cycle) (s : State) :
    settleLate h t s = { s with
      st := { s.st with ring := s.st.ring.map fun r => if r.tag = t then settledSet s h .late .headLate r else r },
      hou := withoutOrder h t (fun x => { x with late := x.late + 1 }) s.hou } := by
  rw [settleLate, markOutcome_reason, ← modifyHead_dropOrder]; rfl

theorem settleFailed_eq (h : HeadId) (t : Cycle) (s : State) :
    settleFailed h t s = { s with
      st := { s.st with ring := s.st.ring.map fun r => if r.tag = t then settledSet s h .failed .headFailed r else r },
      hou := withoutOrder h t (fun x => { x with failed := x.failed + 1 }) s.hou } := by
  rw [settleFailed, markOutcome_reason, ← modifyHead_dropOrder]; rfl

theorem settlePrinted_eq (h : HeadId) (t : Cycle) (s : State) :
    settlePrinted h t s = { s with
      st := { s.st with ring := s.st.ring.map fun r => if r.tag = t then { r with heads := r.heads.set h .printed } else r },
      hou := withoutOrder h t (fun x => { x with printed := x.printed + 1 }) s.hou } := by
  rw [settlePrinted, ← modifyHead_dropOrder]; rfl

theorem expireHead_unplaced {s : State} {h : HeadId} (hp : s.hou.heads[h].placement = none) : expireHead h s = s := by
  simp only [expireHead, hp]

/-- The order whose deadline is the present boundary is that for the set x - L - 1 (R83). -/
theorem expireHead_placed {s : State} {h : HeadId} {p : Placement} (hp : s.hou.heads[h].placement = some p) :
    expireHead h s = if hasOrder s h (s.wpu.cycle - BitVec.ofNat 32 (p.lag + 1)) then
      settleLate h (s.wpu.cycle - BitVec.ofNat 32 (p.lag + 1)) s else s := by
  simp only [expireHead, hp]

/-- A COMPLETION finds its order outstanding (R89). -/
theorem takeCompletion_held {s : State} {h : HeadId} {t : Cycle} (ho : hasOrder s h t = true) :
    takeCompletion h t .printed s = settlePrinted h t s ∧ takeCompletion h t .failed s = settleFailed h t s := by
  simp only [takeCompletion, ho, if_true, and_self]

/-- A COMPLETION without an outstanding order of its tag is stale (R90). -/
theorem takeCompletion_stale {s : State} {h : HeadId} {t : Cycle} (ho : hasOrder s h t = false) (res : PrintResult) :
    takeCompletion h t res s = notify .headStale (byte h :: wordBytes t ++ [resultCode res]) s := by
  simp [takeCompletion, ho]

/-- Settles O45: an order at its deadline, or answered, is settled by the equation of its outcome. -/
theorem ordersSettled : Obligations.OrdersSettled := by
  unfold Obligations.OrdersSettled
  refine ⟨fun s h => ⟨fun hp => ?_, fun p hp => ⟨fun hno => ?_, fun ho => ?_⟩⟩,
    fun s h t => ⟨fun ho => ⟨?_, ?_⟩, fun hno => ⟨?_, ?_⟩⟩⟩
  · exact congrArg _ (expireHead_unplaced hp)
  · exact congrArg _ ((expireHead_placed hp).trans (by rw [hasOrder_eq_false.mpr hno]; rfl))
  · exact congrArg _ ((expireHead_placed hp).trans (by rw [if_pos (hasOrder_iff.mpr ho), settleLate_eq]; rfl))
  · exact congrArg _ ((takeCompletion_held (hasOrder_iff.mpr ho)).1.trans (settlePrinted_eq h t s))
  · exact congrArg _ ((takeCompletion_held (hasOrder_iff.mpr ho)).2.trans (settleFailed_eq h t s))
  · exact congrArg _ (takeCompletion_stale (hasOrder_eq_false.mpr hno) .printed)
  · exact congrArg _ (takeCompletion_stale (hasOrder_eq_false.mpr hno) .failed)

/-! ## STATE(FAULT): every order of the head fails (R76) -/

/-- A reason that a lane holds is not gained again (R110). -/
theorem add_add (why : Reason) (l : LanePart) : LanePart.add why (LanePart.add why l) = LanePart.add why l := by
  have hbit : (1 : ReasonSet) <<< why.index ≠ 0 := by cases why <;> decide
  simp only [LanePart.add, BitVec.or_assoc, BitVec.or_self, LanePart.mk.injEq, true_and]
  exact if_neg fun h0 => hbit (BitVec.or_eq_zero_iff.mp h0).2

/-- A head that fails a set twice has failed it once. -/
theorem settledSet_twice (s : State) (h : HeadId) (o : HeadOutcome) (why : Reason) (r : SetRecord) :
    settledSet s h o why (settledSet s h o why r) = settledSet s h o why r := by
  unfold settledSet
  cases s.slots[r.slot].bind fun c => c.headLane h with
  | none => simp
  | some l =>
    have hadd : LanePart.add why ∘ LanePart.add why = LanePart.add why := funext (add_add why)
    simp [List.modify_modify_eq, hadd]

/-- A head's orders for some tags are out of both queues, and the head has counted so many failures. -/
def withoutOrders (h : HeadId) (ts : List Cycle) (u : Hou) : Hou :=
  { u with
    heads := u.heads.set h { u.heads[h] with
      queue := u.heads[h].queue.filter fun o => decide (o.tag ∉ ts),
      failed := u.heads[h].failed + BitVec.ofNat 32 ts.length },
    transmit := u.transmit.filter fun w => !(w.head == h && decide (w.order.tag ∈ ts)) }

theorem withoutOrders_nil (h : HeadId) (u : Hou) : withoutOrders h [] u = u := by
  have hself : u.heads.set (h : Nat) u.heads[(h : Nat)] = u.heads := Vector.set_getElem_self h.isLt
  simp only [withoutOrders, List.not_mem_nil, not_false_eq_true, decide_true, List.filter_true, List.length_nil,
    decide_false, Bool.and_false, Bool.not_false, BitVec.add_zero]
  exact congrArg (fun v => { u with heads := v }) hself

theorem withoutOrders_cons (h : HeadId) (t : Cycle) (ts : List Cycle) (u : Hou) :
    withoutOrders h ts (withoutOrder h t (fun x => { x with failed := x.failed + 1 }) u) = withoutOrders h (t :: ts) u := by
  have hcount : ∀ c : BitVec 32, c + 1 + BitVec.ofNat 32 ts.length = c + BitVec.ofNat 32 (ts.length + 1) := fun c => by
    rw [BitVec.ofNat_add, add_assoc, add_comm 1]; rfl
  have hqueue : ∀ o : Order, (decide (o.tag ∉ ts) && o.tag != t) = decide (o.tag ∉ t :: ts) := fun o => by
    by_cases ht : o.tag = t <;> simp [ht]
  have htransmit : ∀ w : WaitingOrder,
      (!(w.head == h && decide (w.order.tag ∈ ts)) && !(w.head == h && w.order.tag == t)) =
        !(w.head == h && decide (w.order.tag ∈ t :: ts)) := fun w => by
    by_cases ht : w.order.tag = t <;> by_cases hh : w.head = h <;> simp [ht, hh]
  simp only [withoutOrders, withoutOrder, List.filter_filter, Fin.getElem_fin, Vector.getElem_set_self, Vector.set_set,
    hcount, hqueue, htransmit, List.length_cons]

theorem foldl_settleFailed_hou (h : HeadId) (ts : List Cycle) (s : State) :
    (ts.foldl (fun s t => settleFailed h t s) s).hou = withoutOrders h ts s.hou := by
  induction ts generalizing s with
  | nil => exact (withoutOrders_nil h s.hou).symm
  | cons t ts ih => rw [List.foldl_cons, ih, settleFailed_eq, withoutOrders_cons]

theorem foldl_settleFailed_st (h : HeadId) (ts : List Cycle) (s : State) :
    (ts.foldl (fun s t => settleFailed h t s) s).st = { s.st with
      ring := s.st.ring.map fun r => if r.tag ∈ ts then settledSet s h .failed .headFailed r else r } := by
  induction ts generalizing s with
  | nil => simp
  | cons t ts ih =>
    have hset : ∀ r : SetRecord, settledSet (settleFailed h t s) h .failed .headFailed r =
        settledSet s h .failed .headFailed r := fun r => by simp only [settledSet, settleFailed_slots]
    rw [List.foldl_cons, ih]
    simp only [hset]
    simp only [settleFailed_eq, List.map_map]
    congr 1
    refine List.map_congr_left fun r _ => ?_
    have htag : (settledSet s h .failed .headFailed r).tag = r.tag := rfl
    by_cases ht : r.tag = t
    · simp [ht, htag, settledSet_twice]
    · simp [ht]

theorem setDevice_same {s : State} {h : HeadId} {d : Device} (hd : s.hou.heads[h].device = d) : setDevice h d s = s :=
  if_pos hd

theorem setDevice_changed {s : State} {h : HeadId} {d : Device} (hd : s.hou.heads[h].device ≠ d) :
    setDevice h d s = notify .headState [byte h, d.code]
      { s with hou := { s.hou with heads := s.hou.heads.set h { s.hou.heads[h] with device := d } } } := if_neg hd

theorem setDevice_hou (h : HeadId) (d : Device) (s : State) :
    (setDevice h d s).hou = { s.hou with heads := s.hou.heads.set h { s.hou.heads[h] with device := d } } := by
  by_cases hd : s.hou.heads[h].device = d
  · have hself : s.hou.heads.set (h : Nat) s.hou.heads[(h : Nat)] = s.hou.heads := Vector.set_getElem_self h.isLt
    rw [setDevice_same hd, ← hd]
    exact congrArg (fun v => { s.hou with heads := v }) hself.symm
  · rw [setDevice_changed hd]; rfl

@[simp] theorem setDevice_st (h : HeadId) (d : Device) (s : State) : (setDevice h d s).st = s.st := by
  unfold setDevice; split <;> rfl

@[simp] theorem setDevice_lm (h : HeadId) (d : Device) (s : State) : (setDevice h d s).lm = s.lm := by
  unfold setDevice; split <;> rfl

theorem setDevice_rest (h : HeadId) (d : Device) (s : State) :
    (setDevice h d s).wpu = s.wpu ∧ (setDevice h d s).mtu = s.mtu ∧ (setDevice h d s).slots = s.slots ∧
      (setDevice h d s).ij = s.ij ∧ (setDevice h d s).background = s.background ∧
      (setDevice h d s).activation = s.activation ∧ (setDevice h d s).pending = s.pending := by
  unfold setDevice; split <;> exact ⟨rfl, rfl, rfl, rfl, rfl, rfl, rfl⟩

theorem withCause_held (c : StopCause) : ∀ set : StopSet, set.getLsbD c.bit = true → withCause set c = set := by
  cases c <;> decide

theorem changeStops_stops (c : StopCause) (now : StopSet) (state : Byte) (s : State) :
    (changeStops c now state s).lm.stops = now := by
  unfold changeStops
  simp only [notify_lm]
  split <;> rfl

/-- Latching a cause puts its bit in the set, where it may stand already (R182). -/
theorem latchStop_stops (c : StopCause) (s : State) : (latchStop c s).lm.stops = withCause s.lm.stops c := by
  unfold latchStop
  split
  · next hc => exact (withCause_held c _ hc).symm
  · exact changeStops_stops ..

/-- The work of STATE(FAULT) before the head's device state changes (R76). -/
def faultHead (h : HeadId) (s : State) : State :=
  if assignedInActive s h then latchStop .headFault (failOrders h s) else failOrders h s

theorem assignedInActive_failOrders (h : HeadId) (s : State) :
    assignedInActive (failOrders h s) h = assignedInActive s h := by
  simp only [assignedInActive, activeSlot, slotIn, slotState, failOrders_slots]

theorem takeStateMessage_fault (h : HeadId) (s : State) :
    takeStateMessage h .fault s = setDevice h .faulted (faultHead h s) := by
  simp only [takeStateMessage, faultHead, assignedInActive_failOrders]

theorem failOrders_hou (h : HeadId) (s : State) :
    (failOrders h s).hou = withoutOrders h (s.hou.heads[h].queue.map Order.tag) s.hou := foldl_settleFailed_hou ..

theorem failOrders_st (h : HeadId) (s : State) : (failOrders h s).st = { s.st with
    ring := s.st.ring.map fun r =>
      if r.tag ∈ s.hou.heads[h].queue.map Order.tag then settledSet s h .failed .headFailed r else r } :=
  foldl_settleFailed_st ..

theorem faultHead_hou (h : HeadId) (s : State) : (faultHead h s).hou = (failOrders h s).hou := by
  unfold faultHead; split <;> simp

theorem faultHead_st (h : HeadId) (s : State) : (faultHead h s).st = (failOrders h s).st := by
  unfold faultHead; split <;> simp

theorem faultHead_stops (h : HeadId) (s : State) :
    (faultHead h s).lm.stops = if assignedInActive s h then s.lm.stops ||| 8 else s.lm.stops := by
  unfold faultHead
  split
  · rw [latchStop_stops, failOrders_lm]; rfl
  · rw [failOrders_lm]

/-- All the orders of a head leave its queue. -/
theorem filter_own_tags (l : List Order) : (l.filter fun o => decide (o.tag ∉ l.map Order.tag)) = [] :=
  List.filter_eq_nil_iff.mpr fun o ho => by simpa using ⟨o, ho, rfl⟩

theorem any_tag_eq (l : List Order) (t : Cycle) : (l.any fun o => o.tag == t) = decide (t ∈ l.map Order.tag) := by
  rw [Bool.eq_iff_iff]; simp

/-- Settles O46: a FAULT is the failing of the head's orders one after another, the latch and the device state. -/
theorem headReportsTaken : Obligations.HeadReportsTaken := by
  unfold Obligations.HeadReportsTaken
  refine fun s h => ⟨fun hd => congrArg Host.Outcome.next (setDevice_same hd),
    fun hd => congrArg Host.Outcome.next (setDevice_changed hd),
    setDevice h .faulted (faultHead h s), congrArg Host.Outcome.next (takeStateMessage_fault h s), ?_, ?_, ?_, ?_⟩
  · rw [setDevice_hou, faultHead_hou, failOrders_hou]
    simp only [withoutOrders, filter_own_tags, any_tag_eq, List.length_map, Fin.getElem_fin, Vector.getElem_set_self,
      Vector.set_set]
  · simp only [setDevice_st, faultHead_st, failOrders_st, any_tag_eq, decide_eq_true_eq]
  · rw [setDevice_lm, faultHead_stops]
  · obtain ⟨hwpu, hmtu, hslots, hij, hback, hact, hpend⟩ := setDevice_rest h .faulted (faultHead h s)
    rw [hwpu, hmtu, hslots, hij, hback, hact, hpend]
    unfold faultHead
    split <;> simp

end Sys2Proof.Machine
end

section
/-! PROOFS. What the head link's receiver does with a byte and with a frame that ends; the frames that a free line sends. -/

namespace Sys2Proof

/-- A number that is read was written so. -/
theorem takeNumber_eq_some {n acc v : Nat} {bs rest : List Byte} (h : takeNumber n acc bs = some (v, rest)) :
    ∃ u < 256 ^ n, v = acc * 256 ^ n + u ∧ bs = be n u ++ rest := by
  induction n generalizing acc bs with
  | zero => cases h; exact ⟨0, by simp [be]⟩
  | succ n ih => cases bs with
    | nil => cases h
    | cons b bs =>
      obtain ⟨u, hu, rfl, rfl⟩ := ih h
      have hb : b.toNat < 256 := b.isLt
      have hdiv : (b.toNat * 256 ^ n + u) / 256 ^ n = b.toNat := by
        rw [Nat.mul_comm, Nat.mul_add_div (by positivity), Nat.div_eq_of_lt hu, Nat.add_zero]
      have hmod : be n (b.toNat * 256 ^ n + u) = be n u := by
        rw [← be_mod (le_refl n), Nat.mul_comm, Nat.mul_add_mod, Nat.mod_eq_of_lt hu]
      refine ⟨b.toNat * 256 ^ n + u, ?_, by ring, ?_⟩
      · calc b.toNat * 256 ^ n + u < b.toNat * 256 ^ n + 256 ^ n := by omega
          _ = (b.toNat + 1) * 256 ^ n := by ring
          _ ≤ 256 * 256 ^ n := Nat.mul_le_mul_right _ hb
          _ = 256 ^ (n + 1) := by ring
      · rw [be, hdiv, hmod, BitVec.ofNat_toNat, BitVec.setWidth_eq]; rfl

/-- Bytes that hold numbers of the given widths are those numbers written one after another. -/
theorem fields_eq_some {ws : List Nat} {bs : List Byte} {vs : List Nat} (h : fields ws bs = some vs) :
    bs = writeFields (ws.zip vs) ∧ ∀ f ∈ ws.zip vs, f.2 < 256 ^ f.1 := by
  induction ws generalizing bs vs with
  | nil => cases bs with
    | nil => exact ⟨rfl, by simp⟩
    | cons => cases h
  | cons w ws ih =>
    unfold fields at h
    split at h
    · cases h
    · rename_i v rest hv
      obtain ⟨vs, hws, rfl⟩ := Option.map_eq_some_iff.mp h
      obtain ⟨u, hu, rfl, rfl⟩ := takeNumber_eq_some hv
      obtain ⟨rfl, hrest⟩ := ih hws
      simp only [Nat.zero_mul, Nat.zero_add, List.zip_cons_cons]
      exact ⟨rfl, List.forall_mem_cons.mpr ⟨hu, hrest⟩⟩

end Sys2Proof

namespace Sys2Proof.Machine

/-! ## The head link's receiver (R88, R188) -/

/-- A receiver in HUNTING stays there. -/
theorem headLinkHunting_of_hunting {s : State} (h : s.hou.receiver.inFrame = false) : headLinkHunting s = s := by
  have hr : s.hou.receiver = .hunting := by
    cases hrec : s.hou.receiver <;> simp_all [Receiver.inFrame]
  rw [headLinkHunting, ← hr]

theorem endHeadFrame_eq (s : State) : (if s.hou.receiver.inFrame then headLinkHunting s else s) = headLinkHunting s := by
  cases h : s.hou.receiver.inFrame with
  | true => rfl
  | false => exact (headLinkHunting_of_hunting h).symm

theorem headLinkByteReceived_within {s : State} {b : Byte} {r : Receiver} (h : s.hou.receiver.step b = .within r) :
    exec (.headLinkByteReceived b) s = .next { s with hou := { s.hou with receiver := r } } := by
  change execHeadLinkByteReceived b s = _
  rw [execHeadLinkByteReceived, h]

theorem headLinkByteReceived_ended {s : State} {b : Byte} {f : RxFrame} (h : s.hou.receiver.step b = .ended f) :
    exec (.headLinkByteReceived b) s = .next (takeHeadFrame f (headLinkHunting s)) := by
  change execHeadLinkByteReceived b s = _
  rw [execHeadLinkByteReceived, h]

/-! ## The frames of the head link (R200) -/

/-- A COMPLETION as a frame carries it. -/
def completionBody (h : HeadId) (t : Cycle) (res : PrintResult) : List Byte :=
  2 :: byte h :: be 4 t.toNat ++ [if res = .printed then 0 else 1]

/-- A STATE message as a frame carries it. -/
def stateBody (h : HeadId) (rep : HeadReport) : List Byte := [3, byte h, if rep = .ready then 0 else 1]

theorem fields_completionBody (h : HeadId) (t : Cycle) (res : PrintResult) :
    fields [1, 1, 4, 1] (completionBody h t res) = some [2, (h : Nat), t.toNat, if res = .printed then 0 else 1] := by
  have hbytes : completionBody h t res =
      writeFields [(1, 2), (1, h), (4, t.toNat), (1, if res = .printed then 0 else 1)] := by
    cases res <;> simp [completionBody, writeFields, be, byte]
  have hh : (h : Nat) < 256 := by omega
  have hres : (if res = .printed then 0 else 1) < 256 := by split <;> decide
  rw [hbytes]
  exact fields_writeFields (l := [(1, 2), (1, (h : Nat)), (4, t.toNat), (1, if res = .printed then 0 else 1)])
    (by simpa using ⟨hh, t.isLt, hres⟩)

theorem fields_stateBody (h : HeadId) (rep : HeadReport) :
    fields [1, 1, 1] (stateBody h rep) = some [3, (h : Nat), if rep = .ready then 0 else 1] := by
  have hbytes : stateBody h rep = writeFields [(1, 3), (1, h), (1, if rep = .ready then 0 else 1)] := by
    cases rep <;> simp [stateBody, writeFields, be, byte]
  have hh : (h : Nat) < 256 := by omega
  have hrep : (if rep = .ready then 0 else 1) < 256 := by split <;> decide
  rw [hbytes]
  exact fields_writeFields (l := [(1, 3), (1, (h : Nat)), (1, if rep = .ready then 0 else 1)])
    (by simpa using ⟨hh, hrep⟩)

theorem completionBody_of_fields {body : List Byte} {h : HeadId} {t : Nat} {res : PrintResult}
    (hf : fields [1, 1, 4, 1] body = some [2, (h : Nat), t, if res = .printed then 0 else 1]) :
    body = completionBody h (BitVec.ofNat 32 t) res := by
  obtain ⟨rfl, hrange⟩ := fields_eq_some hf
  have ht : (BitVec.ofNat 32 t).toNat = t := Nat.mod_eq_of_lt (hrange (4, t) (by simp))
  rw [completionBody, ht]
  cases res <;> simp [writeFields, be, byte]

theorem stateBody_of_fields {body : List Byte} {h : HeadId} {rep : HeadReport}
    (hf : fields [1, 1, 1] body = some [3, (h : Nat), if rep = .ready then 0 else 1]) : body = stateBody h rep := by
  obtain ⟨rfl, -⟩ := fields_eq_some hf
  cases rep <;> simp [stateBody, writeFields, be, byte]

theorem takeHeadFrame_completion (h : HeadId) (t : Cycle) (res : PrintResult) (s : State) :
    takeHeadFrame (.sound (completionBody h t res)) s = takeCompletion h t res s := by
  simp only [takeHeadFrame, fields_completionBody]
  cases res <;> simp

theorem takeHeadFrame_state (h : HeadId) (rep : HeadReport) (s : State) :
    takeHeadFrame (.sound (stateBody h rep)) s = takeStateMessage h rep s := by
  have hno : fields [1, 1, 4, 1] (stateBody h rep) = none := fields_eq_none (by simp [stateBody])
  simp only [takeHeadFrame, fields_stateBody, hno]
  cases rep <;> simp

/-- Every other frame is discarded (R88). -/
theorem takeHeadFrame_other {body : List Byte} (hc : ∀ h t res, body ≠ completionBody h t res)
    (hs : ∀ h rep, body ≠ stateBody h rep) (s : State) : takeHeadFrame (.sound body) s = s := by
  have hnoc : ∀ (h : HeadId) (t : Nat) (res : PrintResult),
      fields [1, 1, 4, 1] body ≠ some [2, (h : Nat), t, if res = .printed then 0 else 1] :=
    fun _ _ _ hf => hc _ _ _ (completionBody_of_fields hf)
  have hnos : ∀ (h : HeadId) (rep : HeadReport),
      fields [1, 1, 1] body ≠ some [3, (h : Nat), if rep = .ready then 0 else 1] :=
    fun _ _ hf => hs _ _ (stateBody_of_fields hf)
  simp only [takeHeadFrame]
  split
  · next _ _ h t res hf =>
    split
    · next hh =>
      rw [if_neg fun hres => hnoc ⟨h, hh⟩ t .printed (by simpa [hres] using hf),
        if_neg fun hres => hnoc ⟨h, hh⟩ t .failed (by simpa [hres] using hf)]
    · rfl
  · next h rep hf _ =>
    split
    · next hh =>
      rw [if_neg fun hrep => hnos ⟨h, hh⟩ .ready (by simpa [hrep] using hf),
        if_neg fun hrep => hnos ⟨h, hh⟩ .fault (by simpa [hrep] using hf)]
    · rfl
  · rfl

/-- Settles O47: a byte either moves the receiver or ends a frame, and a frame is one of the two bodies or is discarded. -/
theorem headLinkReceives : Obligations.HeadLinkReceives := by
  unfold Obligations.HeadLinkReceives
  refine fun s => ⟨rfl, congrArg Host.Outcome.next (endHeadFrame_eq s), congrArg Host.Outcome.next (endHeadFrame_eq s),
    fun b => ⟨fun r hr => headLinkByteReceived_within hr, fun hg => headLinkByteReceived_ended hg,
      fun body hb => ⟨fun h t res hbody => ?_, fun h rep hbody => ?_, fun hc hs => ?_⟩⟩⟩
  · rw [headLinkByteReceived_ended hb, hbody]
    exact congrArg Host.Outcome.next (takeHeadFrame_completion h t res _)
  · rw [headLinkByteReceived_ended hb, hbody]
    exact congrArg Host.Outcome.next (takeHeadFrame_state h rep _)
  · rw [headLinkByteReceived_ended hb]
    exact congrArg Host.Outcome.next (takeHeadFrame_other hc hs _)

/-! ## Frames that a free line sends (R86, R87, R191) -/

theorem sendOrder_starts {s : State} {w : WaitingOrder} {rest : List WaitingOrder} (hfree : s.hou.sending = none)
    (hw : s.hou.transmit = w :: rest) :
    sendOrder s = { s with hou := { s.hou with transmit := rest, sending := some (frameBytes (orderBody w)) } } := by
  simp only [sendOrder, hfree, hw]

theorem sendOrder_waits {s : State} (h : s.hou.sending ≠ none ∨ s.hou.transmit = []) : sendOrder s = s := by
  unfold sendOrder
  split
  · next hfree hw => simp_all
  · rfl

theorem modifyPort_eq (p : PortId) (f : Port → Port) (s : State) :
    modifyPort p f s = { s with ports := s.ports.set p (f s.ports[p]) } := rfl

theorem modifyPort_of_fixed {p : PortId} {f : Port → Port} {s : State} (h : f s.ports[p] = s.ports[p]) :
    modifyPort p f s = s := by
  have hself : s.ports.set (p : Nat) s.ports[(p : Nat)] = s.ports := Vector.set_getElem_self p.isLt
  rw [modifyPort_eq, h]
  exact congrArg (fun v => { s with ports := v }) hself

theorem startSending_starts {q : Port} {f : OutFrame} {rest : List OutFrame} (hfree : q.sending = none)
    (hout : q.out = f :: rest) :
    q.startSending = { q with
      out := rest,
      sending := some
        { bytes := frameBytes (f.body.set (flagsPlace f.response) (q.flags f.response)), holdsPlace := f.response },
      overrun := if f.response then false else q.overrun,
      dropped := false } := by
  simp only [Port.startSending, hfree, hout]

theorem startSending_waits {q : Port} (h : q.sending ≠ none ∨ q.out = []) : q.startSending = q := by
  unfold Port.startSending
  split
  · next hfree hout => simp_all
  · rfl

theorem endSending_sent {q : Port} {f : SentFrame} (h : q.sending = some f) :
    q.endSending = { q with
      sending := none, buffer := if f.holdsPlace then q.buffer.eraseP BufferedFrame.taken else q.buffer } := by
  simp only [Port.endSending, h]

theorem endSending_free {q : Port} (h : q.sending = none) : q.endSending = q := by simp only [Port.endSending, h]

/-- Settles O48: a line is free with a frame waiting, or nothing starts; the frame on it ends, or nothing does. -/
theorem framesSentInOrder : Obligations.FramesSentInOrder := by
  unfold Obligations.FramesSentInOrder
  refine ⟨fun s => ⟨fun w rest hfree hw => congrArg Host.Outcome.next (sendOrder_starts hfree hw),
    fun h => congrArg Host.Outcome.next (sendOrder_waits h), rfl⟩,
    fun s p => ⟨fun f rest hfree hout => ?_, fun h => congrArg Host.Outcome.next (modifyPort_of_fixed (startSending_waits h)),
      fun f hf => ?_, fun h => congrArg Host.Outcome.next (modifyPort_of_fixed (endSending_free h))⟩⟩
  · exact congrArg Host.Outcome.next ((modifyPort_eq ..).trans (by rw [startSending_starts hfree hout]; rfl))
  · exact congrArg Host.Outcome.next ((modifyPort_eq ..).trans (by rw [endSending_sent hf]))

end Sys2Proof.Machine
end

section
/-! PROOFS. The heads' orders: what their order reads of a state, and the operations that bring no new order. -/

namespace Sys2Proof.Machine

/-! ## The two halves of OrdersSound -/

/-- The assignments of a slot's heads, none for EMPTY (R77). -/
def staff (s : State) (k : SlotId) : Option (Vector (Option Assignment) 24) := s.slots[(k : Nat)].map Context.assignments

/-- A context assigns a head. -/
def Manned (s : State) (k : SlotId) (h : HeadId) : Prop :=
  ∃ v, staff s k = some v ∧ v[(h : Nat)].isSome = true

/-- A context runs or is pending: the press keeps its heads placed (R166). -/
def Engaged (s : State) (k : SlotId) : Prop :=
  slotState s k = some .active ∨ slotState s k = some .draining ∨ ¬NotPending k s

/-- Placements are within their range, and those of an engaged context's heads within the lags (R74, R166). -/
structure Fitted (s : State) : Prop where
  placed : ∀ (h : HeadId) (p : Placement), s.hou.heads[(h : Nat)].placement = some p → 1 ≤ p.lag ∧ p.lag ≤ 60
  fitted : ∀ (k : SlotId) (h : HeadId), Engaged s k → Manned s k h →
    ∃ p, s.hou.heads[(h : Nat)].placement = some p ∧ p.lag ≤ s.st.merge ∧ p.lag + 2 ≤ s.st.gateLag

/-- A set of the ring with the tag is ORDERED for the head (R67, R82). -/
def Ordered (s : State) (h : HeadId) (t : Cycle) : Prop :=
  ∃ r ∈ s.st.ring, r.tag = t ∧ r.heads[(h : Nat)] = .ordered

/-- The orders stand in order, those of a head `d h` boundaries beyond the age they have once it has taken the boundary. -/
structure InOrder (s : State) (d : HeadId → Nat) : Prop where
  outstanding : ∀ (h : HeadId) (o : Order), o ∈ s.hou.heads[(h : Nat)].queue → ∃ p : Placement,
    s.hou.heads[(h : Nat)].placement = some p ∧ p.lag + 2 ≤ s.st.gateLag ∧ Ordered s h o.tag ∧
    (tagAge s o.tag + 1 = p.lag + d h ∨ tagAge s o.tag = p.lag + d h)
  issued : ∀ h : HeadId, (s.hou.heads[(h : Nat)].queue.map fun o => tagAge s o.tag).Pairwise fun a b => b < a
  waiting : ∀ w ∈ s.hou.transmit, w.order ∈ s.hou.heads[(w.head : Nat)].queue ∧ ∃ p : Placement,
    s.hou.heads[(w.head : Nat)].placement = some p ∧ w.boundary = w.order.tag + BitVec.ofNat 32 (p.lag - 1)
  sending : s.hou.transmit.Pairwise fun a b =>
    tagAge s b.boundary < tagAge s a.boundary ∨ a.boundary = b.boundary ∧ a.head < b.head

theorem manned_iff {s : State} {k : SlotId} {h : HeadId} :
    Manned s k h ↔ ∃ c : Context, s.slots[(k : Nat)] = some c ∧ c.assignments[(h : Nat)].isSome = true := by
  simp [Manned, staff]

theorem slotState_of_some {s : State} {k : SlotId} {c : Context} (hc : s.slots[(k : Nat)] = some c) :
    slotState s k = some c.state := by
  simp [slotState, hc]

theorem engaged_of_some {s : State} {k : SlotId} {c : Context} (hc : s.slots[(k : Nat)] = some c) :
    Engaged s k ↔ c.state = .active ∨ c.state = .draining ∨ ¬NotPending k s := by
  simp [Engaged, slotState_of_some hc]

theorem ordersSound_iff (s : State) : OrdersSound s ↔ Fitted s ∧ InOrder s fun _ => 0 := by
  constructor
  · rintro ⟨hplaced, hfitted, houtstanding, hissued, hwaiting, hsending⟩
    refine ⟨⟨hplaced, fun k h he hm => ?_⟩, fun h o ho => ?_, hissued, hwaiting, hsending⟩
    · obtain ⟨c, hc, ha⟩ := manned_iff.mp hm
      exact hfitted k c h hc ((engaged_of_some hc).mp he) ha
    · obtain ⟨p, r, hp, hlag, hr, ht, hh, hage⟩ := houtstanding h o ho
      exact ⟨p, hp, hlag, ⟨r, hr, ht, hh⟩, hage⟩
  · rintro ⟨⟨hplaced, hfitted⟩, houtstanding, hissued, hwaiting, hsending⟩
    refine ⟨hplaced, fun k c h hc he ha => ?_, fun h o ho => ?_, hissued, hwaiting, hsending⟩
    · exact hfitted k h ((engaged_of_some hc).mpr he) (manned_iff.mpr ⟨c, hc, ha⟩)
    · obtain ⟨p, hp, hlag, ⟨r, hr, ht, hh⟩, hage⟩ := houtstanding h o ho
      exact ⟨p, r, hp, hlag, hr, ht, hh, hage⟩

/-- No head is moved and no context takes up new heads. -/
theorem Fitted.congr {s t : State} (g : Fitted s)
    (hplace : ∀ h : HeadId, t.hou.heads[(h : Nat)].placement = s.hou.heads[(h : Nat)].placement)
    (hmerge : t.st.merge = s.st.merge) (hlag : t.st.gateLag = s.st.gateLag)
    (hcrew : ∀ k h, Engaged t k → Manned t k h → Engaged s k ∧ Manned s k h) : Fitted t where
  placed h p hp := g.placed h p ((hplace h).symm.trans hp)
  fitted k h he hm := by
    obtain ⟨hes, hms⟩ := hcrew k h he hm
    rw [hplace, hmerge, hlag]
    exact g.fitted k h hes hms

/-! ## Operations that bring no new order -/

/-- No head is moved and no order is new: what is outstanding or waits was so before, for a set that is still ORDERED. -/
structure Fewer (s t : State) : Prop where
  cycle : t.wpu.cycle = s.wpu.cycle
  gateLag : t.st.gateLag = s.st.gateLag
  placement : ∀ h : HeadId, t.hou.heads[(h : Nat)].placement = s.hou.heads[(h : Nat)].placement
  queue : ∀ h : HeadId, t.hou.heads[(h : Nat)].queue.Sublist s.hou.heads[(h : Nat)].queue
  transmit : t.hou.transmit.Sublist s.hou.transmit
  waiting : ∀ w ∈ t.hou.transmit, w.order ∈ s.hou.heads[(w.head : Nat)].queue → w.order ∈ t.hou.heads[(w.head : Nat)].queue
  ordered : ∀ (h : HeadId), ∀ o ∈ t.hou.heads[(h : Nat)].queue, Ordered s h o.tag → Ordered t h o.tag

theorem tagAge_congr {s t : State} (h : t.wpu.cycle = s.wpu.cycle) (x : Cycle) : tagAge t x = tagAge s x := by
  rw [tagAge, tagAge, h]

theorem InOrder.of_fewer {s t : State} {d : HeadId → Nat} (g : InOrder s d) (h : Fewer s t) : InOrder t d := by
  have hage : tagAge t = tagAge s := funext (tagAge_congr h.cycle)
  refine ⟨fun i o ho => ?_, fun i => ?_, fun w hw => ?_, ?_⟩
  · obtain ⟨p, hp, hlag, hordered, hwindow⟩ := g.outstanding i o ((h.queue i).subset ho)
    exact ⟨p, (h.placement i).trans hp, h.gateLag ▸ hlag, h.ordered i o ho hordered, hage ▸ hwindow⟩
  · rw [hage]
    exact (g.issued i).sublist ((h.queue i).map _)
  · obtain ⟨ho, p, hp, hb⟩ := g.waiting w (h.transmit.subset hw)
    exact ⟨h.waiting w hw ho, p, (h.placement w.head).trans hp, hb⟩
  · rw [hage]
    exact g.sending.sublist h.transmit

namespace Fewer

theorem trans {s t u : State} (h : Fewer s t) (g : Fewer t u) : Fewer s u where
  cycle := g.cycle.trans h.cycle
  gateLag := g.gateLag.trans h.gateLag
  placement i := (g.placement i).trans (h.placement i)
  queue i := (g.queue i).trans (h.queue i)
  transmit := g.transmit.trans h.transmit
  waiting w hw ho := g.waiting w hw (h.waiting w (g.transmit.subset hw) ho)
  ordered i o ho hs := g.ordered i o ho (h.ordered i o ((g.queue i).subset ho) hs)

/-- A change beside the heads, of sets at most beside what is ordered of them. -/
theorem of_ring {s t : State} (hhou : t.hou = s.hou) (hcycle : t.wpu.cycle = s.wpu.cycle)
    (hlag : t.st.gateLag = s.st.gateLag)
    (hring : ∀ (h : HeadId), ∀ o ∈ s.hou.heads[(h : Nat)].queue, Ordered s h o.tag → Ordered t h o.tag) : Fewer s t where
  cycle := hcycle
  gateLag := hlag
  placement i := by rw [hhou]
  queue i := by rw [hhou]
  transmit := by rw [hhou]
  waiting w _ ho := hhou ▸ ho
  ordered i o ho hs := hring i o (hhou ▸ ho) hs

theorem of_eq {s t : State} (hhou : t.hou = s.hou := by simp) (hcycle : t.wpu.cycle = s.wpu.cycle := by simp)
    (hlag : t.st.gateLag = s.st.gateLag := by simp) (hring : t.st.ring = s.st.ring := by simp) : Fewer s t :=
  of_ring hhou hcycle hlag fun _ _ _ hs => by rwa [Ordered, hring]

theorem refl (s : State) : Fewer s s := of_eq

end Fewer

/-- What the boundaries' invariants read stays, and no order is new. -/
structure Calm (s t : State) : Prop where
  view : t.view = s.view
  staff : staff t = staff s
  fewer : Fewer s t

theorem staff_congr {s t : State} (h : t.slots = s.slots) : staff t = staff s := by
  funext k; simp only [staff, h]

theorem engaged_congr {s t : State} (h : t.view = s.view) (k : SlotId) : Engaged t k ↔ Engaged s k := by
  have hact : t.activation = s.activation := congrArg View.activation h
  simp only [Engaged, slotState_eq_view, h, NotPending, hact]

theorem manned_congr {s t : State} (h : staff t = staff s) (k : SlotId) (i : HeadId) : Manned t k i ↔ Manned s k i := by
  rw [Manned, Manned, h]

/-- Where the view and the assignments stay and no head is moved, every head stays placed. -/
theorem Fitted.of_view {s t : State} (g : Fitted s) (hview : t.view = s.view) (hstaff : staff t = staff s)
    (hplace : ∀ h : HeadId, t.hou.heads[(h : Nat)].placement = s.hou.heads[(h : Nat)].placement) : Fitted t :=
  g.congr hplace (congrArg View.merge hview) (congrArg View.gateLag hview) fun k i he hm =>
    ⟨(engaged_congr hview k).mp he, (manned_congr hstaff k i).mp hm⟩

theorem Fitted.of_calm {s t : State} (g : Fitted s) (h : Calm s t) : Fitted t :=
  g.of_view h.view h.staff h.fewer.placement

namespace Calm

theorem activation {s t : State} (h : Calm s t) : t.activation = s.activation := congrArg View.activation h.view

theorem trans {s t u : State} (h : Calm s t) (g : Calm t u) : Calm s u :=
  ⟨g.view.trans h.view, g.staff.trans h.staff, h.fewer.trans g.fewer⟩

/-- A change beside contexts, activation, cycle, tracker and heads. -/
theorem of_eq {s t : State} (hslots : t.slots = s.slots := by simp) (hact : t.activation = s.activation := by simp)
    (hcycle : t.wpu.cycle = s.wpu.cycle := by simp) (hst : t.st = s.st := by simp) (hhou : t.hou = s.hou := by simp) :
    Calm s t :=
  ⟨view_congr hslots hact hcycle hst, staff_congr hslots, .of_eq hhou hcycle (by rw [hst]) (by rw [hst])⟩

theorem refl (s : State) : Calm s s := of_eq

theorem ite {s t u : State} {b : Prop} [Decidable b] (h : b → Calm s t) (g : ¬b → Calm s u) :
    Calm s (if b then t else u) := by
  split
  · exact h ‹_›
  · exact g ‹_›

theorem foldl {α : Type} {g : State → α → State} (h : ∀ s x, Calm s (g s x)) (l : List α) (s : State) :
    Calm s (l.foldl g s) := by
  induction l generalizing s with
  | nil => exact refl s
  | cons x l ih => exact (h s x).trans (ih _)

/-- A change of sets beside their accounts, which leaves an ORDERED head so. -/
theorem of_ring {s : State} {f : SetRecord → SetRecord} (h : ∀ r, (f r).account = r.account)
    (hheads : ∀ (r : SetRecord) (i : HeadId), r.heads[(i : Nat)] = .ordered → (f r).heads[(i : Nat)] = .ordered) :
    Calm s { s with st := { s.st with ring := s.st.ring.map f } } := by
  refine ⟨(Aside.of_ring h).1, staff_congr rfl, .of_ring rfl rfl rfl ?_⟩
  rintro i o - ⟨r, hr, ht, hh⟩
  exact ⟨f r, List.mem_map.mpr ⟨r, hr, rfl⟩, (congrArg SetAccount.tag (h r)).trans ht, hheads r i hh⟩

end Calm

theorem modifyContext_staff {k : SlotId} {f : Context → Context} (h : ∀ c, (f c).assignments = c.assignments) (s : State) :
    staff (modifyContext k f s) = staff s := by
  funext j
  by_cases hj : j = k
  · subst hj; simp [staff, Function.comp_def, h]
  · simp [staff, updateAt_get_ne _ _ _ _ (Ne.symm hj)]

/-- A change of one context beside its course and its assignments. -/
theorem Calm.of_context {s : State} {k : SlotId} {f : Context → Context} (h : ∀ c, (f c).course = c.course)
    (ha : ∀ c, (f c).assignments = c.assignments) : Calm s (modifyContext k f s) :=
  ⟨(Aside.of_context h).1, modifyContext_staff ha s, .of_eq⟩

theorem modifySet_calm {t : Cycle} {f : SetRecord → SetRecord} (h : ∀ r, (f r).account = r.account)
    (hheads : ∀ (r : SetRecord) (i : HeadId), r.heads[(i : Nat)] = .ordered → (f r).heads[(i : Nat)] = .ordered)
    (s : State) : Calm s (modifySet t f s) :=
  .of_ring (fun r => by split <;> simp [h]) fun r i hi => by split <;> simp [hheads r i hi, hi]

theorem modifySets_calm {p : SetRecord → Bool} {f : SetRecord → SetRecord} (h : ∀ r, (f r).account = r.account)
    (hheads : ∀ (r : SetRecord) (i : HeadId), r.heads[(i : Nat)] = .ordered → (f r).heads[(i : Nat)] = .ordered)
    (s : State) : Calm s (modifySets p f s) :=
  .of_ring (fun r => by split <;> simp [h]) fun r i hi => by split <;> simp [hheads r i hi, hi]

/-! ## Commands that keep the orders in order -/

/-- A command keeps contexts and ring in agreement, and the orders in order. -/
structure KeepsOrders (s t : State) : Prop where
  run : RunSound s → RunSound t
  orders : RunSound s → OrdersSound s → OrdersSound t

namespace KeepsOrders

theorem refl (s : State) : KeepsOrders s s := ⟨id, fun _ => id⟩

theorem trans {s t u : State} (h : KeepsOrders s t) (g : KeepsOrders t u) : KeepsOrders s u :=
  ⟨fun hs => g.run (h.run hs), fun hs ho => g.orders (h.run hs) (h.orders hs ho)⟩

theorem ite {s t u : State} {b : Prop} [Decidable b] (h : b → KeepsOrders s t) (g : ¬b → KeepsOrders s u) :
    KeepsOrders s (if b then t else u) := by
  split
  · exact h ‹_›
  · exact g ‹_›

end KeepsOrders

theorem Calm.keeps {s t : State} (h : Calm s t) : KeepsOrders s t where
  run hs := by rwa [runSound_iff, h.view, ← runSound_iff]
  orders _ ho := by
    obtain ⟨hfit, horder⟩ := (ordersSound_iff s).mp ho
    exact (ordersSound_iff t).mpr ⟨hfit.of_calm h, horder.of_fewer h.fewer⟩

end Sys2Proof.Machine
end

section
/-! PROOFS. The heads' orders at a boundary: settling, issue and the link, each by what it does to the orders' order. -/

namespace Sys2Proof.Machine

/-! ## Settling and sending bring no new order -/

theorem writeOutcome_heads (h : HeadId) (o : HeadOutcome) (why : Option Reason) (lane : Option LaneId) (r : SetRecord) :
    (writeOutcome h o why lane r).heads = r.heads.set h o := by
  cases why <;> cases lane <;> rfl

/-- A head's outcome is written into sets that it has no outstanding order for. -/
theorem markOutcome_fewer {h : HeadId} {t : Cycle} {s : State} (hno : ∀ o ∈ s.hou.heads[(h : Nat)].queue, o.tag ≠ t)
    (o : HeadOutcome) (why : Option Reason) : Fewer s (markOutcome h t o why s) := by
  refine .of_ring (by simp) (by simp) rfl ?_
  rintro i x hx ⟨r, hr, ht, hh⟩
  refine ⟨_, List.mem_map.mpr ⟨r, hr, rfl⟩, ?_⟩
  split
  · next hrt =>
    have hi : (h : Nat) ≠ i := fun e => by
      obtain rfl := Fin.ext e
      exact hno x hx (ht.symm.trans hrt)
    have htag := congrArg SetAccount.tag (writeOutcome_account h o why (headLaneIn s h r) r)
    exact ⟨htag.trans ht, by simp only [writeOutcome_heads, Vector.getElem_set_ne _ _ hi, hh]⟩
  · exact ⟨ht, hh⟩

theorem dropOrder_queue (h : HeadId) (t : Cycle) (s : State) (i : HeadId) :
    (dropOrder h t s).hou.heads[(i : Nat)].queue =
      if i = h then s.hou.heads[(h : Nat)].queue.filter fun o => o.tag != t else s.hou.heads[(i : Nat)].queue := by
  by_cases hi : i = h
  · subst hi; simp [dropOrder]
  · simp [dropOrder, hi, updateAt_get_ne _ _ _ _ (Ne.symm hi)]

theorem dropOrder_none (h : HeadId) (t : Cycle) (s : State) :
    ∀ o ∈ (dropOrder h t s).hou.heads[(h : Nat)].queue, o.tag ≠ t := by
  rw [dropOrder_queue, if_pos rfl]
  exact fun o ho => bne_iff_ne.mp (List.mem_filter.mp ho).2

theorem dropOrder_fewer (h : HeadId) (t : Cycle) (s : State) : Fewer s (dropOrder h t s) where
  cycle := rfl
  gateLag := rfl
  placement i := by simp only [dropOrder, updateAt_getElem]; split <;> rfl
  queue i := by
    rw [dropOrder_queue]
    split
    · next e => subst e; exact List.filter_sublist
    · exact .refl _
  transmit := List.filter_sublist
  waiting w hw ho := by
    rw [dropOrder_queue]
    split
    · next e =>
      have hkeep := (List.mem_filter.mp hw).2
      exact List.mem_filter.mpr ⟨e ▸ ho, by simpa [e] using hkeep⟩
    · exact ho
  ordered _ _ _ hs := hs

/-- A head's counters are no order. -/
theorem modifyHead_fewer {h : HeadId} {f : Head → Head} (hp : ∀ x, (f x).placement = x.placement)
    (hq : ∀ x, (f x).queue = x.queue) (s : State) : Fewer s (modifyHead h f s) := by
  have hqueue : ∀ i : HeadId, (modifyHead h f s).hou.heads[(i : Nat)].queue = s.hou.heads[(i : Nat)].queue := fun i => by
    simp only [modifyHead, updateAt_getElem]; split <;> simp [hq]
  exact ⟨rfl, rfl, fun i => by simp only [modifyHead, updateAt_getElem]; split <;> simp [hp], fun i => by rw [hqueue],
    .refl _, fun w _ ho => by rwa [hqueue], fun _ _ _ hs => hs⟩

/-- An order that is settled is dropped, its outcome marked and counted (R83, R89). -/
theorem settle_calm (h : HeadId) (t : Cycle) (o : HeadOutcome) (why : Option Reason) {f : Head → Head}
    (hp : ∀ x, (f x).placement = x.placement) (hq : ∀ x, (f x).queue = x.queue) (s : State) :
    Calm s (modifyHead h f (markOutcome h t o why (dropOrder h t s))) :=
  ⟨(settle_aside h t o why f s).1, staff_congr (by simp), (dropOrder_fewer h t s).trans
    ((markOutcome_fewer (dropOrder_none h t s) o why).trans (modifyHead_fewer hp hq _))⟩

theorem settleLate_calm (h : HeadId) (t : Cycle) (s : State) : Calm s (settleLate h t s) :=
  settle_calm h t .late (some .headLate) (f := fun x => { x with late := x.late + 1 }) (fun _ => rfl) (fun _ => rfl) s

theorem settleFailed_calm (h : HeadId) (t : Cycle) (s : State) : Calm s (settleFailed h t s) :=
  settle_calm h t .failed (some .headFailed) (f := fun x => { x with failed := x.failed + 1 }) (fun _ => rfl) (fun _ => rfl) s

theorem settlePrinted_calm (h : HeadId) (t : Cycle) (s : State) : Calm s (settlePrinted h t s) :=
  settle_calm h t .printed none (f := fun x => { x with printed := x.printed + 1 }) (fun _ => rfl) (fun _ => rfl) s

theorem expireHead_calm (h : HeadId) (s : State) : Calm s (expireHead h s) := by
  unfold expireHead
  split
  · exact .refl s
  · exact .ite (fun _ => settleLate_calm ..) fun _ => .refl s

/-- An order that is sent leaves the transmit queue and stays outstanding (R85, R86). -/
theorem sendOrder_calm (s : State) : Calm s (sendOrder s) := by
  unfold sendOrder
  split
  · next w rest _ hw =>
    refine ⟨view_congr rfl rfl rfl rfl, staff_congr rfl, ⟨rfl, rfl, fun _ => rfl, fun _ => .refl _, ?_, fun _ _ ho => ho,
      fun _ _ _ hs => hs⟩⟩
    rw [hw]
    exact List.sublist_cons_self ..
  · exact .refl s

theorem sendOlder_calm (s : State) : Calm s (sendOlder s) := by
  unfold sendOlder
  split
  · exact .ite (fun _ => .refl s) fun _ => sendOrder_calm s
  · exact .refl s

theorem hou_rest_calm {s t : State} (hslots : t.slots = s.slots) (hact : t.activation = s.activation)
    (hcycle : t.wpu.cycle = s.wpu.cycle) (hst : t.st = s.st) (hheads : t.hou.heads = s.hou.heads)
    (hqueue : t.hou.transmit = s.hou.transmit) : Calm s t :=
  ⟨view_congr hslots hact hcycle hst, staff_congr hslots, ⟨hcycle, by rw [hst], fun i => by rw [hheads],
    fun i => by rw [hheads], by rw [hqueue], fun w _ ho => hheads ▸ ho, fun i o _ hs => by rwa [Ordered, hst]⟩⟩

theorem endOrder_calm (s : State) : Calm s (endOrder s) := hou_rest_calm rfl rfl rfl rfl rfl rfl

/-! ## Expiry -/

theorem tagAge_sub (s : State) {n : Nat} (h : n < 2 ^ 32) : tagAge s (s.wpu.cycle - BitVec.ofNat 32 n) = n := by
  unfold tagAge; bv_omega

theorem tag_of_age {s : State} {t : Cycle} {n : Nat} (h : tagAge s t = n) : t = s.wpu.cycle - BitVec.ofNat 32 n := by
  unfold tagAge at h
  rw [← h, BitVec.ofNat_toNat, BitVec.setWidth_eq]
  bv_omega

/-- The orders of a head are a boundary younger than allowed for, or the head has none. -/
theorem InOrder.tighten {s : State} {d : HeadId → Nat} (g : InOrder s d) {h : HeadId}
    (hwindow : ∀ o ∈ s.hou.heads[(h : Nat)].queue, ∀ p, s.hou.heads[(h : Nat)].placement = some p →
      tagAge s o.tag + 1 = p.lag ∨ tagAge s o.tag = p.lag) : InOrder s (Function.update d h 0) := by
  refine ⟨fun i o ho => ?_, g.issued, g.waiting, g.sending⟩
  obtain ⟨p, hp, hlag, hordered, hage⟩ := g.outstanding i o ho
  refine ⟨p, hp, hlag, hordered, ?_⟩
  by_cases hi : i = h
  · subst hi
    rw [Function.update_self]
    exact hwindow o ho p hp
  · rwa [Function.update_of_ne hi]

/-- After its expiry step a head's orders are as young as they are between boundaries (R83). -/
theorem expireHead_inOrder {s : State} {d : HeadId → Nat} (g : InOrder s d) (hfit : Fitted s) {h : HeadId} (hd : d h ≤ 1) :
    InOrder (expireHead h s) (Function.update d h 0) := by
  have hcalm := expireHead_calm h s
  refine (g.of_fewer hcalm.fewer).tighten fun o ho p hp => ?_
  have hps := (hcalm.fewer.placement h).symm.trans hp
  rw [tagAge_congr hcalm.fewer.cycle]
  obtain ⟨q, hq, -, -, hage⟩ := g.outstanding h o ((hcalm.fewer.queue h).subset ho)
  obtain rfl := Option.some.inj (hps.symm.trans hq)
  have hlag := (hfit.placed h p hps).2
  have hnot : tagAge s o.tag ≠ p.lag + 1 := fun he => by
    have ht := tag_of_age he
    rw [expireHead_placed hps] at ho
    split at ho
    · refine dropOrder_none h _ s o ?_ ht
      simpa [settleLate] using ho
    · next hnone => exact hasOrder_eq_false.mp (Bool.eq_false_iff.mpr hnone) o ho ht
  omega

/-! ## Issue -/

/-- What the heads find at a boundary: sets of different cycles, each of a context that runs, and every head placed as its
context needs it. -/
structure Staffed (s : State) : Prop where
  tags : (s.st.ring.map SetRecord.tag).Nodup
  owned : ∀ r ∈ s.st.ring, slotState s r.slot = some .active ∨ slotState s r.slot = some .draining
  fitted : Fitted s

theorem tags_eq_view (s : State) : s.st.ring.map SetRecord.tag = s.view.sets.map SetAccount.tag := by
  simp only [State.view, List.map_map]; rfl

theorem owned_iff_view (s : State) :
    (∀ r ∈ s.st.ring, slotState s r.slot = some .active ∨ slotState s r.slot = some .draining) ↔
      ∀ a ∈ s.view.sets, s.view.state a.slot = some .active ∨ s.view.state a.slot = some .draining := by
  simp [slotState_eq_view, State.view, SetRecord.account]

theorem Staffed.of_view {s t : State} (g : Staffed s) (hview : t.view = s.view) (hstaff : staff t = staff s)
    (hplace : ∀ h : HeadId, t.hou.heads[(h : Nat)].placement = s.hou.heads[(h : Nat)].placement) : Staffed t :=
  ⟨by rw [tags_eq_view, hview, ← tags_eq_view]; exact g.tags,
    by rw [owned_iff_view, hview, ← owned_iff_view]; exact g.owned, g.fitted.of_view hview hstaff hplace⟩

/-- A new order joins its head's queue and takes its place in the transmit queue (R85, R86). -/
def takeOrder (h : HeadId) (o : Order) (s : State) : State :=
  { s with hou := { s.hou with
    heads := updateAt s.hou.heads h fun x => { x with queue := x.queue ++ [o], issued := x.issued + 1 },
    transmit := insertWaiting { boundary := s.wpu.cycle, head := h, order := o } s.hou.transmit } }

theorem takeOrder_placement (h i : HeadId) (o : Order) (s : State) :
    (takeOrder h o s).hou.heads[(i : Nat)].placement = s.hou.heads[(i : Nat)].placement := by
  simp only [takeOrder, updateAt_getElem]; split <;> rfl

theorem takeOrder_queue (h i : HeadId) (o : Order) (s : State) :
    (takeOrder h o s).hou.heads[(i : Nat)].queue =
      if i = h then s.hou.heads[(h : Nat)].queue ++ [o] else s.hou.heads[(i : Nat)].queue := by
  by_cases hi : i = h
  · subst hi; simp [takeOrder]
  · simp [takeOrder, hi, updateAt_get_ne _ _ _ _ (Ne.symm hi)]

/-- What an issue comes to: nothing, an outcome for the PENDING head of the set at age L - 1, or a new order for it (R84). -/
theorem issueHead_cases (h : HeadId) (s : State) : issueHead h s = s ∨ ∃ (p : Placement) (r : SetRecord),
    s.hou.heads[(h : Nat)].placement = some p ∧ setAtAge s (p.lag - 1) = some r ∧ Manned s r.slot h ∧
    r.heads[(h : Nat)] = .pending ∧
    ((∃ o why, issueHead h s = markOutcome h r.tag o why s) ∨
      ∃ text, issueHead h s = takeOrder h { tag := r.tag, text := text } (markOutcome h r.tag .ordered none s)) := by
  cases hp : s.hou.heads[(h : Nat)].placement with
  | none => exact .inl (by simp only [issueHead, Fin.getElem_fin, hp])
  | some p =>
    cases hr : setAtAge s (p.lag - 1) with
    | none => exact .inl (issueHead_none hp hr)
    | some r =>
      rw [issueHead_eq hp hr]
      by_cases hh : r.heads[(h : Nat)] = .pending
      · cases hc : s.slots[(r.slot : Nat)] with
        | none => exact .inl (by simp only [issueOrder, Fin.getElem_fin, hh, hc])
        | some c =>
          cases ha : c.assignments[(h : Nat)] with
          | none => exact .inl (by simp only [issueOrder, Fin.getElem_fin, hc, hh, ha])
          | some a =>
            refine .inr ⟨p, r, rfl, hr, manned_iff.mpr ⟨c, hc, by rw [ha]; rfl⟩, hh, ?_⟩
            rw [issueOrder_due hc ha hh]
            split
            · exact .inl ⟨_, _, rfl⟩
            · split
              · exact .inl ⟨_, _, rfl⟩
              · exact .inr ⟨_, rfl⟩
      · exact .inl (issueOrder_settled hh p s)

theorem issueHead_placement (h i : HeadId) (s : State) :
    (issueHead h s).hou.heads[(i : Nat)].placement = s.hou.heads[(i : Nat)].placement := by
  rcases issueHead_cases h s with e | ⟨p, r, -, -, -, -, ⟨o, why, e⟩ | ⟨text, e⟩⟩
  · rw [e]
  · rw [e, markOutcome_hou]
  · rw [e, takeOrder_placement, markOutcome_hou]

theorem issueHead_staffed {s : State} (g : Staffed s) (h : HeadId) : Staffed (issueHead h s) :=
  g.of_view (issueHead_aside h s).1 (staff_congr (by simp)) fun i => issueHead_placement h i s

/-- Where a waiting order has its place, the transmit queue stays ordered: behind older boundaries, and behind lower heads
of its own (R86). -/
theorem insertWaiting_sorted {s : State} {l : List WaitingOrder} {w : WaitingOrder} (hw : w.boundary = s.wpu.cycle)
    (hnew : ∀ x ∈ l, x.boundary = s.wpu.cycle → x.head ≠ w.head)
    (hl : l.Pairwise fun a b => tagAge s b.boundary < tagAge s a.boundary ∨ a.boundary = b.boundary ∧ a.head < b.head) :
    (insertWaiting w l).Pairwise fun a b =>
      tagAge s b.boundary < tagAge s a.boundary ∨ a.boundary = b.boundary ∧ a.head < b.head := by
  have hnow : ∀ b, tagAge s b = 0 ↔ b = s.wpu.cycle := fun b =>
    ⟨fun e => (tag_of_age e).trans (by simp), fun e => by simp [tagAge, e]⟩
  obtain ⟨older, later, rfl, hbefore, hafter, hinsert⟩ := insertWaiting_split w l
  obtain ⟨hold, hlate, hacross⟩ := List.pairwise_append.mp hl
  rw [hinsert]
  refine List.pairwise_append.mpr ⟨hold, List.pairwise_cons.mpr ⟨fun x hx => .inr ?_, hlate⟩, fun x hx y hy => ?_⟩
  · cases later with
    | nil => cases hx
    | cons y rest =>
      obtain ⟨hyb, hyh⟩ := hafter y rfl
      rcases List.mem_cons.mp hx with rfl | hx
      · exact ⟨hyb.symm, hyh⟩
      · rcases List.rel_of_pairwise_cons hlate hx with hlt | ⟨hb, hh⟩
        · rw [(hnow y.boundary).mpr (hyb.trans hw)] at hlt; exact absurd hlt (Nat.not_lt_zero _)
        · exact ⟨(hb ▸ hyb).symm, hyh.trans hh⟩
  · rcases List.mem_cons.mp hy with rfl | hy
    · rcases Nat.eq_zero_or_pos (tagAge s x.boundary) with hzero | hpos
      · have hb := (hnow x.boundary).mp hzero
        have hle : x.head ≤ y.head := not_lt.mp fun hlt => hbefore x hx ⟨hb.trans hw.symm, hlt⟩
        exact .inr ⟨hb.trans hw.symm, lt_of_le_of_ne hle (hnew x (List.mem_append_left _ hx) hb)⟩
      · exact .inl (by rw [(hnow y.boundary).mpr hw]; exact hpos)
    · exact hacross x hx y hy

/-- A new order for the set at age L - 1 stands behind the head's older orders, and in the transmit queue behind older
boundaries and lower heads (R85, R86). -/
theorem InOrder.add {s : State} {d : HeadId → Nat} (g : InOrder s d) {h : HeadId} {p : Placement} {o : Order}
    (hp : s.hou.heads[(h : Nat)].placement = some p) (hlag : p.lag + 2 ≤ s.st.gateLag) (hd : d h = 0)
    (hage : tagAge s o.tag + 1 = p.lag) (hordered : Ordered s h o.tag)
    (hnew : ∀ x ∈ s.hou.heads[(h : Nat)].queue, x.tag ≠ o.tag) : InOrder (takeOrder h o s) d := by
  have hqueue := fun i => takeOrder_queue h i o s
  have holder : ∀ x ∈ s.hou.heads[(h : Nat)].queue, tagAge s o.tag < tagAge s x.tag := fun x hx => by
    obtain ⟨q, hq, -, -, hwindow⟩ := g.outstanding h x hx
    obtain rfl := Option.some.inj (hp.symm.trans hq)
    have hne : tagAge s x.tag ≠ tagAge s o.tag := fun e => hnew x hx ((tag_of_age e).trans (tag_of_age rfl).symm)
    omega
  have hboundary : s.wpu.cycle = o.tag + BitVec.ofNat 32 (p.lag - 1) := by
    have htag : o.tag = s.wpu.cycle - BitVec.ofNat 32 (p.lag - 1) := tag_of_age (by omega)
    rw [htag, BitVec.sub_add_cancel]
  refine ⟨fun i x hx => ?_, fun i => ?_, fun w hw => ?_, insertWaiting_sorted rfl (fun w hw hb hh => ?_) g.sending⟩
  · rw [hqueue] at hx
    rw [takeOrder_placement]
    by_cases hi : i = h
    · subst hi
      rw [if_pos rfl] at hx
      rcases List.mem_append.mp hx with hx | hx
      · exact g.outstanding i x hx
      · obtain rfl := List.mem_singleton.mp hx
        exact ⟨p, hp, hlag, hordered, .inl (by rw [hd]; exact hage)⟩
    · rw [if_neg hi] at hx
      exact g.outstanding i x hx
  · rw [hqueue]
    split
    · refine List.map_append ▸ List.pairwise_append.mpr ⟨g.issued h, List.pairwise_singleton .., fun a ha b hb => ?_⟩
      obtain ⟨x, hx, rfl⟩ := List.mem_map.mp ha
      obtain rfl := List.mem_singleton.mp hb
      exact holder x hx
    · exact g.issued i
  · rw [hqueue, takeOrder_placement]
    have hcases : w = { boundary := s.wpu.cycle, head := h, order := o } ∨ w ∈ s.hou.transmit := by
      obtain ⟨older, later, hsplit, -, -, hinsert⟩ :=
        insertWaiting_split { boundary := s.wpu.cycle, head := h, order := o } s.hou.transmit
      have hw : w ∈ insertWaiting { boundary := s.wpu.cycle, head := h, order := o } s.hou.transmit := hw
      rw [hinsert] at hw
      rw [hsplit]
      simp only [List.mem_append, List.mem_cons] at hw ⊢
      tauto
    rcases hcases with rfl | hw
    · exact ⟨by simp, p, hp, hboundary⟩
    · obtain ⟨ho, q, hq, hb⟩ := g.waiting w hw
      refine ⟨?_, q, hq, hb⟩
      split
      · next e => exact List.mem_append_left _ (by simpa only [e] using ho)
      · exact ho
  · obtain ⟨ho, q, hq, hwb⟩ := g.waiting w hw
    simp only [show w.head = h from hh] at ho hq
    obtain rfl := Option.some.inj (hp.symm.trans hq)
    exact hnew _ ho (add_right_cancel (hwb.symm.trans (hb.trans hboundary)))

theorem setAtAge_some {s : State} {k : Nat} {r : SetRecord} (h : setAtAge s k = some r) :
    r ∈ s.st.ring ∧ r.tag = s.wpu.cycle - BitVec.ofNat 32 k := setTagged_some h

/-- No set of the ring is twice there. -/
theorem Staffed.unique {s : State} (g : Staffed s) {a b : SetRecord} (ha : a ∈ s.st.ring) (hb : b ∈ s.st.ring)
    (h : a.tag = b.tag) : a = b := List.inj_on_of_nodup_map g.tags ha hb h

/-- A head that has had its expiry issues, and its orders stay in order (R82, R84). -/
theorem issueHead_inOrder {s : State} {d : HeadId → Nat} (g : InOrder s d) (hs : Staffed s) {h : HeadId} (hd : d h = 0) :
    InOrder (issueHead h s) d := by
  rcases issueHead_cases h s with e | ⟨p, r, hp, hr, hman, hh, hcase⟩
  · rw [e]; exact g
  · obtain ⟨hmem, htag⟩ := setAtAge_some hr
    have hnew : ∀ x ∈ s.hou.heads[(h : Nat)].queue, x.tag ≠ r.tag := fun x hx e => by
      obtain ⟨-, -, -, ⟨q, hq, hqt, hqh⟩, -⟩ := g.outstanding h x hx
      obtain rfl := hs.unique hq hmem (hqt.trans e)
      rw [hh] at hqh; cases hqh
    rcases hcase with ⟨o, why, e⟩ | ⟨text, e⟩
    · rw [e]; exact g.of_fewer (markOutcome_fewer hnew o why)
    · obtain ⟨q, hq, -, hlag⟩ := hs.fitted.fitted r.slot h ((hs.owned r hmem).imp_right .inl) hman
      obtain rfl := Option.some.inj (hp.symm.trans hq)
      have hrange := hs.fitted.placed h p hp
      have hage : tagAge s r.tag = p.lag - 1 := by rw [htag]; exact tagAge_sub s (by omega)
      rw [e]
      refine (g.of_fewer (markOutcome_fewer hnew .ordered none)).add (p := p) (by simpa using hp) hlag hd ?_ ?_
        (by simpa using hnew)
      · have hlag1 : tagAge s r.tag + 1 = p.lag := by omega
        rwa [tagAge_congr (markOutcome_fewer hnew .ordered none).cycle]
      · refine ⟨_, List.mem_map.mpr ⟨r, hmem, rfl⟩, ?_⟩
        rw [if_pos rfl]
        exact ⟨congrArg SetAccount.tag (writeOutcome_account h .ordered none (headLaneIn s h r) r),
          by simp [writeOutcome_heads]⟩

/-! ## The turns of the heads -/

theorem Calm.staffed {s t : State} (h : Calm s t) (g : Staffed s) : Staffed t :=
  g.of_view h.view h.staff h.fewer.placement

theorem headStep_staffed {s : State} (g : Staffed s) (x : HouStep) : Staffed (headStep s x) := by
  cases x with
  | head h =>
    have hexpire := (expireHead_calm h s).staffed g
    simp only [headStep, headBoundary]
    split
    · exact hexpire
    · exact issueHead_staffed hexpire h
  | link l =>
    cases l with
    | chooses => exact (sendOlder_calm s).staffed g
    | ends => exact (endOrder_calm s).staffed g

theorem handStep_staffed {s : State} (g : Staffed s) (x : HouStep) : Staffed (handStep s x) := by
  cases x with
  | head h =>
    simp only [handStep]
    split
    · exact issueHead_staffed g h
    · exact g
  | link l =>
    cases l with
    | chooses => exact (sendOrder_calm s).staffed g
    | ends => exact (endOrder_calm s).staffed g

/-- A head that takes the boundary has its orders at the age they have between boundaries (R83). -/
theorem headBoundary_inOrder {s : State} {d : HeadId → Nat} (g : InOrder s d) (hs : Staffed s) {h : HeadId} (hd : d h ≤ 1) :
    InOrder (headBoundary s h) (Function.update d h 0) := by
  have hexpire := expireHead_inOrder g hs.fitted hd
  unfold headBoundary
  simp only []
  split
  · exact hexpire
  · exact issueHead_inOrder hexpire ((expireHead_calm h s).staffed hs) (Function.update_self ..)

/-- The heads among the steps have taken the boundary, the others wait. -/
theorem headSteps_inOrder (l : List HouStep) {s : State} {d : HeadId → Nat} (hd : ∀ h, d h ≤ 1) (hs : Staffed s)
    (g : InOrder s d) :
    Staffed (l.foldl headStep s) ∧ InOrder (l.foldl headStep s) fun h => if HouStep.head h ∈ l then 0 else d h := by
  induction l generalizing s d with
  | nil => exact ⟨hs, by simpa using g⟩
  | cons x l ih =>
    cases x with
    | head h =>
      have hd' : ∀ i, Function.update d h 0 i ≤ 1 := fun i => by
        rw [Function.update_apply]; split
        · exact Nat.zero_le 1
        · exact hd i
      have hstep : ∀ i, (if HouStep.head i ∈ HouStep.head h :: l then 0 else d i) =
          if HouStep.head i ∈ l then 0 else Function.update d h 0 i := fun i => by
        by_cases hi : i = h
        · subst hi; simp
        · simp [hi]
      simp only [hstep]
      exact ih hd' (headStep_staffed hs (.head h)) (headBoundary_inOrder g hs (hd h))
    | link k =>
      have hcalm : Calm s (headStep s (.link k)) := by
        cases k with
        | chooses => exact sendOlder_calm s
        | ends => exact endOrder_calm s
      have hstep : ∀ i, (if HouStep.head i ∈ HouStep.link k :: l then 0 else d i) =
          if HouStep.head i ∈ l then 0 else d i := fun i => by simp
      simp only [hstep]
      exact ih hd (hcalm.staffed hs) (g.of_fewer hcalm.fewer)

theorem mem_houSteps (l : List LinkStep) (h : HeadId) : HouStep.head h ∈ houSteps l := by
  simp [houSteps]

/-- Once every head has had its turn, all orders have the age they have between boundaries. -/
theorem takeHeads_inOrder (o : BoundaryOrder) {s : State} (hs : Staffed s) (g : InOrder s fun _ => 1) :
    InOrder (takeHeads o s) fun _ => 0 := by
  have hmem : ∀ h, HouStep.head h ∈ permute o.heads (houSteps o.amongHeads) := fun h =>
    (permute_perm ..).mem_iff.mpr (mem_houSteps ..)
  have hfold := (headSteps_inOrder (permute o.heads (houSteps o.amongHeads)) (fun _ => le_refl 1) hs g).2
  rw [takeHeads]
  simpa only [hmem, if_true] using hfold

theorem handOver_inOrder (o : BoundaryOrder) {s : State} (hs : Staffed s) (g : InOrder s fun _ => 0) :
    Staffed (handOver o s) ∧ InOrder (handOver o s) fun _ => 0 := by
  unfold handOver
  generalize permute o.handOver (houSteps o.inHandOver) = l
  induction l generalizing s with
  | nil => exact ⟨hs, g⟩
  | cons x l ih =>
    refine ih (handStep_staffed hs x) ?_
    cases x with
    | head h =>
      simp only [handStep]
      split
      · exact issueHead_inOrder g hs rfl
      · exact g
    | link k =>
      cases k with
      | chooses => exact g.of_fewer (sendOrder_calm s).fewer
      | ends => exact g.of_fewer (endOrder_calm s).fewer

end Sys2Proof.Machine
end

section
/-! PROOFS. The heads' orders through a whole boundary: the Set Tracker leaves the assignments, the count makes every order a
boundary older, and the turns of the heads bring them back. -/

namespace Sys2Proof.Machine

/-! ## The Set Tracker leaves the assignments (R77) -/

theorem modifySequence_staff (k : SlotId) (q : SeqId) (f : Sequence → Sequence) (s : State) :
    staff (modifySequence k q f s) = staff s :=
  modifyContext_staff (f := Context.modifySequence q f) (fun _ => rfl) s

theorem enter_staff (k : SlotId) (j : JobState) (s : State) : staff (modifyContext k (Context.enter j) s) = staff s :=
  modifyContext_staff (f := Context.enter j) (fun _ => rfl) s

theorem parkContext_staff (k : SlotId) (s : State) : staff (parkContext k s) = staff s := by
  unfold parkContext
  split
  · rfl
  · exact (staff_congr (contextRecord_slots ..)).trans (enter_staff ..)

theorem issueNumber_staff (slot : SlotId) (q : SeqId) (lane : LaneId) (n : Number) (a : Settling) :
    staff (issueNumber slot q lane n a).state = staff a.state := by
  unfold issueNumber
  split
  · rfl
  · split
    · rfl
    · exact (modifySequence_staff ..).trans (staff_congr (Settling.write_state_slots ..))

theorem spoilNumber_staff (slot : SlotId) (q : SeqId) (lane : LaneId) (why : Reason) (tag : Cycle) (n : Number)
    (a : Settling) : staff (spoilNumber slot q lane why tag n a).state = staff a.state := by
  unfold spoilNumber
  split
  · rfl
  · split
    · rfl
    · exact (modifySequence_staff ..).trans (staff_congr (Settling.write_state_slots ..))

theorem settleEntry_staff (r : SetRecord) (lane : LaneId) (part : LanePart) (a : Settling) (e : EntryPart) :
    staff (settleEntry r lane part a e).state = staff a.state := by
  unfold settleEntry
  split
  · rfl
  · split
    · split
      · rfl
      all_goals
        split
        · exact spoilNumber_staff ..
        · exact issueNumber_staff ..
    · rfl

theorem settleLane_staff (r : SetRecord) (a : Settling) (lane : LaneId) :
    staff (settleLane r a lane).state = staff a.state := by
  unfold settleLane
  split
  · rfl
  · exact foldl_keeps (fun a : Settling => staff a.state) (fun a e => settleEntry_staff r lane _ a e) _ a

theorem removeSet_staff (r : SetRecord) (a : Settling) : staff (removeSet r a) = staff a.state := by
  unfold removeSet
  extract_lets state st s1 s2 job s3
  have h3 : staff s3 = staff a.state := by
    have h2 : s3.slots = (modifyContext r.slot (fun c => { c with inFlight := c.inFlight - 1 }) s1).slots := by
      simp only [s3, s2, ite_notify_slots, returnReserved_slots]
    exact (staff_congr h2).trans (modifyContext_staff (by exact fun _ => rfl) s1)
  split
  · split
    · exact (staff_congr rfl).trans ((parkContext_staff ..).trans h3)
    · exact h3
  · exact h3

theorem retire_staff (s : State) : staff (retire s) = staff s := by
  unfold retire
  split
  · exact staff_congr (gateStep_slots ..)
  · next r _ =>
    have hlanes : staff ((List.finRange 4).foldl (settleLane r)
        { state := gateStep (some r) s, left := r.reservation }).state = staff (gateStep (some r) s) :=
      foldl_keeps (fun a : Settling => staff a.state) (fun a l => settleLane_staff r a l) _ _
    exact (removeSet_staff ..).trans (hlanes.trans (staff_congr (gateStep_slots ..)))

theorem fillFresh_staff (k : SlotId) (lane : LaneId) (q : SeqId) (x : Sequence) (ranges : List Exclusion) (a : Filling) :
    staff (fillFresh k lane q x ranges a).state = staff a.state := by
  unfold fillFresh
  split
  · exact (staff_congr (makeStale_slots ..)).trans (modifySequence_staff ..)
  · exact (staff_congr (by simp)).trans (modifySequence_staff k q Sequence.exhaust a.state)

theorem fillEntry_staff (k : SlotId) (a : Filling) (e : AllocEntry) : staff (fillEntry k a e).state = staff a.state := by
  unfold fillEntry
  split
  · rfl
  · rfl
  · split
    · rfl
    · split
      · rfl
      · split
        · exact modifySequence_staff ..
        · exact fillFresh_staff ..

theorem numberSet_staff (k : SlotId) (l : List AllocEntry) (s : State) : staff (numberSet k l s).state = staff s := by
  unfold numberSet
  split
  · exact (foldl_keeps (fun a : Filling => staff a.state) (fillEntry_staff k) l _).trans
      (staff_congr (reserveRecords_slots ..))
  · rfl

theorem allocate_staff (s : State) : staff (allocate s) = staff s := by
  unfold allocate
  split
  · split
    · rfl
    · exact (modifyContext_staff (by exact fun _ => rfl) _).trans ((staff_congr rfl).trans (numberSet_staff ..))
  · rfl

theorem demote_staff (k : SlotId) (s : State) : staff (demote k s) = staff s := by
  unfold demote
  split
  · rfl
  · split
    · exact enter_staff ..
    · exact parkContext_staff ..

theorem changeover_staff (s : State) : staff (changeover s) = staff s := by
  unfold changeover
  split
  · rfl
  · split
    · split
      · rfl
      · next a _ _ c _ =>
        extract_lets old s1 s2 s3 s4
        have h2 : staff s2 = staff s := (staff_congr (contextRecord_slots ..)).trans (enter_staff ..)
        have h3 : staff s3 = staff s := by
          simp only [s3]
          cases old with
          | none => exact h2
          | some k => exact (demote_staff k s2).trans h2
        cases old with
        | none => exact h3
        | some k => exact h3
    · rfl

theorem suspension_staff (s : State) : staff (suspension s) = staff s := by
  unfold suspension
  split
  · rfl
  · split
    · rfl
    · split
      · exact (staff_congr rfl).trans (enter_staff ..)
      · rfl

theorem takeWithin_staff (s : State) (p : PortId) : staff (takeWithin s p) = staff s :=
  takeWithin_keeps staff (fun _ _ _ => staff_congr rfl) (fun _ _ _ => staff_congr rfl)
    (fun k _ q _ s => (staff_congr (journalUnreserved_slots ..)).trans (modifySequence_staff k q _ s)) s p

theorem takeAll_staff (l : List PortId) (s : State) : staff (l.foldl takeWithin s) = staff s :=
  foldl_keeps staff takeWithin_staff l s

theorem trackBoundary_staff (o : BoundaryOrder) (s : State) : staff (trackBoundary o s) = staff s := by
  have hturn : staff (suspension (changeover s)) = staff s := (suspension_staff _).trans (changeover_staff s)
  unfold trackBoundary
  simp only []
  split
  · exact (allocate_staff _).trans ((takeAll_staff ..).trans ((retire_staff _).trans hturn))
  · exact (retire_staff _).trans ((takeAll_staff ..).trans ((allocate_staff _).trans hturn))

/-! ## The Set Tracker's boundary -/

/-- No context is engaged after the Set Tracker's boundary that was not so before. -/
theorem View.Opened.track_engaged {s : State} (h : s.view.Opened) (o : BoundaryOrder) {k : SlotId}
    (he : Engaged (trackBoundary o s) k) : Engaged s k := by
  rcases he with ha | hd | hp
  · rcases (h.track_active o k).mp ha with ⟨a, hact, -, rfl⟩ | ⟨-, c, hc, hca, -⟩
    · exact .inr (.inr fun hnot => hnot a hact rfl)
    · exact .inl (by rw [slotState_eq, hc, Option.map_some, hca])
  · exact (h.track_draining o hd).2.1.imp_right .inl
  · refine .inr (.inr fun hnot => hp fun a ha => ?_)
    rw [trackBoundary_activation] at ha
    by_cases hcome : ∃ j, Comes s j
    · obtain ⟨j, hj⟩ := hcome
      rw [changeover_activation_of_comes hj] at ha; cases ha
    · rw [changeover_of_none fun j hj => hcome ⟨j, hj⟩] at ha
      exact hnot a ha

theorem View.Opened.track_fitted {s : State} (h : s.view.Opened) (o : BoundaryOrder) (g : Fitted s) :
    Fitted (trackBoundary o s) := by
  obtain ⟨hmerge, -, hlag⟩ := trackBoundary_lags o s
  exact g.congr (fun i => by rw [trackBoundary_hou]) hmerge hlag fun k i he hm =>
    ⟨h.track_engaged o he, (manned_congr (trackBoundary_staff o s) k i).mp hm⟩

/-- The set that retires has no outstanding order: those are for sets younger than the gate lag (R83, R120). -/
theorem View.Opened.track_fewer {s : State} (h : s.view.Opened) (o : BoundaryOrder) {d : HeadId → Nat} (hd : ∀ i, d i ≤ 1)
    (g : InOrder s d) : Fewer s (trackBoundary o s) := by
  refine .of_ring (by simp) (by simp) (trackBoundary_lags o s).2.2 fun i x hx ⟨r, hr, ht, hh⟩ => ?_
  have hstay : r ∈ stay s := by
    refine List.mem_filter.mpr ⟨hr, bne_iff_ne.mpr fun hdue => ?_⟩
    obtain ⟨p, -, hlag, -, hage⟩ := g.outstanding i x hx
    have hmax : s.st.gateLag ≤ 127 := h.gateLag_le
    have hdueAge : tagAge s x.tag = s.st.gateLag := by
      rw [← ht, hdue]; exact tagAge_sub s (by omega)
    have := hd i
    omega
  refine ⟨r, ?_, ht, hh⟩
  rcases h.track_ring o with e | ⟨-, n, -, -, -, e⟩
  · rw [e]; exact hstay
  · rw [e]; exact List.mem_append_left _ hstay

/-! ## The count -/

theorem tagAge_add {s : State} {t : Cycle} {n : Nat} (h : n ≤ tagAge s t) :
    tagAge s (t + BitVec.ofNat 32 n) + n = tagAge s t := by
  unfold tagAge at h ⊢; bv_omega

theorem tagAge_next {s t : State} (h : t.wpu.cycle = s.wpu.cycle + 1) {x : Cycle} (hx : tagAge s x < 2 ^ 32 - 1) :
    tagAge t x = tagAge s x + 1 := by
  unfold tagAge at hx ⊢; rw [h]; bv_omega

/-- An outstanding order is for a set that is at most as old as the print lag (R83). -/
theorem InOrder.age_le {s : State} (g : InOrder s fun _ => 0) (hfit : Fitted s) {h : HeadId} {o : Order}
    (ho : o ∈ s.hou.heads[(h : Nat)].queue) : tagAge s o.tag ≤ 60 := by
  obtain ⟨p, hp, -, -, hage⟩ := g.outstanding h o ho
  have := (hfit.placed h p hp).2
  omega

/-- A waiting order was issued at the last boundary or the one before (R83, R85). -/
theorem InOrder.boundary_le {s : State} (g : InOrder s fun _ => 0) (hfit : Fitted s) {w : WaitingOrder}
    (hw : w ∈ s.hou.transmit) : tagAge s w.boundary ≤ 1 := by
  obtain ⟨ho, p, hp, hb⟩ := g.waiting w hw
  obtain ⟨q, hq, -, -, hage⟩ := g.outstanding w.head w.order ho
  obtain rfl := Option.some.inj (hp.symm.trans hq)
  have hlag := (hfit.placed w.head p hp).1
  have hsplit := tagAge_add (s := s) (t := w.order.tag) (n := p.lag - 1) (by omega)
  rw [← hb] at hsplit
  omega

/-- A boundary's count makes every order a boundary older (R32). -/
theorem InOrder.opened {s t : State} (g : InOrder s fun _ => 0) (hfit : Fitted s) (hcycle : t.wpu.cycle = s.wpu.cycle + 1)
    (hst : t.st = s.st) (hhou : t.hou = s.hou) : InOrder t fun _ => 1 := by
  have hage : ∀ (h : HeadId), ∀ o ∈ s.hou.heads[(h : Nat)].queue, tagAge t o.tag = tagAge s o.tag + 1 := fun h o ho =>
    tagAge_next hcycle (by have := g.age_le hfit ho; omega)
  have hboundary : ∀ w ∈ s.hou.transmit, tagAge t w.boundary = tagAge s w.boundary + 1 := fun w hw =>
    tagAge_next hcycle (by have := g.boundary_le hfit hw; omega)
  refine ⟨fun h o ho => ?_, fun h => ?_, by rw [hhou]; exact g.waiting, ?_⟩
  · rw [hhou] at ho ⊢
    obtain ⟨p, hp, hlag, hordered, hwindow⟩ := g.outstanding h o ho
    refine ⟨p, hp, by rwa [hst], by rwa [Ordered, hst], ?_⟩
    rw [hage h o ho]
    omega
  · rw [hhou, List.map_congr_left (hage h)]
    have hold := List.pairwise_map.mp (g.issued h)
    exact List.pairwise_map.mpr (hold.imp fun hlt => by omega)
  · rw [hhou]
    refine g.sending.imp_of_mem fun {a b} ha hb hab => ?_
    rw [hboundary a ha, hboundary b hb]
    exact hab.imp_left fun hlt => by omega

/-! ## The measurement beside the heads -/

theorem passVerdict_calm (record : RegRecord) (s : State) : Calm s (passVerdict record s) := by
  unfold passVerdict
  split
  · exact .refl s
  · exact modifySet_calm (SetRecord.verdict_account record.faulty) (fun _ _ => id) s

theorem notify_calm (k : NoticeKind) (b : List Byte) (s : State) : Calm s (notify k b s) := .of_eq

theorem latchStop_calm (c : StopCause) (s : State) : Calm s (latchStop c s) := .of_eq

theorem reportFault_calm (record : RegRecord) (n : Nat) (s : State) : Calm s (reportFault record n s) := by
  unfold reportFault
  exact .ite (fun _ => .ite (fun _ => (notify_calm ..).trans (latchStop_calm ..)) fun _ => notify_calm ..) fun _ => .refl s

theorem closeMeasurement_calm (c : CloseCause) (s : State) : Calm s (closeMeasurement c s) := by
  cases h : s.mtu.armed with
  | none => rw [closeMeasurement_unarmed h]; exact .refl s
  | some a =>
    rw [closeMeasurement_armed h]
    exact .trans (.trans .of_eq (passVerdict_calm _ { s with mtu := _ })) (reportFault_calm ..)

theorem followMeasurement_calm (s : State) : Calm s (followMeasurement s) := by
  unfold followMeasurement
  split
  · exact .ite (fun _ => .trans .of_eq (closeMeasurement_calm _ { s with mtu := _ })) fun _ => .of_eq
  · exact .refl s

theorem armMeasurement_calm (s : State) : Calm s (armMeasurement s) := .of_eq

theorem measureBoundary_calm (s : State) : Calm s (measureBoundary s) :=
  .trans (.ite (fun _ => closeMeasurement_calm ..) fun _ => .refl s) (armMeasurement_calm _)

theorem closeWindow_calm (s : State) : Calm s (closeWindow s) :=
  modifySet_calm (f := fun r => { r with lanes := r.lanes.map LanePart.closeWindow }) (fun _ => rfl) (fun _ _ => id) s

/-! ## A whole boundary -/

/-- A boundary with some of its parts still to come: the Set Tracker's count of the sets, the heads' places, and the orders
at the age that the heads' turn leaves them. -/
structure AtBoundary (l : List Phase) (s : State) : Prop where
  before : .track ∈ l → s.view.Opened
  after : .track ∉ l → RunSound s
  fitted : Fitted s
  orders : InOrder s fun _ => if .heads ∈ l then 1 else 0

theorem AtBoundary.staffed {l : List Phase} {s : State} (g : AtBoundary l s) : Staffed s := by
  by_cases ht : Phase.track ∈ l
  · have ho := g.before ht
    exact ⟨ho.tags, (owned_iff_view s).mpr ho.owned, g.fitted⟩
  · have hrun := g.after ht
    exact ⟨hrun.ring.1, hrun.owned, g.fitted⟩

/-- A part of the boundary beside track and heads. -/
theorem AtBoundary.of_calm {p : Phase} {l : List Phase} {s t : State} (g : AtBoundary (p :: l) s) (hc : Calm s t)
    (ht : p ≠ .track) (hh : p ≠ .heads) : AtBoundary l t where
  before hl := by rw [hc.view]; exact g.before (List.mem_cons_of_mem _ hl)
  after hl := by
    rw [runSound_iff, hc.view, ← runSound_iff]
    exact g.after fun h => hl ((List.mem_cons.mp h).resolve_left ht.symm)
  fitted := g.fitted.of_calm hc
  orders := by simpa [List.mem_cons, hh.symm] using g.orders.of_fewer hc.fewer

theorem AtBoundary.phase {o : BoundaryOrder} {n : Option WebNotice} {p : Phase} {l : List Phase} (hl : p ∉ l) {s : State}
    (g : AtBoundary (p :: l) s) : AtBoundary l (runPhase o n s p) := by
  cases p with
  | measure => exact g.of_calm (measureBoundary_calm s) nofun nofun
  | window => exact g.of_calm (closeWindow_calm s) nofun nofun
  | webNotice =>
    refine g.of_calm ?_ nofun nofun
    cases n with
    | none => exact .refl s
    | some w => exact notify_calm ..
  | track =>
    have ho := g.before (List.mem_cons_self ..)
    have hd : ∀ i : HeadId, (fun _ : HeadId => if Phase.heads ∈ Phase.track :: l then 1 else 0) i ≤ 1 := fun i => by
      simp only []; split <;> omega
    exact ⟨fun ht => absurd ht hl, fun _ => ho.track_runSound o, ho.track_fitted o g.fitted,
      by simpa [runPhase] using g.orders.of_fewer (ho.track_fewer o hd g.orders)⟩
  | heads =>
    have hview : (takeHeads o s).view = s.view := (runPhase_aside o n s (p := .heads) nofun).1
    have hsteps : Staffed (takeHeads o s) :=
      (headSteps_inOrder _ (d := fun _ => 1) (fun _ => le_refl 1) g.staffed (by simpa using g.orders)).1
    refine ⟨fun ht => ?_, fun ht => ?_, hsteps.fitted, ?_⟩
    · rw [show runPhase o n s .heads = takeHeads o s from rfl, hview]
      exact g.before (List.mem_cons_of_mem _ ht)
    · rw [show runPhase o n s .heads = takeHeads o s from rfl, runSound_iff, hview, ← runSound_iff]
      exact g.after (by simpa using ht)
    · simpa [runPhase, hl] using takeHeads_inOrder o g.staffed (by simpa using g.orders)

theorem AtBoundary.phases {o : BoundaryOrder} {n : Option WebNotice} {l : List Phase} (hl : l.Nodup) {s : State}
    (g : AtBoundary l s) : AtBoundary [] (l.foldl (runPhase o n) s) := by
  induction l generalizing s with
  | nil => exact g
  | cons p l ih =>
    obtain ⟨hp, hrest⟩ := List.nodup_cons.mp hl
    exact ih hrest (g.phase hp)

/-- A boundary keeps the orders in order. -/
theorem boundary_orders (k : Opening) (pos : Nat) (n : Option WebNotice) (s : State) : KeepsOrders s (boundary k pos n s) where
  run := (boundary_keeps k pos n s).run
  orders hrun ho := by
    obtain ⟨hfit, horder⟩ := (ordersSound_iff s).mp ho
    let u : State := { s with wpu := s.wpu.openCycle k pos, choices := s.choices + 1 }
    have hfitted : Fitted u := hfit.congr (t := u) (fun _ => rfl) rfl rfl fun _ _ he hm => ⟨he, hm⟩
    have horders : InOrder u fun _ => 1 := horder.opened hfit rfl rfl rfl
    let l := permute (chosenOrder s).blocks [Phase.measure, .window, .track, .heads, .webNotice]
    have hperm : l.Perm [Phase.measure, .window, .track, .heads, .webNotice] := permute_perm ..
    have hnodup : l.Nodup := hperm.nodup_iff.mpr (by decide)
    have htrack : Phase.track ∈ l := hperm.mem_iff.mpr (by decide)
    have hheads : Phase.heads ∈ l := hperm.mem_iff.mpr (by decide)
    have hstart : AtBoundary l u :=
      ⟨fun _ => boundary_opened hrun k pos, fun h => absurd htrack h, hfitted, by simpa [hheads] using horders⟩
    have hend := hstart.phases (o := chosenOrder s) (n := n) hnodup
    have hover := handOver_inOrder (chosenOrder s) hend.staffed (by simpa using hend.orders)
    exact (ordersSound_iff _).mpr ⟨hover.1.fitted, hover.2⟩

end Sys2Proof.Machine
end

section
/-! PROOFS. The heads' orders through every command: what brings no new order, and the few that change what runs, what is
placed or the lags. -/

namespace Sys2Proof.Machine

/-! ## The operations beside the heads -/

theorem modifyPort_calm (p : PortId) (f : Port → Port) (s : State) : Calm s (modifyPort p f s) := .of_eq

theorem notifyJob_calm (k : SlotId) (job : Option Nat) (a b : Option JobState) (s : State) :
    Calm s (notifyJob k job a b s) := .of_eq

theorem modifySequence_calm (k : SlotId) (q : SeqId) (f : Sequence → Sequence) (s : State) :
    Calm s (modifySequence k q f s) := .of_context (f := Context.modifySequence q f) (fun _ => rfl) fun _ => rfl

theorem makeStale_calm (k : SlotId) (q : SeqId) (s : State) : Calm s (makeStale k q s) := .of_eq

theorem journalUnreserved_calm (slot : SlotId) (job : Nat) (stamp : Cycle) (b : RecordBody) (s : State) :
    Calm s (journalUnreserved slot job stamp b s) := .of_eq

theorem showDriven_calm (f : LineFunction) (v : Bool) (s : State) : Calm s (showDriven f v s) := .of_eq

theorem changeStops_calm (c : StopCause) (n : StopSet) (b : Byte) (s : State) : Calm s (changeStops c n b s) := .of_eq

theorem modifyWpu_calm {f : Wpu → Wpu} {s : State} (h : (f s.wpu).cycle = s.wpu.cycle) : Calm s (modifyWpu f s) :=
  .of_eq rfl rfl h rfl rfl

theorem setGateRecord_calm (k : LaneId) (g : Gate) (s : State) : Calm s (setGateRecord k g s) :=
  ⟨(setGateRecord_aside k g s).1, staff_congr (by simp),
    .of_eq (hlag := by rw [setGateRecord_st]) (hring := by rw [setGateRecord_st])⟩

theorem releaseGates_calm (s : State) : Calm s (releaseGates s) := by
  refine .foldl (fun u k => ?_) _ s
  split
  · exact .ite (fun _ => setGateRecord_calm ..) fun _ => .refl u
  · exact .refl u
  · exact .refl u

theorem markEdge_calm (k : ChannelId) (s : State) : Calm s (markEdge k s) := by
  unfold markEdge takeMark
  refine .ite (fun _ => .refl s) fun _ => ?_
  split
  · exact .ite (fun _ => .ite (fun _ => .ite (fun _ => .trans .of_eq (closeMeasurement_calm _ { s with mtu := _ }))
      fun _ => .of_eq) fun _ => .of_eq) fun _ => .refl s
  · exact .refl s

/-! ## The events of press and lines -/

theorem countPosition_calm {f : Wpu → Wpu} {s : State} (h : (f s.wpu).cycle = s.wpu.cycle) :
    Calm s (followMeasurement (modifyWpu f s)) :=
  (modifyWpu_calm h).trans (followMeasurement_calm _)

theorem forwardEdge_orders (s : State) : KeepsOrders s (forwardEdge s) := by
  have hcount : Calm s (releaseGates (followMeasurement (modifyWpu (fun w => { w with position := s.wpu.position + 1 }) s))) :=
    (countPosition_calm rfl).trans (releaseGates_calm _)
  unfold forwardEdge
  exact .ite (fun _ => .ite (fun _ => boundary_orders ..) fun _ => hcount.keeps)
    fun _ => .ite (fun _ => boundary_orders ..) fun _ => hcount.keeps

theorem backedForward_calm (s : State) : Calm s (backedForward s) :=
  .ite (fun _ => (modifyWpu_calm (by rfl)).trans (notify_calm ..)) fun _ => modifyWpu_calm rfl

theorem reverseEdge_calm (s : State) : Calm s (reverseEdge s) :=
  .ite (fun _ => countPosition_calm (by rfl)) fun _ => (modifyWpu_calm (by rfl)).trans (notify_calm ..)

theorem backedReverse_calm (s : State) : Calm s (backedReverse s) := by
  unfold backedReverse
  extract_lets d s1
  have h1 : Calm s s1 := modifyWpu_calm rfl
  exact .ite (fun _ => h1.trans ((modifyWpu_calm (by rfl)).trans (notify_calm ..))) fun _ => h1

theorem countedEdge_orders (d : Direction) (s : State) : KeepsOrders s (countedEdge d s) := by
  unfold countedEdge
  split
  · exact forwardEdge_orders s
  · exact (backedForward_calm s).keeps
  · exact (reverseEdge_calm s).keeps
  · exact (backedReverse_calm s).keeps

theorem judgeTransition_orders (r now : Levels) (s : State) : KeepsOrders s (judgeTransition r now s) := by
  have href : Calm s (modifyWpu (fun w => { w with reference := some now }) s) := modifyWpu_calm rfl
  have hedge : ∀ d u, KeepsOrders u (countedEdge d (modifyWpu (Wpu.edge d) u)) := fun d u =>
    .trans (modifyWpu_calm (f := Wpu.edge d) rfl).keeps (countedEdge_orders d _)
  unfold judgeTransition
  extract_lets s1
  split
  · exact .refl s
  · exact href.keeps.trans (hedge .forward s1)
  · exact href.keeps.trans (hedge .reverse s1)
  · exact (href.trans (notify_calm ..)).keeps

theorem watchEncoder_orders (s : State) : KeepsOrders s (watchEncoder s) := by
  unfold watchEncoder
  split
  · exact judgeTransition_orders ..
  · exact .refl s

theorem indexSetsBack_calm (s : State) : Calm s (indexSetsBack s) := countPosition_calm rfl

theorem takeIndex_orders (s : State) : KeepsOrders s (takeIndex s) :=
  .ite (fun _ => .ite (fun _ => boundary_orders ..) fun _ =>
    .ite (fun _ => ((indexSetsBack_calm s).trans (notify_calm ..)).keeps) fun _ =>
    .ite (fun _ => (indexSetsBack_calm s).keeps) fun _ =>
    .ite (fun _ => boundary_orders ..) fun _ => .refl s) fun _ => .refl s

theorem hearLine_orders (f : LineFunction) (level : Bool) (s : State) : KeepsOrders s (hearLine f level s) := by
  unfold hearLine
  split
  · exact watchEncoder_orders s
  · exact watchEncoder_orders s
  · exact .ite (fun _ => takeIndex_orders s) fun _ => .refl s
  · exact .ite (fun _ => (markEdge_calm ..).keeps) fun _ => .refl s
  all_goals exact .refl s

/-! ## The head link -/

theorem takeCompletion_calm (h : HeadId) (t : Cycle) (res : PrintResult) (s : State) : Calm s (takeCompletion h t res s) := by
  unfold takeCompletion
  split
  · cases res with
    | printed => exact settlePrinted_calm ..
    | failed => exact settleFailed_calm ..
  · exact notify_calm ..

theorem setDevice_calm (h : HeadId) (d : Device) (s : State) : Calm s (setDevice h d s) := by
  have hdevice : Calm s (modifyHead h (fun x => { x with device := d }) s) :=
    ⟨(modifyHead_aside ..).1, staff_congr rfl, modifyHead_fewer (by exact fun _ => rfl) (by exact fun _ => rfl) s⟩
  exact .ite (fun _ => .refl s) fun _ => hdevice.trans (notify_calm ..)

theorem failOrders_calm (h : HeadId) (s : State) : Calm s (failOrders h s) := .foldl (fun _ _ => settleFailed_calm ..) _ s

theorem takeStateMessage_calm (h : HeadId) (rep : HeadReport) (s : State) : Calm s (takeStateMessage h rep s) := by
  cases rep with
  | ready => exact setDevice_calm ..
  | fault =>
    refine .trans (.ite (fun _ => ?_) fun _ => failOrders_calm h s) (setDevice_calm ..)
    exact (failOrders_calm h s).trans (latchStop_calm ..)

theorem takeHeadFrame_calm (f : RxFrame) (s : State) : Calm s (takeHeadFrame f s) := by
  unfold takeHeadFrame
  split
  · exact .refl s
  · split
    · split
      · exact .ite (fun _ => takeCompletion_calm ..) fun _ => .ite (fun _ => takeCompletion_calm ..) fun _ => .refl s
      · exact .refl s
    · split
      · exact .ite (fun _ => takeStateMessage_calm ..) fun _ => .ite (fun _ => takeStateMessage_calm ..) fun _ => .refl s
      · exact .refl s
    · exact .refl s

theorem receiver_calm (r : Receiver) (s : State) : Calm s { s with hou := { s.hou with receiver := r } } :=
  hou_rest_calm rfl rfl rfl rfl rfl rfl

/-! ## The background operations -/

theorem background_calm (b : Background) (s : State) : Calm s { s with background := b } := .of_eq

theorem endProbe_calm (p : Probe) (e : ProbeEnd) (s : State) : Calm s (endProbe p e s) :=
  (background_calm ..).trans (notify_calm ..)

theorem stepProbe_calm (p : Probe) (s : State) : Calm s (stepProbe p s) := by
  unfold stepProbe
  split
  · exact endProbe_calm ..
  · exact .ite (fun _ => endProbe_calm ..) fun _ => background_calm ..

theorem endSkip_calm (k : Skip) (e : SkipEnd) (s : State) : Calm s (endSkip k e s) :=
  (background_calm ..).trans (notify_calm ..)

theorem journalSkip_calm {k : Skip} {job : Nat} {x : Sequence} {v : Nat} {s t : State}
    (h : journalSkip k job x v s = some t) : Calm s t := by
  simp only [journalSkip] at h
  split at h
  · cases h; exact .of_eq
  · split at h
    · cases h; exact journalUnreserved_calm ..
    · cases h

theorem commitSkip_calm (k : Skip) (x : Sequence) (v : Nat) (w : Bool) (s : State) : Calm s (commitSkip k x v w s) := by
  have hdrawn := modifySequence_calm k.slot k.sequence (fun y => (y.commit v w).countSkipped) s
  exact .ite (fun _ => hdrawn.trans (endSkip_calm ..)) fun _ => hdrawn.trans (background_calm ..)

theorem stepSkip_calm (k : Skip) (c : Context) (x : Sequence) (s : State) : Calm s (stepSkip k c x s) := by
  unfold stepSkip
  split
  · exact (modifySequence_calm ..).trans (endSkip_calm ..)
  · split
    · exact background_calm ..
    · next hs => exact (journalSkip_calm hs).trans (commitSkip_calm ..)

theorem execSkipDraw_orders {s t : State} (h : execSkipDraw s = .next t) : KeepsOrders s t := by
  cases h
  split
  · refine .ite (fun _ => ?_) fun _ => .refl s
    split
    · exact .refl s
    · split
      · exact .refl s
      · exact (stepSkip_calm ..).keeps
  · exact .refl s
  · exact .refl s

theorem resumeSkip_calm (s : State) : Calm s (resumeSkip s) := .of_eq

theorem releaseRecords_calm (n : Nat) (s : State) : Calm s (releaseRecords n s) := by
  unfold releaseRecords
  split
  · exact .refl s
  · exact .of_eq

/-! ## Changes of what runs, of what is placed and of the lags -/

/-- No new order, no head that is moved, and no context that takes up new heads. -/
theorem OrdersSound.congr {s t : State} (ho : OrdersSound s) (h : Fewer s t) (hmerge : t.st.merge = s.st.merge)
    (hcrew : ∀ k i, Engaged t k → Manned t k i → Engaged s k ∧ Manned s k i) : OrdersSound t := by
  obtain ⟨hfit, horder⟩ := (ordersSound_iff s).mp ho
  exact (ordersSound_iff t).mpr ⟨hfit.congr h.placement hmerge h.gateLag hcrew, horder.of_fewer h⟩

/-- One slot is changed, and the context it then holds neither runs nor is pending. -/
theorem OrdersSound.of_slot {s t : State} (ho : OrdersSound s) {k : SlotId}
    (hother : ∀ j : SlotId, j ≠ k → t.slots[(j : Nat)] = s.slots[(j : Nat)]) (hk : ¬Engaged t k)
    (hact : t.activation = s.activation := by simp) (hcycle : t.wpu.cycle = s.wpu.cycle := by simp)
    (hst : t.st = s.st := by simp) (hhou : t.hou = s.hou := by simp) : OrdersSound t := by
  refine ho.congr (.of_eq hhou hcycle (by rw [hst]) (by rw [hst])) (by rw [hst]) fun j i he hm => ?_
  have hj : j ≠ k := by rintro rfl; exact hk he
  have hslot := hother j hj
  simp only [Engaged, Manned, staff, slotState, NotPending, Fin.getElem_fin, hslot, hact] at he hm ⊢
  exact ⟨he, hm⟩

theorem modifyContext_other (k : SlotId) (f : Context → Context) (s : State) (j : SlotId) (hj : j ≠ k) :
    (modifyContext k f s).slots[(j : Nat)] = s.slots[(j : Nat)] := by
  simp [updateAt_get_ne _ _ _ _ hj.symm]

theorem setSlot_other (k : SlotId) (c : Option Context) (s : State) (j : SlotId) (hj : j ≠ k) :
    (setSlot k c s).slots[(j : Nat)] = s.slots[(j : Nat)] := by
  have hne : (k : Nat) ≠ j := fun e => hj (Fin.ext e.symm)
  simp [Vector.getElem_set_ne _ _ hne]

/-- A slot that is neither READY nor PARKED has no activation pending (R167). -/
theorem RunSound.notPending {s : State} (h : RunSound s) {k : SlotId} {j : Option JobState} (hk : slotState s k = j)
    (hr : j ≠ some .ready) (hp : j ≠ some .parked) : NotPending k s := by
  rw [slotState_eq_view] at hk
  exact fun a ha => ((runSound_iff s).mp h).1.pending_ne (hk ▸ hr) (hk ▸ hp) a ha

theorem modifyContext_slotState {s : State} {k : SlotId} {c : Context} (hc : s.slots[k] = some c) (f : Context → Context) :
    slotState (modifyContext k f s) k = some (f c).state := by
  have hc : s.slots[(k : Nat)] = some c := hc
  simp [slotState, hc]

/-- A context in BUILDING is changed and stays BUILDING (R167). -/
theorem building_orders {k : SlotId} {s : State} {f : Context → Context} {r : Context → List Byte}
    (h : ∀ c, (f c).course = c.course := by exact fun _ => rfl) :
    (building s k fun c => .accept (modifyContext k f s) (r c)).Ensures (KeepsOrders s) :=
  ensures_standing fun c hc hb => by
    have hstate : slotState s k = some .building := (slotState_of_some hc).trans (congrArg some (beq_iff_eq.mp hb))
    refine ⟨(Aside.of_context h).keeps.run, fun hrun ho => ho.of_slot (modifyContext_other k f s) fun he => ?_⟩
    have hkept : slotState (modifyContext k f s) k = some .building := by
      rw [slotState_eq_view, (Aside.of_context h).1, ← slotState_eq_view, hstate]
    have hnot : NotPending k s := hrun.notPending hstate nofun nofun
    rcases he with he | he | he
    · rw [hkept] at he; cases he
    · rw [hkept] at he; cases he
    · exact he hnot

/-- The context of a slot enters a state in which it does not run, with no activation pending. -/
theorem OrdersSound.enter {s : State} (ho : OrdersSound s) {k : SlotId} {c : Context} (hc : s.slots[k] = some c)
    (hn : NotPending k s) {j : JobState} (ha : j ≠ .active) (hd : j ≠ .draining) :
    OrdersSound (modifyContext k (Context.enter j) s) := by
  have hstate : slotState (modifyContext k (Context.enter j) s) k = some j := modifyContext_slotState hc _
  refine ho.of_slot (modifyContext_other k _ s) fun he => ?_
  rcases he with he | he | he
  · rw [hstate] at he; exact ha (Option.some.inj he)
  · rw [hstate] at he; exact hd (Option.some.inj he)
  · exact he hn

/-- A slot becomes EMPTY or takes a freshly opened context, with no activation pending. -/
theorem OrdersSound.setSlot {s : State} (ho : OrdersSound s) {k : SlotId} {o : Option Context} (hn : NotPending k s)
    (hb : ∀ c, o = some c → c.state = .building) : OrdersSound (setSlot k o s) := by
  have hstate : slotState (Machine.setSlot k o s) k = o.map Context.state := by simp [slotState]
  have hnot : ∀ j : JobState, j ≠ .building → o.map Context.state ≠ some j := fun j hj e => by
    obtain ⟨c, hc, he⟩ := Option.map_eq_some_iff.mp e
    exact hj (he.symm.trans (hb c hc))
  refine ho.of_slot (setSlot_other k o s) fun he => ?_
  rcases he with he | he | he
  · exact hnot .active nofun (hstate.symm.trans he)
  · exact hnot .draining nofun (hstate.symm.trans he)
  · exact he hn

/-- Without sets no order is outstanding and none waits. -/
theorem InOrder.none_of_empty {s : State} {d : HeadId → Nat} (g : InOrder s d) (h : s.st.ring = []) :
    (∀ i : HeadId, s.hou.heads[(i : Nat)].queue = []) ∧ s.hou.transmit = [] := by
  have hqueue : ∀ i : HeadId, s.hou.heads[(i : Nat)].queue = [] := fun i =>
    List.eq_nil_iff_forall_not_mem.mpr fun o ho => by
      obtain ⟨-, -, -, ⟨r, hr, -⟩, -⟩ := g.outstanding i o ho
      rw [h] at hr; cases hr
  refine ⟨hqueue, List.eq_nil_iff_forall_not_mem.mpr fun w hw => ?_⟩
  have ho := (g.waiting w hw).1
  rw [hqueue] at ho; cases ho

/-- While nothing runs the geometry is free: there is no order, and no head that must stay placed (R50, R74). -/
theorem OrdersSound.geometry {s t : State} (ho : OrdersSound s) (hrun : RunSound s) (hidle : NothingRuns s)
    (hplaced : ∀ (h : HeadId) (p : Placement), t.hou.heads[(h : Nat)].placement = some p → 1 ≤ p.lag ∧ p.lag ≤ 60)
    (hqueue : ∀ i : HeadId, t.hou.heads[(i : Nat)].queue = s.hou.heads[(i : Nat)].queue)
    (htransmit : t.hou.transmit = s.hou.transmit := by rfl) (hslots : t.slots = s.slots := by rfl)
    (hact : t.activation = s.activation := by rfl) : OrdersSound t := by
  have hring : s.st.ring = [] := List.eq_nil_iff_forall_not_mem.mpr fun r hr => by
    rcases hrun.owned r hr with e | e
    · exact (hidle.1 r.slot).1 e
    · exact (hidle.1 r.slot).2 e
  obtain ⟨hnone, hempty⟩ := ((ordersSound_iff s).mp ho).2.none_of_empty hring
  refine (ordersSound_iff t).mpr ⟨⟨hplaced, fun k _ he _ => ?_⟩, fun h o hmem => ?_, fun h => ?_, fun w hw => ?_, ?_⟩
  · have hstate : slotState t k = slotState s k := by simp only [slotState, hslots]
    rw [Engaged, hstate] at he
    rcases he with he | he | he
    · exact absurd he (hidle.1 k).1
    · exact absurd he (hidle.1 k).2
    · refine absurd (fun a ha => ?_) he
      rw [hact, hidle.2] at ha; cases ha
  · rw [hqueue, hnone] at hmem; cases hmem
  · rw [hqueue, hnone]; exact .nil
  · rw [htransmit, hempty] at hw; cases hw
  · rw [htransmit, hempty]; exact .nil

end Sys2Proof.Machine
end

section
/-! PROOFS. Every step keeps the heads' orders in order, and so they are few. -/

namespace Sys2Proof.Machine

/-! ## The requests -/

/-- A request keeps what its acceptance keeps. -/
theorem request_orders {p : PortId} {c : Instr} {act : State → Reply} {s t : State} (h : request p c act s = .next t)
    (ha : ∀ u, (act u).Ensures (KeepsOrders u)) : KeepsOrders s t :=
  request_ensures (P := KeepsOrders s) (fun p f _ hu => hu.trans (modifyPort_calm p f _).keeps)
    (fun u hu => (ha u).mono fun _ ht => hu.trans ht) h (.refl s)

theorem replyLoadValue_calm (sl sq : Nat) (v : Int) (s : State) : (replyLoadValue sl sq v s).Ensures (Calm s) :=
  ensures_named fun _ => ensures_named fun _ => ensures_require fun _ => ensures_inState fun _ _ => ensures_require fun _ =>
  ensures_require fun _ => ensures_defined fun _ _ => ensures_require fun _ => ensures_require fun _ =>
  ensures_journalRoom fun _ => (modifySequence_calm ..).trans (journalUnreserved_calm ..)

theorem replyAddExclusion_calm (sl sq a b : Nat) (s : State) : (replyAddExclusion sl sq a b s).Ensures (Calm s) :=
  ensures_named fun k => ensures_named fun q => ensures_require fun _ => ensures_inState fun c _ =>
  ensures_defined fun _ _ => ensures_require fun _ => ensures_journalRoom fun _ => by
    have hjournal : Calm s (journalExclusion k c q a b s) := by
      unfold journalExclusion
      exact .ite (fun _ => .refl s) fun _ => journalUnreserved_calm ..
    have hadd : Calm (journalExclusion k c q a b s) (modifyContext k (fun c => { c with
        exclusions := insertRange { sequence := q, low := a, high := b } c.exclusions }) (journalExclusion k c q a b s)) :=
      .of_context (fun _ => rfl) fun _ => rfl
    exact hjournal.trans (hadd.trans (makeStale_calm ..))

theorem replyWithin_calm {c : Instr} {act : State → Reply} (hc : replyWithin c = some act) (s : State) :
    (act s).Ensures (Calm s) := by
  cases h : act s with
  | refuse => trivial
  | accept t r =>
    rcases replyWithin_accept hc h with rfl | ⟨start, n, rfl⟩ | ⟨k, x, q, e, rfl⟩
    · exact .refl t
    · exact .of_eq
    · exact (modifySequence_calm ..).trans (journalUnreserved_calm ..)

theorem replyReadSet_calm (tag page : Nat) (s : State) : (replyReadSet tag page s).Ensures (Calm s) := by
  unfold replyReadSet
  split
  · trivial
  · exact .refl s

theorem flushSets_calm (k : SlotId) (s : State) : Calm s (flushSets k s) :=
  modifySets_calm (f := SetRecord.flush) (fun _ => rfl) (fun r i hi => by simp [SetRecord.flush, hi]) s

theorem replyFlush_calm (sl : Nat) (s : State) : (replyFlush sl s).Ensures (Calm s) :=
  ensures_named fun _ => ensures_inState fun _ _ => ensures_journalRoom fun _ =>
  (flushSets_calm ..).trans (journalUnreserved_calm ..)

theorem replyCancelBackground_calm (s : State) : (replyCancelBackground s).Ensures (Calm s) := by
  unfold replyCancelBackground
  split
  · trivial
  · exact ensures_require fun _ => (background_calm ..).trans (notify_calm ..)
  · exact ensures_require fun _ => endSkip_calm ..

theorem replyClearStop_calm (c : Nat) (s : State) : (replyClearStop c s).Ensures (Calm s) :=
  ensures_coded fun c => by
    split
    · refine ensures_require fun _ => ?_
      cases c with
      | regRun => exact Calm.trans .of_eq (changeStops_calm ..)
      | seqExhausted | journalHigh | headFault | operatorStop => exact changeStops_calm ..
    · exact Calm.refl s

/-! ## The requests on job contexts -/

theorem replyOpenContext_orders (sl job lanes po li : Nat) (s : State) :
    (replyOpenContext sl job lanes po li s).Ensures (KeepsOrders s) :=
  ensures_named fun k => ensures_require fun _ => ensures_coded fun _ => ensures_require fun _ => ensures_require fun hempty => by
    have hnone := Option.isNone_iff_eq_none.mp hempty
    have hstate : slotState s k = none := by rw [slotState, hnone]; rfl
    refine KeepsOrders.trans ⟨(open_keeps hnone job lanes _ li).run, fun hrun ho => ?_⟩ (notifyJob_calm ..).keeps
    exact ho.setSlot (hrun.notPending hstate nofun nofun) fun c hc => by cases hc; rfl

theorem replyDiscard_orders (sl : Nat) (s : State) : (replyDiscard sl s).Ensures (KeepsOrders s) :=
  ensures_named fun k => ensures_standing fun c hc hb => ensures_require fun _ => by
    have hb : c.state = .building := beq_iff_eq.mp hb
    have hstate : slotState s k = some .building := (slotState_of_some hc).trans (congrArg some hb)
    refine KeepsOrders.trans ⟨(discard_keeps hc hb).run, fun hrun ho => ?_⟩ (notifyJob_calm ..).keeps
    exact ho.setSlot (hrun.notPending hstate nofun nofun) nofun

theorem replyCloseBuild_orders (sl : Nat) (s : State) : (replyCloseBuild sl s).Ensures (KeepsOrders s) :=
  ensures_named fun k => ensures_standing fun c hc hb => ensures_consistent <| by
    have hb : c.state = .building := beq_iff_eq.mp hb
    have hstate : slotState s k = some .building := (slotState_of_some hc).trans (congrArg some hb)
    refine KeepsOrders.trans ⟨(enter_keeps hc (.inl hb) (.inr rfl) fun hr => by rw [hb] at hr; cases hr).run,
      fun hrun ho => ?_⟩ (notifyJob_calm ..).keeps
    exact ho.enter hc (hrun.notPending hstate nofun nofun) nofun nofun

theorem replyReopen_orders (sl : Nat) (s : State) : (replyReopen sl s).Ensures (KeepsOrders s) :=
  ensures_named fun _ => ensures_standing fun _ hc hr => ensures_require fun hn => ensures_require fun _ =>
  KeepsOrders.trans ⟨(enter_keeps hc (.inr (beq_iff_eq.mp hr)) (.inl rfl) fun _ => by simpa using hn).run, fun _ ho =>
    ho.enter hc (isPendingSlot_eq_false.mp (by simpa using hn)) nofun nofun⟩ (notifyJob_calm ..).keeps

theorem parkContext_orders {s : State} (ho : OrdersSound s) {k : SlotId} {c : Context} (hc : s.slots[k] = some c)
    (hn : NotPending k s) : OrdersSound (parkContext k s) := by
  have hpark : parkContext k s = contextRecord { activated := none, slot := k, job := c.job, stamp := s.wpu.cycle }
      (modifyContext k (Context.enter .parked) s) := by simp only [parkContext, hc]
  have hrecord : ∀ d u, Calm u (contextRecord d u) := fun d u => .of_eq
  have hentered := ho.enter hc hn (j := .parked) nofun nofun
  obtain ⟨hfit, horder⟩ := (ordersSound_iff _).mp hentered
  rw [hpark]
  exact (ordersSound_iff _).mpr ⟨hfit.of_calm (hrecord ..), horder.of_fewer (hrecord ..).fewer⟩

/-- The suspend flag of the ACTIVE context changes no head's place (R170). -/
theorem flagContext_orders {s : State} (ho : OrdersSound s) (k : SlotId) :
    OrdersSound (modifyContext k (fun c => { c with suspend := true }) s) := by
  have hstate : ∀ j, slotState (modifyContext k (fun c => { c with suspend := true }) s) j = slotState s j := fun j => by
    by_cases hj : j = k
    · subst hj; simp [slotState, Function.comp_def]
    · simp only [slotState, Fin.getElem_fin, modifyContext_other k _ s j hj]
  refine ho.congr .of_eq rfl fun j i he hm => ⟨?_, ?_⟩
  · rw [Engaged, hstate] at he; exact he
  · exact (manned_congr (modifyContext_staff (f := fun c => { c with suspend := true }) (fun _ => rfl) s) j i).mp hm

theorem replySuspend_orders (sl : Nat) (s : State) : (replySuspend sl s).Ensures (KeepsOrders s) :=
  ensures_named fun k => ensures_standing fun c hc ha => ensures_require fun hother => by
    have ha : c.state = .active := beq_iff_eq.mp ha
    have hstate : slotState s k = some .active := (slotState_of_some hc).trans (congrArg some ha)
    refine .ite (fun hempty => ?_) fun hsets => ?_
    · refine KeepsOrders.trans ⟨(park_keeps hc ha hempty).run, fun hrun ho => ?_⟩ (notifyJob_calm ..).keeps
      exact parkContext_orders ho hc (hrun.notPending hstate nofun nofun)
    · exact ⟨(flag_keeps hc ha hsets (by simpa [hsets] using hother)).run, fun _ ho => flagContext_orders ho k⟩

/-- The checks against the press put every head of the context within the lags before its activation is pending (R166). -/
theorem makePending_orders {s : State} (ho : OrdersSound s) {k : SlotId} {c : Context} (hc : s.slots[k] = some c)
    (hpress : pressFailure s c = none) (x : Cycle) : OrdersSound (makePending k c x s) := by
  obtain ⟨hfit, horder⟩ := (ordersSound_iff s).mp ho
  have hslots : (makePending k c x s).slots = s.slots := by simp [makePending, reserveContext]
  have hhou : (makePending k c x s).hou = s.hou := by simp [makePending, reserveContext]
  have hst : (makePending k c x s).st = s.st := by simp [makePending, reserveContext]
  have hwpu : (makePending k c x s).wpu = s.wpu := by simp [makePending, reserveContext]
  have hstate : ∀ j, slotState (makePending k c x s) j = slotState s j := fun j => by simp only [slotState, hslots]
  refine (ordersSound_iff _).mpr ⟨⟨by rw [hhou]; exact hfit.placed, fun j i he hm => ?_⟩,
    horder.of_fewer (.of_eq hhou (by rw [hwpu]) (by rw [hst]) (by rw [hst]))⟩
  rw [manned_congr (staff_congr hslots)] at hm
  rw [hhou, hst]
  rw [Engaged, hstate] at he
  rcases he with he | he | he
  · exact hfit.fitted j i (.inl he) hm
  · exact hfit.fitted j i (.inr (.inl he)) hm
  · have hj : k = j := by
      by_contra hne
      exact he fun a ha e => by cases ha; exact hne e
    subst hj
    obtain ⟨d, hd, ha⟩ := manned_iff.mp hm
    obtain rfl := Option.some.inj (hc.symm.trans hd)
    obtain ⟨a, ha⟩ := Option.isSome_iff_exists.mp ha
    obtain ⟨-, p, -, hp, -, hmerge, hlag⟩ := (pressFailure_eq_none.mp hpress).2.1 i a ha
    exact ⟨p, hp, hmerge, hlag⟩

theorem replyActivate_orders (sl : Nat) (e : Option Nat) (s : State) : (replyActivate sl e s).Ensures (KeepsOrders s) :=
  ensures_named fun k => ensures_effectiveCycle fun x => ensures_standing fun c hc hidle => ensures_require fun _ =>
  ensures_require fun hfree => ensures_passed fun hpress => ensures_journalRoom fun hroom => by
    obtain ⟨hdrain, hnone⟩ := Bool.and_eq_true_iff.mp hfree
    obtain ⟨⟨hlags, -⟩, -⟩ := pressFailure_eq_none.mp hpress
    exact ⟨(makePending_keeps hc hidle hdrain (Option.isNone_iff_eq_none.mp hnone) hlags hroom x).run,
      fun _ ho => makePending_orders ho hc hpress x⟩

theorem replyCancelActivation_orders (s : State) : (replyCancelActivation s).Ensures (KeepsOrders s) := by
  unfold replyCancelActivation
  split
  · trivial
  · next a ha =>
    have hslots : (withdrawActivation a s).slots = s.slots := by simp [withdrawActivation, returnContext]
    have hact : (withdrawActivation a s).activation = none := by simp [withdrawActivation, returnContext]
    have hhou : (withdrawActivation a s).hou = s.hou := by simp [withdrawActivation, returnContext]
    have hst : (withdrawActivation a s).st = s.st := by simp [withdrawActivation, returnContext]
    have hwpu : (withdrawActivation a s).wpu = s.wpu := by simp [withdrawActivation, returnContext]
    have hstate : ∀ j, slotState (withdrawActivation a s) j = slotState s j := fun j => by simp only [slotState, hslots]
    refine ⟨(withdrawActivation_keeps ha).run, fun _ ho => ho.congr
      (.of_eq hhou (by rw [hwpu]) (by rw [hst]) (by rw [hst])) (by rw [hst]) fun j i he hm => ⟨?_, ?_⟩⟩
    · rw [Engaged, hstate] at he
      refine he.imp_right (Or.imp_right fun h => absurd (fun b hb => ?_) h)
      rw [hact] at hb; cases hb
    · rwa [manned_congr (staff_congr hslots)] at hm

theorem endQueues_calm (k : SlotId) (job : Nat) (s : State) : Calm s (endQueues k job s) :=
  .foldl (fun _ _ => .foldl (fun _ _ => (modifySequence_calm ..).trans (journalUnreserved_calm ..)) _ _) _ s

/-- A slot without a pending activation is emptied after a change that brings no new order. -/
theorem Calm.emptied {s w : State} (h : Calm s w) (hrun : RunSound s) (ho : OrdersSound s) {k : SlotId}
    (hn : NotPending k s) (before : Option JobState) :
    OrdersSound (notifyJob k none before none (setSlot k none w)) := by
  have hnot : NotPending k w := by rw [NotPending, h.activation]; exact hn
  have hempty : OrdersSound (setSlot k none w) := (h.keeps.orders hrun ho).setSlot hnot nofun
  exact hempty.congr (notifyJob_calm ..).fewer rfl fun _ _ he hm => ⟨he, hm⟩

theorem endJob_orders {s : State} (hrun : RunSound s) (ho : OrdersSound s) {k : SlotId} (hn : NotPending k s) (c : Context) :
    OrdersSound (endJob k c s) := by
  unfold endJob
  exact ((endQueues_calm k c.job s).trans (journalUnreserved_calm ..)).emptied hrun ho hn (some c.state)

theorem replyEndJob_orders (sl : Nat) (s : State) : (replyEndJob sl s).Ensures (KeepsOrders s) :=
  ensures_named fun _ => ensures_standing fun c hc hidle => ensures_require fun hn => ensures_require fun _ =>
  ensures_journalRoom fun hroom => by
    have hn := by simpa using hn
    exact ⟨(endJob_keeps hc hidle hn hroom).run, fun hrun ho => endJob_orders hrun ho (isPendingSlot_eq_false.mp hn) c⟩

/-! ## The requests on the press geometry -/

theorem ensures_placed_inRange {P : State → Prop} {r : Option RawPlacement} {f : Option Placement → Reply}
    (h : ∀ o : Option Placement, (∀ p, o = some p → 1 ≤ p.lag ∧ p.lag ≤ 60) → (f o).Ensures P) : (placed r f).Ensures P := by
  unfold placed
  split
  · exact h _ nofun
  · exact ensures_require fun _ => ensures_namedLane fun _ => ensures_require fun hlag => h _ fun p hp => by
      cases hp
      simpa using hlag

theorem replyPlaceHead_orders (hd : Nat) (r : Option RawPlacement) (s : State) :
    (replyPlaceHead hd r s).Ensures (KeepsOrders s) :=
  ensures_named fun h => ensures_placed_inRange fun o hrange => ensures_geometryFree fun hidle => by
    refine ⟨(modifyHead_aside ..).keeps.run, fun hrun ho => ho.geometry hrun hidle (fun i p hp => ?_) fun i => ?_⟩
    · by_cases hi : i = h
      · subst hi
        exact hrange p (by simpa [modifyHead] using hp)
      · exact ho.placed i p (by simpa [modifyHead, updateAt_get_ne _ _ _ _ (Ne.symm hi)] using hp)
    · simp only [modifyHead, updateAt_getElem]
      split <;> rfl

theorem replySetLags_orders (m q g : Nat) (s : State) : (replySetLags m q g s).Ensures (KeepsOrders s) :=
  ensures_require fun hrange => ensures_geometryFree fun hidle => ensures_require fun hlags => ensures_require fun _ => by
    obtain ⟨hmq, hg⟩ := Bool.and_eq_true_iff.mp hrange
    simp only [Bool.and_eq_true, decide_eq_true_eq] at hlags
    exact ⟨(setLags_keeps (Bool.and_eq_true_iff.mp hmq).1 hg hidle hlags.1 hlags.2).run,
      fun hrun ho => ho.geometry hrun hidle ho.placed fun _ => rfl⟩

/-! ## Every step -/

theorem deviceReset_orders {levels : BitVec 24} {s t : State} (h : exec (.deviceReset levels) s = .next t) :
    KeepsOrders s t where
  run := (exec_keeps h).run
  orders _ _ := by cases h; exact reset_ordersSound.congr (.of_eq rfl rfl rfl rfl) rfl fun _ _ he hm => ⟨he, hm⟩

theorem execGarbledFrame_calm {p : PortId} {s t : State} (h : execGarbledFrame p s = .next t) : Calm s t := by
  obtain ⟨hwaits, htaken⟩ := takeFrame_ensures (P := Calm s) (fun p f _ hu => hu.trans (modifyPort_calm p f _)) (p := p)
    (f := .garbled) (.refl s)
  cases h
  split
  · next u hu => exact hwaits u hu
  · next u hu => exact (htaken u hu).trans (modifyPort_calm ..)

theorem execUnknownRequestCode_calm {p : PortId} {body : List Byte} {s t : State}
    (h : execUnknownRequestCode p body s = .next t) : Calm s t := by
  cases h
  exact .ite (fun _ => .refl s) fun _ =>
    onFrame_ensures (P := Calm s) (fun p f _ hu => hu.trans (modifyPort_calm p f _))
      (fun _ hu => hu.trans (modifyPort_calm ..)) (.refl s)

/-- Every command keeps the orders in order. -/
theorem exec_orders {c : Instr} {s t : State} (h : exec c s = .next t) : KeepsOrders s t := by
  cases c with
  | deviceReset levels => exact deviceReset_orders h
  | encoderTransition a b =>
    cases h
    exact ((showDriven_calm .encA a s).trans (showDriven_calm .encB b _)).keeps.trans (watchEncoder_orders _)
  | indexEdge =>
    cases h
    exact .ite (fun _ => (showDriven_calm .index true s).keeps.trans (takeIndex_orders _)) fun _ => .refl s
  | markEdge channel =>
    cases h
    exact .ite (fun _ => ((showDriven_calm (.mark channel) true s).trans (markEdge_calm ..)).keeps) fun _ => .refl s
  | orderDeadline head => cases h; exact (expireHead_calm head s).keeps
  | orderSend => cases h; exact (sendOrder_calm s).keeps
  | orderFrameEnd => cases h; exact (endOrder_calm s).keeps
  | completion head tag result => cases h; exact (takeCompletion_calm ..).keeps
  | stateMessage head report => cases h; exact (takeStateMessage_calm ..).keeps
  | headFrameDiscard => cases h; exact (receiver_calm .hunting s).keeps
  | headLinkGapTimeout | headLinkBadStopBit =>
    cases h; exact .ite (fun _ => (receiver_calm .hunting s).keeps) fun _ => .refl s
  | headLinkByteReceived byte =>
    cases h
    split
    · exact (receiver_calm _ s).keeps
    · exact ((receiver_calm .hunting s).trans (takeHeadFrame_calm _ (headLinkHunting s))).keeps
  | probeDraw =>
    cases h
    split
    · exact .ite (fun _ => (stepProbe_calm ..).keeps) fun _ => .refl s
    · exact .refl s
    · exact .refl s
  | skipDraw => exact execSkipDraw_orders h
  | skipResume => cases h; exact (resumeSkip_calm s).keeps
  | portFrameReceived port frame => cases h; exact (modifyPort_calm ..).keeps
  | portByteReceived port byte => cases h; split <;> exact (modifyPort_calm ..).keeps
  | frameGapTimeout port | badStopBit port =>
    cases h; exact .ite (fun _ => (modifyPort_calm ..).keeps) fun _ => .refl s
  | portReset port => cases h; exact (modifyPort_calm ..).keeps
  | garbledFrame port => exact (execGarbledFrame_calm h).keeps
  | unknownRequestCode port body => exact (execUnknownRequestCode_calm h).keeps
  | frameSendStart port => cases h; exact (modifyPort_calm ..).keeps
  | frameSendEnd port => cases h; exact (modifyPort_calm ..).keeps
  | edgeAgeTick => cases h; exact (modifyWpu_calm (by rfl)).keeps
  | fieldLineLevelChange line level =>
    cases h
    let u : State := { s with lm := { s.lm with lines := updateAt s.lm.lines line fun l => { l with level := level } } }
    have hshown : Calm s u := .of_eq rfl rfl rfl rfl rfl
    exact .ite (fun _ => .refl s) fun _ => hshown.keeps.trans (hearLine_orders _ _ u)
  | defineSequence p sl sq d f l st po sc =>
    exact request_orders h fun _ => ensures_named fun _ => ensures_named fun _ => ensures_require fun _ =>
      ensures_require fun _ => ensures_coded fun _ => ensures_coded fun _ => ensures_inState fun _ _ =>
      ensures_require fun _ => (Calm.of_context (by exact fun _ => rfl) (by exact fun _ => rfl)).keeps
  | loadValue p sl sq v => exact request_orders h fun u => (replyLoadValue_calm sl sq v u).mono fun _ => Calm.keeps
  | addExclusion p sl sq a b => exact request_orders h fun u => (replyAddExclusion_calm sl sq a b u).mono fun _ => Calm.keeps
  | removeExclusion p sl sq a =>
    exact request_orders h fun _ => ensures_named fun _ => ensures_named fun _ => ensures_require fun _ =>
      ensures_inState fun _ _ => ensures_defined fun _ _ => ensures_require fun _ =>
      ((Calm.of_context (by exact fun _ => rfl) (by exact fun _ => rfl)).trans (makeStale_calm ..)).keeps
  | withdrawReprint p sl sq v =>
    exact request_orders h fun u => (replyWithin_calm (c := .withdrawReprint p sl sq v) rfl u).mono fun _ => Calm.keeps
  | defineEntry p sl e la mo so rf =>
    exact request_orders h fun _ => ensures_named fun _ => ensures_named fun _ => ensures_namedLane fun _ =>
      ensures_entryMode fun _ => ensures_inState fun _ _ => ensures_require fun _ =>
      (Calm.of_context (by exact fun _ => rfl) (by exact fun _ => rfl)).keeps
  | trimList p sl n => exact request_orders h fun _ => ensures_named fun _ => ensures_require fun _ => building_orders
  | assignHead p sl hd a =>
    exact request_orders h fun _ => ensures_named fun _ => ensures_named fun _ => ensures_assigned fun _ => building_orders
  | defineFormat p sl f items =>
    exact request_orders h fun _ => ensures_named fun _ => ensures_named fun _ => ensures_require fun _ =>
      ensures_coded fun _ => building_orders
  | defineMarks p sl ch en ps tol =>
    exact request_orders h fun _ => ensures_named fun _ => ensures_namedChannel fun _ => ensures_flag fun _ =>
      ensures_channelMarks fun _ => building_orders
  | setMarkWindow p sl m c => exact request_orders h fun _ => ensures_named fun _ => ensures_require fun _ => building_orders
  | setInspection p sl la e =>
    exact request_orders h fun _ => ensures_named fun _ => ensures_namedLane fun _ => ensures_entryOrNone fun _ =>
      building_orders
  | openContext p sl job lanes po li => exact request_orders h (replyOpenContext_orders sl job lanes po li)
  | discard p sl => exact request_orders h (replyDiscard_orders sl)
  | closeBuild p sl => exact request_orders h (replyCloseBuild_orders sl)
  | reopen p sl => exact request_orders h (replyReopen_orders sl)
  | activate p sl e => exact request_orders h (replyActivate_orders sl e)
  | cancelActivation p => exact request_orders h replyCancelActivation_orders
  | suspend p sl => exact request_orders h (replySuspend_orders sl)
  | flush p sl => exact request_orders h fun u => (replyFlush_calm sl u).mono fun _ => Calm.keeps
  | endJob p sl => exact request_orders h (replyEndJob_orders sl)
  | probeSequence p sl sq n =>
    exact request_orders h fun _ => ensures_named fun _ => ensures_named fun _ => ensures_require fun _ =>
      ensures_inState fun _ _ => ensures_require fun _ => ensures_defined fun _ _ => (background_calm ..).keeps
  | skipAhead p sl sq n =>
    exact request_orders h fun _ => ensures_named fun _ => ensures_named fun _ => ensures_require fun _ =>
      ensures_inState fun _ _ => ensures_require fun _ => ensures_require fun _ => ensures_defined fun _ _ =>
      (background_calm ..).keeps
  | cancelBackground p => exact request_orders h fun u => (replyCancelBackground_calm u).mono fun _ => Calm.keeps
  | setWeb p r tol =>
    exact request_orders h fun _ => ensures_require fun _ => ensures_require fun _ => (countPosition_calm (by rfl)).keeps
  | setLags p m q g => exact request_orders h (replySetLags_orders m q g)
  | openRun p | closeRun p =>
    exact request_orders h fun _ => Calm.keeps ⟨rfl, rfl, .of_eq rfl rfl rfl rfl⟩
  | placeHead p hd pl => exact request_orders h (replyPlaceHead_orders hd pl)
  | setRegStop p n =>
    exact request_orders h fun _ => ensures_require fun _ => ensures_require fun _ =>
      Calm.keeps (.of_eq rfl rfl rfl rfl rfl)
  | setGate p n =>
    exact request_orders h fun _ => ensures_require fun _ => ensures_require fun _ =>
      Calm.keeps ⟨rfl, rfl, .of_eq rfl rfl rfl rfl⟩
  | reportRead p la ds c =>
    exact request_orders h fun _ => ensures_namedLane fun _ => ensures_require fun _ => ensures_reportedCheck fun _ =>
      ensures_inWindow fun _ _ => (modifySet_calm (by exact fun _ => rfl) (by exact fun _ _ => id) _).keeps
  | reportDefect p la d =>
    exact request_orders h fun _ => ensures_namedLane fun _ => ensures_require fun _ => ensures_inWindow fun _ _ =>
      ((modifySet_calm (by exact fun _ => rfl) (by exact fun _ _ => id) _).trans (notify_calm ..)).keeps
  | rejectSets p t c m =>
    exact request_orders h fun _ => ensures_require fun _ => ensures_require fun _ =>
      (modifySets_calm (by exact fun _ => rfl) (by exact fun _ _ => id) _).keeps
  | releaseJournal p i => exact request_orders h fun _ => (releaseRecords_calm ..).keeps
  | assignLine p li f u =>
    exact request_orders h fun _ => ensures_named fun _ => ensures_coded fun _ => ensures_flag fun _ => ensures_require fun _ =>
      ensures_require fun _ => Calm.keeps (.of_eq rfl rfl rfl rfl rfl)
  | writeLines p m l => exact request_orders h fun _ => Calm.keeps (.of_eq rfl rfl rfl rfl rfl)
  | setStop p => exact request_orders h fun _ => (latchStop_calm ..).keeps
  | clearStop p c => exact request_orders h fun u => (replyClearStop_calm c u).mono fun _ => Calm.keeps
  | setRole p n r =>
    exact request_orders h fun _ => ensures_named fun _ => ensures_grantable fun _ => ensures_require fun _ =>
      ensures_require fun _ => (modifyPort_calm ..).keeps
  | setNotices p c => exact request_orders h fun _ => ensures_require fun _ => (modifyPort_calm ..).keeps
  | readStatus p | readLines p | readBackground p => exact request_orders h .refl
  | readRegistration p pg => exact request_orders h .refl
  | readHead p hd => exact request_orders h fun u => ensures_named fun _ => .refl u
  | readSet p tag pg => exact request_orders h fun u => (replyReadSet_calm tag (pg.getD 0) u).mono fun _ => Calm.keeps
  | readSequence p sl sq pg =>
    exact request_orders h fun u => (replyWithin_calm (c := .readSequence p sl sq pg) rfl u).mono fun _ => Calm.keeps
  | readQueue p sl sq pg =>
    exact request_orders h fun u => (replyWithin_calm (c := .readQueue p sl sq pg) rfl u).mono fun _ => Calm.keeps
  | readContext p sl part f =>
    exact request_orders h fun u => (replyWithin_calm (c := .readContext p sl part f) rfl u).mono fun _ => Calm.keeps
  | readJournal p i n =>
    exact request_orders h fun u => (replyWithin_calm (c := .readJournal p i n) rfl u).mono fun _ => Calm.keeps

theorem step_orders {s t : State} (h : step s = .next t) : KeepsOrders s t := by
  unfold step at h
  split at h
  · cases h; exact .refl s
  · next rest _ =>
    have htaken : Calm s { s with pending := rest } := .of_eq
    exact htaken.keeps.trans (exec_orders h)

/-! ## So the orders are few -/

/-- A head's outstanding orders have different ages, and only two are allowed (R82, R83). -/
theorem OrdersSound.queue_le {s : State} (ho : OrdersSound s) (h : HeadId) : s.hou.heads[h].queue.length ≤ 2 := by
  have g := ((ordersSound_iff s).mp ho).2
  cases hp : s.hou.heads[(h : Nat)].placement with
  | none =>
    have hnil : s.hou.heads[(h : Nat)].queue = [] := List.eq_nil_iff_forall_not_mem.mpr fun o hmem => by
      obtain ⟨p, hp', -⟩ := g.outstanding h o hmem
      rw [hp] at hp'; cases hp'
    simp [hnil]
  | some p =>
    have hages : (s.hou.heads[(h : Nat)].queue.map fun o => tagAge s o.tag) ⊆ [p.lag - 1, p.lag] := fun a ha => by
      obtain ⟨o, hmem, rfl⟩ := List.mem_map.mp ha
      obtain ⟨q, hq, -, -, hage⟩ := g.outstanding h o hmem
      obtain rfl := Option.some.inj (hp.symm.trans hq)
      simp only [List.mem_cons, List.not_mem_nil, or_false]
      omega
    have hnodup : (s.hou.heads[(h : Nat)].queue.map fun o => tagAge s o.tag).Nodup :=
      (g.issued h).imp fun hlt => Nat.ne_of_gt hlt
    simpa using (hnodup.subperm hages).length_le

/-- The boundary and the head of a waiting order: two boundaries of 24 heads each. -/
def WaitingOrder.place (s : State) (w : WaitingOrder) : Nat × HeadId := (tagAge s w.boundary, w.head)

/-- At most one order waits for each head and each of two boundaries (R85, R86). -/
theorem OrdersSound.transmit_le {s : State} (ho : OrdersSound s) : s.hou.transmit.length ≤ 48 := by
  obtain ⟨hfit, g⟩ := (ordersSound_iff s).mp ho
  have hplaces : s.hou.transmit.map (WaitingOrder.place s) ⊆ List.range 2 ×ˢ List.finRange 24 := fun x hx => by
    obtain ⟨w, hw, rfl⟩ := List.mem_map.mp hx
    have hage := g.boundary_le hfit hw
    exact List.pair_mem_product.mpr ⟨List.mem_range.mpr (by omega), List.mem_finRange _⟩
  have hnodup : (s.hou.transmit.map (WaitingOrder.place s)).Nodup := by
    refine List.pairwise_map.mpr (g.sending.imp fun {a b} hab e => ?_)
    obtain ⟨hage, hhead⟩ := Prod.mk.inj e
    rcases hab with hlt | ⟨-, hlt⟩
    · omega
    · exact absurd hhead (ne_of_lt hlt)
  have hcount : (List.range 2 ×ˢ List.finRange 24).length = 48 := by rw [List.length_product]; rfl
  calc s.hou.transmit.length = (s.hou.transmit.map (WaitingOrder.place s)).length := (List.length_map _).symm
    _ ≤ (List.range 2 ×ˢ List.finRange 24).length := (hnodup.subperm hplaces).length_le
    _ = 48 := hcount

/-- Settles O58: every command keeps the orders in order, a boundary by the turn that each head takes in it; and the windows
that an order's age and a waiting order's boundary have leave room for so many. -/
theorem ordersStayInOrder : Obligations.OrdersStayInOrder :=
  ⟨fun _ _ h => (step_orders h).orders, fun _ ho => ⟨ho.queue_le, ho.transmit_le⟩⟩

end Sys2Proof.Machine
end

section
/-! PROOFS. The registration: the judgement of a channel, and what closes and arms a measurement. -/

namespace Sys2Proof.Machine

/-! ## The judgement of a channel -/

/-- A folded error lies in -4 RL .. 4 RL - 1 (R103). -/
theorem foldError_mem_range {rl : Nat} (h : 0 < rl) (e : Int) :
    -(4 * (rl : Int)) ≤ foldError rl e ∧ foldError rl e < 4 * rl := by
  have hlow := Int.emod_nonneg (e + 4 * rl) (b := 8 * rl) (by omega)
  have hhigh := Int.emod_lt_of_pos (e + 4 * rl) (b := 8 * rl) (by omega)
  unfold foldError
  omega

/-- Folding changes an error by a multiple of 8 RL (R103). -/
theorem foldError_modEq (rl : Nat) (e : Int) : foldError rl e ≡ e [ZMOD 8 * rl] := by
  have h := (Int.mod_modEq (e + 4 * rl) (8 * rl)).sub_right (4 * rl)
  rwa [add_sub_cancel_right] at h

/-- Each error comes from the hit and the position of its place (R103). -/
theorem pairErrors_getElem?_eq_some {rl : Nat} {hits : List Hit} {positions : List Nat} {i : Nat} {e : PairError} :
    (pairErrors rl hits positions)[i]? = some e ↔ ∃ (h : Hit) (expected : Nat), hits[i]? = some h ∧
      positions[i]? = some expected ∧ e = { error := foldError rl ((h.place : Int) - expected), coarse := h.coarse } := by
  simp only [pairErrors, List.getElem?_zipWith_eq_some, eq_comm (a := e)]

section
variable {rl : Nat} {m : ChannelMarks} {hits : List Hit} {dropped : Bool}

theorem judgeChannel_errors :
    (judgeChannel rl (some m) hits dropped).errors = pairErrors rl hits m.positions := rfl

theorem judgeChannel_missing (h : hits.length < m.positions.length) :
    (judgeChannel rl (some m) hits dropped).status = .missing :=
  if_pos h

theorem judgeChannel_extra (h : m.positions.length ≤ hits.length) (hx : dropped = true ∨ m.positions.length < hits.length) :
    (judgeChannel rl (some m) hits dropped).status = .extra := by
  have hextra : (dropped || decide (m.positions.length < hits.length)) = true := by simpa using hx
  simp [judgeChannel, Nat.not_lt.mpr h, hextra]

/-- With a hit for each position and none dropped the errors decide (R104). -/
theorem judgeChannel_status_of_paired (h : m.positions.length = hits.length) (hd : dropped = false) :
    (judgeChannel rl (some m) hits dropped).status =
      if ∃ e ∈ pairErrors rl hits m.positions, (m.tolerance : Int) < |e.error| then .outOfTolerance else .ok := by
  simp [judgeChannel, h, hd]

end

/-- Settles O12: the status by the counts first, then by the errors; an error by folding. -/
theorem channelJudgement : Obligations.ChannelJudgement := by
  refine ⟨fun _ _ _ => rfl, fun rl m hits dropped hrl => ?_⟩
  intro c
  refine ⟨rfl, ?_, fun i e he => ?_, judgeChannel_missing, judgeChannel_extra,
    fun hpaired hd => ⟨fun hout => ?_, fun hin => ?_⟩⟩
  · simp only [c, judgeChannel_errors, pairErrors, List.length_zipWith]
  · obtain ⟨h, expected, hh, hexpected, rfl⟩ := pairErrors_getElem?_eq_some.mp he
    obtain ⟨hlow, hhigh⟩ := foldError_mem_range hrl ((h.place : Int) - expected)
    exact ⟨h, expected, hh, hexpected, rfl, hlow, hhigh, Int.emod_eq_emod_iff_emod_sub_eq_zero.mp (foldError_modEq ..)⟩
  · exact (judgeChannel_status_of_paired hpaired hd).trans (if_pos hout)
  · exact (judgeChannel_status_of_paired hpaired hd).trans
      (if_neg fun ⟨e, he, hlarge⟩ => Int.not_lt.mpr (hin e he) hlarge)

/-! ## A close -/

/-- A test holds of some item of a table when it holds at some index. -/
theorem any_toList_iff {α : Type} {n : Nat} {v : Vector α n} {p : α → Bool} :
    v.toList.any p = true ↔ ∃ k : Fin n, p v[k] = true := by
  simp only [List.any_eq_true, Vector.mem_toList_iff, Vector.mem_iff_getElem]
  exact ⟨fun ⟨_, ⟨i, hi, rfl⟩, hp⟩ => ⟨⟨i, hi⟩, hp⟩, fun ⟨k, hp⟩ => ⟨_, ⟨k, k.isLt, rfl⟩, hp⟩⟩

/-- A close is faulty when an enabled channel is not OK (R104). -/
theorem any_isFaulty (v : Vector ChannelResult 6) : v.toList.any ChannelResult.isFaulty =
    decide (∃ k : ChannelId, v[k].status ≠ .ok ∧ v[k].status ≠ .notEnabled) := by
  rw [Bool.eq_iff_iff, decide_eq_true_iff, any_toList_iff]
  simp only [ChannelResult.isFaulty, Bool.and_eq_true, bne_iff_ne]

/-- The record of a close, with its verdict in words (R104, R105). -/
theorem closeRecord_eq (cause : CloseCause) (rl : Nat) (a : Armed) (m : Mtu) :
    closeRecord cause rl a m =
      (let results := judgeAll rl a m
       let faulty := decide (∃ k : ChannelId, results[k].status ≠ .ok ∧ results[k].status ≠ .notEnabled)
       { cycle := m.cycle, judged := m.judged, slot := a.slot, cause := cause, channels := results, faulty := faulty,
         counterAfter := if faulty then min 255 (m.faults + 1) else 0 }) := by
  simp only [closeRecord, any_isFaulty]

/-- The verdict goes to the set that bears the judged tag (R107). -/
theorem passVerdict_st (record : RegRecord) (s : State) :
    (passVerdict record s).st = { s.st with
      ring := s.st.ring.map fun r => if record.judged = some r.tag then r.verdict record.faulty else r } := by
  unfold passVerdict
  cases record.judged with
  | none => simp
  | some t => simp [modifySet, eq_comm]

@[simp] theorem passVerdict_wpu (record : RegRecord) (s : State) : (passVerdict record s).wpu = s.wpu := by
  unfold passVerdict; split <;> rfl
@[simp] theorem passVerdict_lm (record : RegRecord) (s : State) : (passVerdict record s).lm = s.lm := by
  unfold passVerdict; split <;> rfl
@[simp] theorem passVerdict_ports (record : RegRecord) (s : State) : (passVerdict record s).ports = s.ports := by
  unfold passVerdict; split <;> rfl

theorem reportFault_of_not_faulty {record : RegRecord} (h : record.faulty = false) (n : Nat) (s : State) :
    reportFault record n s = s := by
  simp [reportFault, h]

/-- REG_RUN is latched by a faulty close whose counter has reached K, K above 0 (R109). -/
theorem reportFault_stops (record : RegRecord) (n : Nat) (s : State) : (reportFault record n s).lm.stops =
    if record.faulty = true ∧ 1 ≤ n ∧ n ≤ record.counterAfter then s.lm.stops ||| 4 else s.lm.stops := by
  cases hf : record.faulty with
  | false => simp [reportFault_of_not_faulty hf]
  | true =>
    by_cases hn : 0 < n ∧ n ≤ record.counterAfter
    · have hbit : ∀ set : StopSet, withCause set .regRun = set ||| 4 := fun _ => rfl
      simp [reportFault, hf, hn, Nat.one_le_iff_ne_zero, Nat.pos_iff_ne_zero.mp hn.1, latchStop_stops, hbit]
    · simp [reportFault, hf, hn, Nat.one_le_iff_ne_zero, ← Nat.pos_iff_ne_zero]

/-- A port that is not subscribed to a category takes none of its notices (R195). -/
theorem Port.offer_not_subscribed {category : Nat} {q : Port} (h : q.subscription.getLsbD category = false)
    (body : List Byte) : q.offer category body = q :=
  if_neg (by rw [h]; exact Bool.false_ne_true)

/-- A port that does not hear JOBS hears nothing of a latched cause (R182, R195). -/
theorem latchStop_port {s : State} {p : PortId} (h : s.ports[(p : Nat)].subscription.getLsbD 5 = false) (c : StopCause) :
    (latchStop c s).ports[(p : Nat)] = s.ports[(p : Nat)] := by
  have hdeaf (body : List Byte) :
      s.ports[(p : Nat)].offer NoticeKind.stopState.category body = s.ports[(p : Nat)] :=
    Port.offer_not_subscribed h body
  unfold latchStop changeStops
  split
  · rfl
  · simp only [notify_port]
    split <;> exact hdeaf _

/-- A port that hears REGISTRATION and not JOBS queues REG_FAULT, and nothing else (R108). -/
theorem reportFault_port {record : RegRecord} {s : State} {p : PortId} (hf : record.faulty = true)
    (hsub : s.ports[(p : Nat)].subscription.getLsbD 2 = true) (hjobs : s.ports[(p : Nat)].subscription.getLsbD 5 = false)
    (hroom : s.ports[(p : Nat)].noticeCount < 8) (n : Nat) :
    (reportFault record n s).ports[(p : Nat)].out = s.ports[(p : Nat)].out ++
      [{ response := false, body := 0xE9 :: 0 :: wordBytes s.wpu.cycle ++ regFaultPayload record }] := by
  have hqueued : (notify .regFault (regFaultPayload record) s).ports[(p : Nat)] = { s.ports[(p : Nat)] with
      out := s.ports[(p : Nat)].out ++
        [{ response := false, body := 0xE9 :: 0 :: wordBytes s.wpu.cycle ++ regFaultPayload record }] } := by
    rw [notify_port]; exact Port.offer_queued hsub hroom
  simp only [reportFault, hf, if_true]
  split
  · rw [latchStop_port (by rw [hqueued]; exact hjobs), hqueued]
  · rw [hqueued]

section
variable {s : State} {a : Armed} {cause : CloseCause} {record : RegRecord} (h : s.mtu.armed = some a)
  (hr : closeRecord cause s.wpu.repeatLength a s.mtu = record)
include h hr

/-- A close leaves the measurement CLOSED, with its record and the counter after it (R101, R105, R109). -/
theorem closeMeasurement_mtu_of_armed : (closeMeasurement cause s).mtu =
    { s.mtu with state := .closed, last := some record, faults := record.counterAfter } := by
  simp only [closeMeasurement_mtu, Mtu.close, h, hr]

theorem closeMeasurement_st : (closeMeasurement cause s).st = { s.st with
    ring := s.st.ring.map fun r => if s.mtu.judged = some r.tag then r.verdict record.faulty else r } := by
  have hjudged : record.judged = s.mtu.judged := by rw [← hr, closeRecord_eq]
  simp only [closeMeasurement_armed h, hr, reportFault_st, passVerdict_st, hjudged]

theorem closeMeasurement_stops : (closeMeasurement cause s).lm.stops =
    if record.faulty = true ∧ 1 ≤ s.mtu.stopCount ∧ s.mtu.stopCount ≤ record.counterAfter then s.lm.stops ||| 4
    else s.lm.stops := by
  simp only [closeMeasurement_armed h, hr, reportFault_stops, passVerdict_lm]

/-- A close that is not faulty sends nothing and leaves the lines and the stop causes (R108, R109). -/
theorem closeMeasurement_quiet (hf : record.faulty = false) :
    (closeMeasurement cause s).ports = s.ports ∧ (closeMeasurement cause s).lm = s.lm := by
  simp only [closeMeasurement_armed h, hr, reportFault_of_not_faulty hf, passVerdict_ports, passVerdict_lm, and_self]

/-- A faulty close sends REG_FAULT to the ports that hear REGISTRATION (R108). -/
theorem closeMeasurement_port {p : PortId} (hf : record.faulty = true)
    (hsub : s.ports[(p : Nat)].subscription.getLsbD 2 = true) (hjobs : s.ports[(p : Nat)].subscription.getLsbD 5 = false)
    (hroom : s.ports[(p : Nat)].noticeCount < 8) :
    (closeMeasurement cause s).ports[(p : Nat)].out = s.ports[(p : Nat)].out ++
      [{ response := false, body := 0xE9 :: 0 :: wordBytes s.wpu.cycle ++ regFaultPayload record }] := by
  simp only [closeMeasurement_armed h, hr]
  rw [reportFault_port hf] <;> simp only [passVerdict_ports, passVerdict_wpu, hsub, hjobs, hroom]

end

/-! ## An open measurement -/

theorem MeasureState.isOpen_iff {m : MeasureState} : m.isOpen = true ↔ m = .masked ∨ m = .collecting := by
  cases m <;> decide

theorem MeasureState.isOpen_eq_false_iff {m : MeasureState} : m.isOpen = false ↔ m = .idle ∨ m = .closed := by
  cases m <;> decide

theorem followMeasurement_of_not_open {s : State} (h : s.mtu.state.isOpen = false) : followMeasurement s = s := by
  simp [followMeasurement, h]

/-- The state after the mask end has been looked at (R99). -/
theorem followMeasurement_open {s : State} {a : Armed} (h : s.mtu.state.isOpen = true) (ha : s.mtu.armed = some a) :
    followMeasurement s =
      (let moved : State := { s with mtu := { s.mtu with
        state := if a.settings.maskEnd ≤ s.wpu.position then .collecting else .masked } }
       if a.settings.closeAt < s.wpu.repeatLength ∧ a.settings.closeAt ≤ s.wpu.position then
        closeMeasurement .position moved
       else moved) := by
  simp only [followMeasurement, h, ha]

/-! ## Arming -/

theorem Armed.measures_iff {a : Armed} :
    a.measures = true ↔ ∃ k : ChannelId, a.settings.channels[k].isSome = true :=
  any_toList_iff

/-- The settings of a slot, as a measurement arms them (R98). -/
def slotSettings (s : State) (k : SlotId) : Option Armed := s.slots[k].map fun c => { slot := k, settings := c.marks }

theorem armedSettings_of_set {s : State} {r : SetRecord} (h : setAtAge s s.st.merge = some r) :
    armedSettings s = slotSettings s r.slot := by
  simp [armedSettings, armingSlot, slotSettings, h]

theorem armedSettings_of_active {s : State} {k : SlotId} (h : setAtAge s s.st.merge = none) (hk : activeSlot s = some k) :
    armedSettings s = slotSettings s k := by
  simp [armedSettings, armingSlot, slotSettings, h, hk]

theorem armedSettings_of_none {s : State} (h : setAtAge s s.st.merge = none) (hk : activeSlot s = none) :
    armedSettings s = none := by
  simp [armedSettings, armingSlot, h, hk]

/-- Settles O13: a close by its record, an open measurement by its position, a boundary by the settings that it arms. -/
theorem measurementClosesAndArms : Obligations.MeasurementClosesAndArms := by
  refine ⟨fun cause s a ha => ?_, fun s a ha hopen => ⟨fun hlow hreached => ?_, fun hnot => ?_⟩, fun s hs => ?_,
    fun s => ?_⟩
  · intro results faulty count record t
    have hrecord : closeRecord cause s.wpu.repeatLength a s.mtu = record := closeRecord_eq ..
    refine ⟨closeMeasurement_mtu_of_armed ha hrecord, closeMeasurement_st ha hrecord, closeMeasurement_stops ha hrecord,
      closeMeasurement_quiet ha hrecord, fun hf p hsub hjobs hroom => ?_, closeMeasurement_wpu .., closeMeasurement_slots ..,
      closeMeasurement_hou .., closeMeasurement_ij .., closeMeasurement_background .., closeMeasurement_activation ..,
      closeMeasurement_pending ..⟩
    refine (closeMeasurement_port ha hrecord hf hsub hjobs hroom).trans ?_
    cases hj : s.mtu.judged <;> cases cause <;>
      simp [regFaultPayload, wordBytes, optBytes, CloseCause.code, record, hj]
  · exact (followMeasurement_open (MeasureState.isOpen_iff.mpr hopen) ha).trans (if_pos ⟨hlow, hreached⟩)
  · exact (followMeasurement_open (MeasureState.isOpen_iff.mpr hopen) ha).trans (if_neg (by omega))
  · exact followMeasurement_of_not_open (MeasureState.isOpen_eq_false_iff.mpr hs)
  · intro u armed
    have hu : measureBoundary s = armMeasurement u := by
      simp only [measureBoundary, MeasureState.isOpen_iff, u]
    have harmed : armedSettings u = armed := by
      cases hset : setAtAge u u.st.merge with
      | some r => rw [armedSettings_of_set hset]; simp only [armed, hset]; rfl
      | none =>
        cases hk : activeSlot u with
        | some k => rw [armedSettings_of_active hset hk]; simp only [armed, hset, hk]; rfl
        | none => rw [armedSettings_of_none hset hk]; simp only [armed, hset, hk]
    rw [hu, armMeasurement, harmed]
    cases armed with
    | none => rfl
    | some a => simp only [armedState, Armed.measures_iff]

end Sys2Proof.Machine
end

section
/-! PROOFS. The requests that reach the sets of the ring: reads, defects, rejections by tag; SUSPEND and FLUSH. -/

namespace Sys2Proof.Machine

/-! ## The set whose window is open -/

/-- What a reason adds to a lane, by its bit (R110). -/
theorem LanePart.add_eq (why : Reason) (x : LanePart) :
    x.add why = { x with
      reasons := x.reasons ||| BitVec.ofNat 10 (2 ^ why.index),
      primary := if x.reasons = 0 then some why else x.primary } := by
  cases why <;> rfl

theorem inWindow_of_lane {s : State} {l : LaneId} {r : SetRecord} {x : LanePart} (hr : setAtAge s s.st.inspect = some r)
    (hx : r.lanes[(l : Nat)]? = some x) (k : SetRecord → LanePart → Reply) : inWindow s l k = k r x := by
  simp only [inWindow, hr, hx]

/-! ## REPORT_READ and REPORT_DEFECT -/

theorem reportedCheck_of_form {ch : Nat} {chk : Option Nat}
    (h : ch = 0 ∧ chk = none ∨ ∃ d, d ≤ 9 ∧ ch = 0x30 + d ∧ chk = some d) (k : Option Nat → Reply) :
    reportedCheck ch k = k chk := by
  rcases h with ⟨rfl, rfl⟩ | ⟨d, hd, rfl, rfl⟩
  · rfl
  · have hrange : 0x30 ≤ 0x30 + d ∧ 0x30 + d ≤ 0x39 := by omega
    rw [reportedCheck, if_neg (by omega), if_pos hrange, Nat.add_sub_cancel_left]

theorem readMatches_iff {m : Option Number} {value : Nat} {chk : Option Nat} :
    readMatches m value chk = true ↔ ∃ n, m = some n ∧ n.value = value ∧ n.check = chk := by
  cases m <;> simp [readMatches]

section
variable {s : State} {l : LaneId} {r : SetRecord} {part : LanePart} (hr : setAtAge s s.st.inspect = some r)
  (hpart : r.lanes[(l : Nat)]? = some part)
include hr hpart

/-- A well-formed read of a lane whose window is open is judged against the inspected entry's number (R114). -/
theorem replyReportRead_accept {ds : List Byte} {ch : Nat} {chk : Option Nat} (hlow : 1 ≤ ds.length)
    (hhigh : ds.length ≤ 10) (hdigits : ∀ b ∈ ds, 0x30 ≤ b.toNat ∧ b.toNat ≤ 0x39)
    (hch : ch = 0 ∧ chk = none ∨ ∃ d, d ≤ 9 ∧ ch = 0x30 + d ∧ chk = some d) :
    replyReportRead (l + 1) ds ch s =
      (let j := judgeRead (readMatches (inspectedNumber s r l) (digitsValue ds) chk) part
       .accept (modifySet r.tag (SetRecord.modifyLane l fun _ => j.1) s)
        (wordBytes r.tag ++ [byte (l + 1), Config.readOutcomeCode j.2])) := by
  have hwf : (1 ≤ ds.length && ds.length ≤ 10 && ds.all isDigitChar) = true := by
    simpa [hlow, hhigh, isDigitChar] using hdigits
  rw [replyReportRead, namedLane_fin, hwf, require_true, reportedCheck_of_form hch, inWindow_of_lane hr hpart]

theorem replyReportDefect_accept {d : Nat} (hlow : 1 ≤ d) (hhigh : d ≤ 255) :
    replyReportDefect (l + 1) d s =
      .accept (notify .defectReported (wordBytes r.tag ++ [byte (l + 1), byte d])
        (modifySet r.tag (SetRecord.addReason l .defect) s)) (wordBytes r.tag ++ [byte (l + 1)]) := by
  have hwf : (decide (1 ≤ d) && decide (d ≤ 255)) = true := by simp [hlow, hhigh]
  rw [replyReportDefect, namedLane_fin, hwf, require_true, inWindow_of_lane hr hpart]

end

/-- Settles O24: each state of the lane by its case of the judgement, and a defect by the reason it adds. -/
theorem readsAndDefectsReported : Obligations.ReadsAndDefectsReported := by
  intro p s l r part hr hpart write outcome
  refine ⟨fun ds ch chk hlow hhigh hdigits hch => ?_, fun d hlow hhigh => ?_⟩
  · intro good bad
    have hread : ∀ (m : Bool) (x : LanePart) (k : Fin 4),
        readMatches (inspectedNumber s r l) (digitsValue ds) chk = m → judgeRead m part = (x, k) →
        AcceptedAs p (.reportRead p (l + 1) ds ch) (outcome k) (write x) s := fun m x k hm hj => by
      refine acceptedAs_of_reply rfl
        ((replyReportRead_accept (s := takenOn p s) hr hpart hlow hhigh hdigits hch).trans ?_)
      rw [show inspectedNumber (takenOn p s) r l = inspectedNumber s r l from rfl, hm, hj]
      rfl
    have hgood : good → readMatches (inspectedNumber s r l) (digitsValue ds) chk = true := readMatches_iff.mpr
    have hbad : ¬good → readMatches (inspectedNumber s r l) (digitsValue ds) chk = false := fun h =>
      Bool.eq_false_iff.mpr fun hm => h (readMatches_iff.mp hm)
    refine ⟨fun hi => hread _ part 0 rfl ?_, fun hi hg => hread _ _ 1 (hgood hg) ?_,
      fun hi hg => hread _ part 3 (hgood hg) ?_, fun hi hg => hread _ bad 2 (hbad hg) ?_,
      fun hi => hread _ part 2 rfl ?_⟩
    · simp only [judgeRead, hi]
    · simp only [judgeRead, hi]
    · simp only [judgeRead, hi]
    · rcases hi with hi | hi <;> simp only [judgeRead, hi] <;> rfl
    · simp only [judgeRead, hi]
  · exact acceptedAs_of_reply rfl (replyReportDefect_accept (s := takenOn p s) hr hpart hlow hhigh)

/-! ## REJECT_SETS -/

theorem replyRejectSets_named {first count mask : Nat} (hcount : 1 ≤ count) (hmask : mask % 16 ≠ 0) (s : State) :
    replyRejectSets first count mask s =
      (let isNamed := fun r : SetRecord => tagNamed (BitVec.ofNat 32 first) (min count 128) r.tag
       let found := (s.st.ring.filter isNamed).length
       require (found != 0) .tooLate
        (.accept (modifySets isNamed (SetRecord.addMasked mask .operator) s) [byte found])) := by
  have hwf : (count != 0 && mask % 16 != 0) = true := by
    simpa [hmask] using Nat.one_le_iff_ne_zero.mp hcount
  rw [replyRejectSets, hwf, require_true]

/-- Settles O25: the sets among the named tags gain the reason on the masked lanes, or none of them is left. -/
theorem setsRejectedByTag : Obligations.SetsRejectedByTag := by
  intro p s first count mask hcount hmask isNamed found
  have hreply := replyRejectSets_named hcount hmask (first := first) (takenOn p s)
  refine ⟨fun hfound => acceptedAs_of_reply rfl (hreply.trans ?_), fun hnone => refusedAs_of_reply rfl (hreply.trans ?_)⟩
  · have hsome : (found != 0) = true := bne_iff_ne.mpr (Nat.one_le_iff_ne_zero.mp hfound)
    exact congrArg (fun b => require b _ _) hsome
  · exact congrArg (fun b => require b _ _) (bne_eq_false_iff_eq.mpr hnone)

/-! ## SUSPEND and FLUSH -/

theorem parkContext_of_some {k : SlotId} {c : Context} {s : State} (h : s.slots[(k : Nat)] = some c) :
    parkContext k s = contextRecord { activated := none, slot := k, job := c.job, stamp := s.wpu.cycle }
      { s with slots := s.slots.set k (some (c.enter .parked)) } := by
  rw [← modifyContext_of_some h]
  simp only [parkContext, Fin.getElem_fin, h]

theorem otherDraining_eq_true {s : State} {k : SlotId} :
    otherDraining s k = true ↔ ∃ j, j ≠ k ∧ slotState s j = some .draining := by
  simp [otherDraining]

section
variable {s : State} {k : SlotId} {c : Context} (hc : s.slots[(k : Nat)] = some c)
include hc

/-- What SUSPEND answers for an ACTIVE context (R170). -/
theorem replySuspend_active (ha : c.state = .active) :
    replySuspend k s = require (c.inFlight == 0 || !otherDraining s k) .busy
      (.accept (suspendContext k c s) [jobStateCode (some (if c.inFlight = 0 then .parked else .active))]) := by
  rw [replySuspend, named_fin, inState_some hc, if_pos (beq_iff_eq.mpr ha)]

/-- What FLUSH answers for a context that runs, while a record is free (R173). -/
theorem replyFlush_running (hrun : c.state = .active ∨ c.state = .draining) (hroom : 1 ≤ s.ij.unreserved) :
    replyFlush k s =
      .accept (journalUnreserved k c.job s.wpu.cycle (.flushed (setsOf k s)) (flushSets k s)) [byte (setsOf k s)] := by
  rw [replyFlush, named_fin, inState_some hc, if_pos (by simpa using hrun), journalRoom, decide_eq_true hroom, require_true]

end

/-- FLUSHED on every lane and CANCELLED on every PENDING head of a slot's sets (R118). -/
theorem flushSets_eq (k : SlotId) (s : State) :
    flushSets k s = { s with st := { s.st with
      ring := s.st.ring.map fun r =>
        if r.slot = k then
          { r with
            lanes := r.lanes.map fun x =>
              { x with reasons := x.reasons ||| 512, primary := if x.reasons = 0 then some .flushed else x.primary },
            heads := mapTable (fun h => if h = .pending then .cancelled else h) r.heads }
        else r } } := by
  simp only [flushSets, modifySets, beq_iff_eq]
  rfl

/-- Settles O39: SUSPEND by the sets in flight and by what else drains; FLUSH by its marking and its record. -/
theorem suspendAndFlush : Obligations.SuspendAndFlush := by
  intro p s k c hc
  have hcontext : (takenOn p s).slots[(k : Nat)] = some c := hc
  refine ⟨fun ha hzero => ?_, fun ha hsets hother => ?_, fun j ha hsets hj hdrain => ?_, fun hrun hroom => ?_⟩
  · refine acceptedAs_of_reply rfl ((replySuspend_active hcontext ha).trans ?_)
    have hfree : (c.inFlight == 0 || !otherDraining (takenOn p s) k) = true := by simp [hzero]
    rw [hfree, require_true, suspendContext, if_pos hzero, if_pos hzero, parkContext_of_some hcontext]
    rfl
  · have hnone : otherDraining (takenOn p s) k = false :=
      Bool.eq_false_iff.mpr fun h => by
        obtain ⟨j, hj, hdrain⟩ := otherDraining_eq_true.mp h
        exact hother j hj hdrain
    have hpos : c.inFlight ≠ 0 := Nat.one_le_iff_ne_zero.mp hsets
    refine acceptedAs_of_reply rfl ((replySuspend_active hcontext ha).trans ?_)
    simp only [hnone, Bool.not_false, Bool.or_true, require_true, hpos, if_false, suspendContext,
      modifyContext_of_some hcontext]
    rfl
  · have hbusy : (c.inFlight == 0 || !otherDraining (takenOn p s) k) = false := by
      rw [otherDraining_eq_true (s := takenOn p s).mpr ⟨j, hj, hdrain⟩,
        beq_eq_false_iff_ne.mpr (Nat.one_le_iff_ne_zero.mp hsets)]
      rfl
    refine refusedAs_of_reply rfl ((replySuspend_active hcontext ha).trans ?_)
    rw [hbusy, require_false]
  · refine acceptedAs_of_reply rfl ((replyFlush_running hcontext hrun hroom).trans ?_)
    rw [flushSets_eq]
    rfl

end Sys2Proof.Machine
end

section
/-! PROOFS. The retirement of a set: its numbers handed to the journal, and the gates. -/

namespace Sys2Proof.Machine

/-! ## A run that merges (R144, R145) -/

section
variable {j : Journal} {k : SlotId} {job : Nat}

theorem Journal.merge_open {t : Tail} {r : Record} (ht : j.tail = some t) (hopen : t.isOpen = true) (hslot : t.slot = k)
    (hr : j.records.getLast? = some r) (hjob : r.job = job) (b : RecordBody) :
    j.merge k job b = (r.body.extend b).map fun b' =>
      { j with
        records := j.records.dropLast ++ [{ r with body := b' }],
        tail := some { t with isOpen := b'.count < 65535 } } := by
  simp only [Journal.merge, ht, hr, hopen, hslot, hjob, and_self, if_true]

/-- Nothing merges that no OPEN tail of its slot and job extends to. -/
theorem Journal.merge_eq_none {b : RecordBody} (h : ∀ (t : Tail) (r : Record), j.tail = some t → t.isOpen = true →
    t.slot = k → j.records.getLast? = some r → r.job = job → r.body.extend b = none) : j.merge k job b = none := by
  unfold Journal.merge
  split
  · rename_i t r ht hr
    split
    · rename_i hopen
      obtain ⟨hopen, hslot, hjob⟩ := hopen
      exact Option.map_eq_none_iff.mpr (h t r ht hopen hslot hr hjob)
    · rfl
  · rfl

end

theorem extend_issuedRun_eq_some {b b' : RecordBody} {q : SeqId} {ls : BitVec 4} {v v' n' : Nat} {step : Int} :
    b.extend (.issuedRun q ls v v' n' step) = some b' ↔ ∃ old first last n, b = .issuedRun q old first last n step ∧
      (v : Int) = last + step ∧ n < 65535 ∧ .issuedRun q (old ||| ls) first v (n + 1) step = b' := by
  cases b with
  | issuedRun p old first last n x =>
    simp only [RecordBody.extend, Option.ite_none_right_eq_some, Option.some.injEq, RecordBody.issuedRun.injEq]
    constructor
    · rintro ⟨⟨rfl, rfl, hv, hn⟩, e⟩
      exact ⟨old, first, last, n, ⟨rfl, rfl, rfl, rfl, rfl, rfl⟩, hv, hn, e⟩
    · rintro ⟨_, _, _, _, ⟨rfl, rfl, rfl, rfl, rfl, rfl⟩, hv, hn, e⟩
      exact ⟨⟨rfl, rfl, hv, hn⟩, e⟩
  | _ => simp [RecordBody.extend]

theorem extend_voidRun_eq_some {b b' : RecordBody} {q : SeqId} {v v' n' : Nat} {step : Int} :
    b.extend (.voidRun q v v' n' step) = some b' ↔ ∃ first last n, b = .voidRun q first last n step ∧
      (v : Int) = last + step ∧ n < 65535 ∧ .voidRun q first v (n + 1) step = b' := by
  cases b with
  | voidRun p first last n x =>
    simp only [RecordBody.extend, Option.ite_none_right_eq_some, Option.some.injEq, RecordBody.voidRun.injEq]
    constructor
    · rintro ⟨⟨rfl, rfl, hv, hn⟩, e⟩
      exact ⟨first, last, n, ⟨rfl, rfl, rfl, rfl, rfl⟩, hv, hn, e⟩
    · rintro ⟨_, _, _, ⟨rfl, rfl, rfl, rfl, rfl⟩, hv, hn, e⟩
      exact ⟨⟨rfl, rfl, hv, hn⟩, e⟩
  | _ => simp [RecordBody.extend]

/-- Only a run merges. -/
theorem merge_reissued (j : Journal) (k : SlotId) (job : Nat) (q : SeqId) (l : LaneId) (v spoil : Nat) :
    j.merge k job (.reissued q l v spoil) = none :=
  Journal.merge_eq_none fun _ r _ _ _ _ _ => by cases r.body <;> rfl

/-! ## A record of a retiring set (R143, R145) -/

theorem Settling.write_merges {a : Settling} {slot : SlotId} {job : Nat} {b : RecordBody} {j : Journal}
    (h : a.state.ij.merge slot job b = some j) :
    a.write slot job b = { state := { a.state with ij := j }, left := a.left } := by
  simp only [Settling.write, journalFromSet, h]
  rfl

theorem Settling.write_appends {a : Settling} {slot : SlotId} {job : Nat} {b : RecordBody}
    (h : a.state.ij.merge slot job b = none) :
    a.write slot job b =
      { state := { a.state with
          ij := { a.state.ij.append slot job a.state.wpu.cycle b with reserved := a.state.ij.reserved - 1 } },
        left := a.left - 1 } := by
  simp only [Settling.write, journalFromSet, h, if_true]

/-! ## The entries of a good lane (R120, R123) -/

section
variable {r : SetRecord} {l : LaneId} {part : LanePart} {a : Settling} {e : EntryPart}

theorem settleEntry_other_lane (h : e.lane ≠ l) : settleEntry r l part a e = a := by
  rw [settleEntry, if_pos h]

theorem settleEntry_without_number (h : e.state = .blank ∨ e.state = .unnumbered) : settleEntry r l part a e = a := by
  rcases h with h | h <;> simp [settleEntry, h]

theorem settleEntry_repeated {n : Number} {b : EntryId} {root : RootOrigin} (hn : e.state = .numbered n)
    (ho : n.origin = .repeated b root) : settleEntry r l part a e = a := by
  unfold settleEntry
  rw [hn]
  cases e.sequence <;> simp [ho]

theorem settleEntry_good {n : Number} {q : SeqId} (hl : e.lane = l) (hn : e.state = .numbered n)
    (hq : e.sequence = some q) (ho : n.origin = .fresh ∨ n.origin = .reprint) (hgood : part.reasons = 0) :
    settleEntry r l part a e = issueNumber r.slot q l n a := by
  have hrej : part.rejected = false := bne_eq_false_iff_eq.mpr hgood
  rcases ho with ho | ho <;> simp [settleEntry, hl, hn, hq, ho, hrej]

end

/-- A record of one number handed to the journal, and the number's move from held to issued (R123). -/
def Settling.issue (slot : SlotId) (q : SeqId) (c : Context) (x : Sequence) (b : RecordBody) (a : Settling) : Settling :=
  let w := a.write slot c.job b
  { w with state := { w.state with
      slots := a.state.slots.set slot (some { c with sequences := c.sequences.set q (some x.heldToIssued) }) } }

section
variable {slot : SlotId} {q : SeqId} {n : Number} {a : Settling} {c : Context} {x : Sequence}

theorem Settling.issue_merges {b : RecordBody} {j : Journal} (h : a.state.ij.merge slot c.job b = some j) :
    a.issue slot q c x b =
      { state := { a.state with
          ij := j,
          slots := a.state.slots.set slot (some { c with sequences := c.sequences.set q (some x.heldToIssued) }) },
        left := a.left } := by
  rw [Settling.issue, Settling.write_merges h]

theorem Settling.issue_appends {b : RecordBody} (h : a.state.ij.merge slot c.job b = none) :
    a.issue slot q c x b =
      { state := { a.state with
          ij := { a.state.ij.append slot c.job a.state.wpu.cycle b with reserved := a.state.ij.reserved - 1 },
          slots := a.state.slots.set slot (some { c with sequences := c.sequences.set q (some x.heldToIssued) }) },
        left := a.left - 1 } := by
  rw [Settling.issue, Settling.write_appends h]

variable (hc : a.state.slots[(slot : Nat)] = some c) (hx : c.sequences[(q : Nat)] = some x)
include hc hx

theorem Settling.write_heldToIssued (b : RecordBody) :
    { a.write slot c.job b with
      state := modifySequence slot q Sequence.heldToIssued (a.write slot c.job b).state } = a.issue slot q c x b := by
  have hw : (a.write slot c.job b).state.slots[(slot : Nat)] = some c := by rw [Settling.write_state_slots, hc]
  rw [modifySequence_of_some hw hx, Settling.write_state_slots]
  rfl

theorem issueNumber_fresh (ho : n.origin = .fresh) (lane : LaneId) :
    issueNumber slot q lane n a =
      a.issue slot q c x (.issuedRun q ((1 : BitVec 4) <<< (lane : Nat)) n.value n.value 1 x.step) := by
  rw [← Settling.write_heldToIssued hc hx]
  simp only [issueNumber, Fin.getElem_fin, hc, hx, ho]

theorem issueNumber_reprint (ho : n.origin = .reprint) (lane : LaneId) :
    issueNumber slot q lane n a = a.issue slot q c x (.reissued q lane n.value n.spoil) := by
  rw [← Settling.write_heldToIssued hc hx]
  simp only [issueNumber, Fin.getElem_fin, hc, hx, ho]

end

/-- Settles O33: each entry by its state and origin; a run merges exactly into the tail that it extends. -/
theorem goodNumberIssued : Obligations.GoodNumberIssued := by
  refine ⟨fun r l part a e => ⟨settleEntry_other_lane, settleEntry_without_number,
    fun n b root hn ho => settleEntry_repeated hn ho, fun n q c x hl hn hq hgood hc hx => ?_⟩,
    fun j k job q ls v step => ?_⟩
  · intro slots lanes appended
    refine ⟨fun ho => ?_, fun ho => ?_⟩
    · rw [settleEntry_good hl hn hq (.inr ho) hgood, issueNumber_reprint hc hx ho,
        Settling.issue_appends (merge_reissued ..)]
      rfl
    · intro run
      have hissue := (settleEntry_good hl hn hq (.inl ho) hgood).trans (issueNumber_fresh hc hx ho l)
      exact ⟨fun j hj => hissue.trans (Settling.issue_merges hj), fun hnone => hissue.trans (Settling.issue_appends hnone)⟩
  · intro tailIs grown
    refine ⟨?_, ?_, fun hno => ?_, fun hno => ?_⟩
    · rintro t r old first last n ⟨ht, hopen, hslot, hr, hjob, hbody⟩ hv hn
      rw [Journal.merge_open ht hopen hslot hr hjob, hbody,
        extend_issuedRun_eq_some.mpr ⟨old, first, last, n, rfl, hv, hn, rfl⟩]
      rfl
    · rintro t r first last n ⟨ht, hopen, hslot, hr, hjob, hbody⟩ hv hn
      rw [Journal.merge_open ht hopen hslot hr hjob, hbody,
        extend_voidRun_eq_some.mpr ⟨first, last, n, rfl, hv, hn, rfl⟩]
      rfl
    · refine Journal.merge_eq_none fun t r ht hopen hslot hr hjob => Option.eq_none_iff_forall_ne_some.mpr fun b hb => ?_
      obtain ⟨old, first, last, n, hbody, hv, hn, -⟩ := extend_issuedRun_eq_some.mp hb
      exact hno t r old first last n ⟨ht, hopen, hslot, hr, hjob, hbody⟩ hv hn
    · refine Journal.merge_eq_none fun t r ht hopen hslot hr hjob => Option.eq_none_iff_forall_ne_some.mpr fun b hb => ?_
      obtain ⟨first, last, n, hbody, hv, hn, -⟩ := extend_voidRun_eq_some.mp hb
      exact hno t r first last n ⟨ht, hopen, hslot, hr, hjob, hbody⟩ hv hn

/-! ## The gate step (R121, R177) -/

/-- A lane of the set that a boundary retires is rejected (R110, R120). -/
def RejectedIn (due : Option SetRecord) (k : LaneId) : Prop :=
  ∃ r, due = some r ∧ ∃ x, r.lanes[(k : Nat)]? = some x ∧ x.reasons ≠ 0

theorem any_rejected_iff {r : SetRecord} {k : LaneId} :
    r.lanes[(k : Nat)]?.any LanePart.rejected = true ↔ RejectedIn (some r) k := by
  simp [RejectedIn, LanePart.rejected, Option.any_eq_true]

theorem gateFor_rejected {s : State} {r : SetRecord} {k : LaneId} (h : RejectedIn (some r) k) :
    gateFor s (some r) k =
      .asserted r.tag (if s.st.gateClose < s.wpu.repeatLength then some s.st.gateClose else none) :=
  if_pos (any_rejected_iff.mpr h)

theorem gateFor_good {s : State} {due : Option SetRecord} {k : LaneId} (h : ¬RejectedIn due k) :
    gateFor s due k = .released := by
  cases due with
  | none => rfl
  | some r => exact if_neg fun hr => h (any_rejected_iff.mp hr)

theorem Gate.isAsserted_iff {g : Gate} : g.isAsserted = true ↔ g ≠ .released := by
  cases g <;> simp [Gate.isAsserted]

theorem gateFor_isAsserted {s : State} {due : Option SetRecord} {k : LaneId} :
    (gateFor s due k).isAsserted = true ↔ RejectedIn due k := by
  by_cases h : RejectedIn due k
  · obtain ⟨r, rfl, -⟩ := id h
    simp [gateFor_rejected h, Gate.isAsserted, h]
  · simp [gateFor_good h, Gate.isAsserted, h]

/-- A line as its gate goes from one record to another: it moves where the two drive different levels (R177). -/
def Line.follow (before after : Gate) (x : Line) : Line :=
  if before.isAsserted = after.isAsserted then x else { x with level := after.isAsserted }

@[simp] theorem Line.follow_function (before after : Gate) (x : Line) : (x.follow before after).function = x.function := by
  unfold Line.follow; split <;> rfl

theorem setGateRecord_line (k : LaneId) (g : Gate) (s : State) (i : LineId) :
    (setGateRecord k g s).lm.lines[(i : Nat)] =
      if s.lm.lines[(i : Nat)].function = .gate k then s.lm.lines[(i : Nat)].follow s.st.gates[(k : Nat)] g
      else s.lm.lines[(i : Nat)] := by
  unfold setGateRecord Line.follow
  simp only [Fin.getElem_fin]
  split
  · simp only [ite_self]
  · simp only [showDriven, mapTable_getElem]

/-- Nothing but gates and line levels differs. -/
def GatesMoved (s t : State) : Prop :=
  ∃ gates lines, t = { s with st := { s.st with gates := gates }, lm := { s.lm with lines := lines } }

theorem GatesMoved.trans {s t u : State} (h : GatesMoved s t) (g : GatesMoved t u) : GatesMoved s u := by
  obtain ⟨_, _, rfl⟩ := h
  obtain ⟨gates, lines, rfl⟩ := g
  exact ⟨gates, lines, rfl⟩

theorem setGateRecord_moves (k : LaneId) (g : Gate) (s : State) : GatesMoved s (setGateRecord k g s) := by
  unfold setGateRecord
  simp only []
  split
  · exact ⟨_, _, rfl⟩
  · exact ⟨_, _, rfl⟩

/-- The gate step's turn of one lane. -/
def gateTurn (due : Option SetRecord) (s : State) (k : LaneId) : State := setGateRecord k (gateFor s due k) s

theorem gateStep_eq (due : Option SetRecord) (s : State) : gateStep due s = (List.finRange 4).foldl (gateTurn due) s := rfl

/-- No lane's turn changes what another lane's gate is to take. -/
theorem gateFor_gateTurn (due : Option SetRecord) (s : State) (j k : LaneId) :
    gateFor (gateTurn due s j) due k = gateFor s due k := by
  simp only [gateFor, gateTurn, setGateRecord_st, setGateRecord_wpu]

theorem gateTurn_gate_other (due : Option SetRecord) (s : State) {j k : LaneId} (h : j ≠ k) :
    (gateTurn due s j).st.gates[(k : Nat)] = s.st.gates[(k : Nat)] := by
  have hne : (j : Nat) ≠ k := fun e => h (Fin.ext e)
  simp [gateTurn, setGateRecord_st, hne]

theorem foldl_gateTurn_gates (due : Option SetRecord) (l : List LaneId) (s : State) (k : LaneId) :
    (l.foldl (gateTurn due) s).st.gates[(k : Nat)] = if k ∈ l then gateFor s due k else s.st.gates[(k : Nat)] := by
  induction l generalizing s with
  | nil => rfl
  | cons j l ih =>
    rw [List.foldl_cons, ih, gateFor_gateTurn]
    by_cases hj : j = k
    · subst hj
      simp [gateTurn, setGateRecord_st]
    · simp [gateTurn_gate_other due s hj, Ne.symm hj]

theorem foldl_gateTurn_line_other {due : Option SetRecord} {l : List LaneId} {s : State} {i : LineId}
    (h : ∀ k ∈ l, s.lm.lines[(i : Nat)].function ≠ .gate k) :
    (l.foldl (gateTurn due) s).lm.lines[(i : Nat)] = s.lm.lines[(i : Nat)] := by
  induction l generalizing s with
  | nil => rfl
  | cons j l ih =>
    have hturn : (gateTurn due s j).lm.lines[(i : Nat)] = s.lm.lines[(i : Nat)] := by
      rw [gateTurn, setGateRecord_line, if_neg (h j (List.mem_cons_self ..))]
    rw [List.foldl_cons, ih fun k hk => by rw [hturn]; exact h k (List.mem_cons_of_mem j hk), hturn]

/-- The line that holds a gate moves at that gate's turn alone. -/
theorem foldl_gateTurn_line {due : Option SetRecord} {l : List LaneId} (hl : l.Nodup) {k : LaneId} (hk : k ∈ l) {s : State}
    {i : LineId} (h : s.lm.lines[(i : Nat)].function = .gate k) :
    (l.foldl (gateTurn due) s).lm.lines[(i : Nat)] =
      s.lm.lines[(i : Nat)].follow s.st.gates[(k : Nat)] (gateFor s due k) := by
  induction l generalizing s with
  | nil => cases hk
  | cons j l ih =>
    obtain ⟨hjl, hl⟩ := List.nodup_cons.mp hl
    rw [List.foldl_cons]
    by_cases hj : j = k
    · subst hj
      have hturn : (gateTurn due s j).lm.lines[(i : Nat)] =
          s.lm.lines[(i : Nat)].follow s.st.gates[(j : Nat)] (gateFor s due j) := by
        rw [gateTurn, setGateRecord_line, if_pos h]
      rw [foldl_gateTurn_line_other fun m hm => ?_, hturn]
      rw [hturn, Line.follow_function, h]
      exact fun e => hjl (LineFunction.gate.inj e ▸ hm)
    · have hturn : (gateTurn due s j).lm.lines[(i : Nat)] = s.lm.lines[(i : Nat)] := by
        rw [gateTurn, setGateRecord_line, if_neg fun e => hj (LineFunction.gate.inj (h.symm.trans e)).symm]
      rw [ih hl ((List.mem_cons.mp hk).resolve_left (Ne.symm hj)) (by rw [hturn, h]), hturn, gateFor_gateTurn,
        gateTurn_gate_other due s hj]

theorem gateStep_gates (due : Option SetRecord) (s : State) (k : LaneId) :
    (gateStep due s).st.gates[(k : Nat)] = gateFor s due k := by
  rw [gateStep_eq, foldl_gateTurn_gates, if_pos (List.mem_finRange k)]

theorem gateStep_line {due : Option SetRecord} {s : State} {i : LineId} {k : LaneId}
    (h : s.lm.lines[(i : Nat)].function = .gate k) :
    (gateStep due s).lm.lines[(i : Nat)] =
      s.lm.lines[(i : Nat)].follow s.st.gates[(k : Nat)] (gateFor s due k) := by
  rw [gateStep_eq, foldl_gateTurn_line (List.nodup_finRange 4) (List.mem_finRange k) h]

theorem gateStep_line_other {due : Option SetRecord} {s : State} {i : LineId}
    (h : ∀ k : LaneId, s.lm.lines[(i : Nat)].function ≠ .gate k) :
    (gateStep due s).lm.lines[(i : Nat)] = s.lm.lines[(i : Nat)] := by
  rw [gateStep_eq, foldl_gateTurn_line_other fun k _ => h k]

theorem foldl_gateTurn_moves (due : Option SetRecord) (l : List LaneId) (s : State) :
    GatesMoved s (l.foldl (gateTurn due) s) := by
  induction l generalizing s with
  | nil => exact ⟨_, _, rfl⟩
  | cons k l ih => exact (setGateRecord_moves k _ s).trans (ih (gateTurn due s k))

theorem GatesMoved.eq {s t : State} (h : GatesMoved s t) :
    t = { s with st := { s.st with gates := t.st.gates }, lm := { s.lm with lines := t.lm.lines } } := by
  obtain ⟨_, _, rfl⟩ := h
  rfl

/-- Settles O32: each gate takes its own lane's record, and its line follows where the two records differ. -/
theorem gatesFollowRetiringSet : Obligations.GatesFollowRetiringSet := by
  refine ⟨fun s => ⟨fun hnone => ?_, fun r hr => ?_⟩, fun due s => ?_⟩
  · simp only [retire, hnone]
  · simp only [retire, hr]
    rfl
  · intro t rejected
    refine ⟨?_, fun k hgood => (gateStep_gates due s k).trans (gateFor_good hgood), fun i k hi => ?_,
      fun i hi => gateStep_line_other hi, (foldl_gateTurn_moves due _ s).eq⟩
    · rintro k r rfl hrej
      exact (gateStep_gates (some r) s k).trans (gateFor_rejected hrej)
    · have hline := gateStep_line (due := due) hi
      have hafter : (gateFor s due k).isAsserted = true ↔ rejected k := gateFor_isAsserted
      have hbefore : s.st.gates[(k : Nat)].isAsserted = true ↔ s.st.gates[k] ≠ .released := Gate.isAsserted_iff
      refine ⟨fun hrej hrel => hline.trans ?_, fun hgood hass => hline.trans ?_, fun hsame => hline.trans ?_⟩
      · have hnow := hafter.mpr hrej
        have hold : s.st.gates[(k : Nat)].isAsserted = false := Bool.eq_false_iff.mpr fun h => hbefore.mp h hrel
        rw [Line.follow, hnow, hold, if_neg (by decide)]
        rfl
      · have hnow : (gateFor s due k).isAsserted = false := Bool.eq_false_iff.mpr fun h => hgood (hafter.mp h)
        rw [Line.follow, hnow, hbefore.mpr hass, if_neg (by decide)]
        rfl
      · have heq : s.st.gates[(k : Nat)].isAsserted = (gateFor s due k).isAsserted := by
          rw [Bool.eq_iff_iff, hbefore, hafter, hsame]
        rw [Line.follow, if_pos heq]
        rfl

end Sys2Proof.Machine
end

section
/-! PROOFS. The contexts at a boundary: their journal records, changeover, suspension, and the removal of a set. -/

namespace Sys2Proof.Machine

/-! ## Context records (R149) -/

theorem contextRecord_appended {d : Deferred} {s : State} (h : s.ij.deferred = [])
    (hspace : d.activated = none ∨ 1 ≤ s.ij.unreserved) : contextRecord d s = appendContextRecord d s := by
  have hroom : contextSpace d s = true := by
    rcases hspace with hd | hfree
    · simp [contextSpace, hd]
    · simp [contextSpace, Nat.lt_of_lt_of_le Nat.zero_lt_one hfree]
  rw [contextRecord, h, hroom]
  rfl

theorem contextRecord_waits {d : Deferred} {s : State}
    (h : s.ij.deferred ≠ [] ∨ d.activated.isSome = true ∧ s.ij.unreserved = 0) :
    contextRecord d s = { s with ij := { s.ij with deferred := s.ij.deferred ++ [d] } } := by
  have hno : (s.ij.deferred.isEmpty && contextSpace d s) = false := by
    rcases h with hwait | ⟨hd, hfull⟩
    · rw [List.isEmpty_eq_false_iff.mpr hwait, Bool.false_and]
    · obtain ⟨resumed, hd⟩ := Option.isSome_iff_exists.mp hd
      simp [contextSpace, hd, hfull]
  rw [contextRecord, hno]
  rfl

/-! ## Changeover and suspension (R169, R171) -/

theorem changeover_not_due {s : State} {a : Activation} (ha : s.activation = some a) (hx : a.effective ≠ s.wpu.cycle) :
    changeover s = s := by
  simp only [changeover, ha, hx, if_false]

/-- The context of a due activation enters, with its JOB_ACTIVATED record (R169 steps 1 and 2). -/
def started (a : Activation) (c : Context) (s : State) : State :=
  contextRecord { activated := some (decide (a.origin = .parked)), slot := a.slot, job := c.job, stamp := s.wpu.cycle }
    { s with activation := none, slots := s.slots.set a.slot (some (c.enter .active)) }

@[simp] theorem started_slots (a : Activation) (c : Context) (s : State) :
    (started a c s).slots = s.slots.set a.slot (some (c.enter .active)) := contextRecord_slots ..

@[simp] theorem started_wpu (a : Activation) (c : Context) (s : State) : (started a c s).wpu = s.wpu :=
  contextRecord_wpu ..

section
variable {s : State} {a : Activation} {c : Context} (ha : s.activation = some a) (hx : a.effective = s.wpu.cycle)
  (hc : s.slots[(a.slot : Nat)] = some c)
include ha hx hc

theorem changeover_alone (hnone : activeSlot s = none) :
    changeover s = notifyJob a.slot (some c.job) (some a.origin.state) (some .active) (started a c s) := by
  have hc' : ({ s with activation := none } : State).slots[(a.slot : Nat)] = some c := hc
  simp only [changeover, ha, hx, if_true, Fin.getElem_fin, hc, hnone, Option.filter_none, modifyContext_of_some hc']
  rfl

theorem changeover_beside {k : SlotId} (hk : activeSlot s = some k) (hne : k ≠ a.slot) :
    changeover s = notifyDemoted k
      (notifyJob a.slot (some c.job) (some a.origin.state) (some .active) (demote k (started a c s))) := by
  have hc' : ({ s with activation := none } : State).slots[(a.slot : Nat)] = some c := hc
  have hold : (some k).filter (fun k => k != a.slot) = some k := Option.filter_some_pos (bne_iff_ne.mpr hne)
  simp only [changeover, ha, hx, if_true, Fin.getElem_fin, hc, hk, hold, modifyContext_of_some hc']
  rfl

end

theorem notifyDemoted_of_some {k : SlotId} {d : Context} {s : State} (h : s.slots[(k : Nat)] = some d) :
    notifyDemoted k s = notifyJob k (some d.job) (some .active) (some d.state) s := by
  simp only [notifyDemoted, slotState, Fin.getElem_fin, h, Option.map_some]

theorem demote_drains {k : SlotId} {d : Context} {s : State} (h : s.slots[(k : Nat)] = some d) (hsets : 1 ≤ d.inFlight) :
    demote k s = { s with slots := s.slots.set k (some (d.enter .draining)) } := by
  rw [← modifyContext_of_some h]
  simp only [demote, Fin.getElem_fin, h, Nat.lt_of_lt_of_le Nat.zero_lt_one hsets, if_true]

theorem demote_parks {k : SlotId} {d : Context} {s : State} (h : s.slots[(k : Nat)] = some d) (hzero : d.inFlight = 0) :
    demote k s = parkContext k s := by
  simp only [demote, Fin.getElem_fin, h, hzero, Nat.lt_irrefl, if_false]

theorem suspension_of_active {s : State} {k : SlotId} {c : Context} (hk : activeSlot s = some k)
    (hc : s.slots[(k : Nat)] = some c) :
    suspension s = if c.suspend then
        notifyJob k (some c.job) (some .active) (some .draining)
          { s with slots := s.slots.set k (some (c.enter .draining)) }
      else s := by
  rw [← modifyContext_of_some hc]
  simp only [suspension, hk, Fin.getElem_fin, hc]

/-! ## The removal of a set (R125, R172) -/

/-- A set leaves the ring and its context's sets in flight. -/
def leaveRing (r : SetRecord) (c : Context) (s : State) : State :=
  { s with
    st := { s.st with ring := s.st.ring.filter fun x => x.tag != r.tag },
    slots := s.slots.set r.slot (some { c with inFlight := c.inFlight - 1 }) }

/-- SET_REJECTED is sent for a set with a rejected lane (R125). -/
def tellRejected (r : SetRecord) (job : Nat) (s : State) : State :=
  if r.lanes.any LanePart.rejected then
    notify .setRejected (wordBytes r.tag ++ byte r.slot :: be 3 job ++ listBytes rejectedLaneBytes r.lanes) s
  else s

theorem tellRejected_slots (r : SetRecord) (job : Nat) (s : State) : (tellRejected r job s).slots = s.slots := by
  unfold tellRejected; split <;> rfl

theorem tellRejected_wpu (r : SetRecord) (job : Nat) (s : State) : (tellRejected r job s).wpu = s.wpu := by
  unfold tellRejected; split <;> rfl

theorem tellRejected_eq (r : SetRecord) (job : Nat) (s : State) :
    tellRejected r job s = if ∃ x ∈ r.lanes, x.reasons ≠ 0 then
        notify .setRejected (wordBytes r.tag ++ byte r.slot :: be 3 job ++ listBytes rejectedLaneBytes r.lanes) s
      else s := by
  have hany : r.lanes.any LanePart.rejected = true ↔ ∃ x ∈ r.lanes, x.reasons ≠ 0 := by
    simp [LanePart.rejected]
  simp only [tellRejected, hany]

theorem removeSet_of_some {r : SetRecord} {a : Settling} {c : Context} (hc : a.state.slots[(r.slot : Nat)] = some c) :
    removeSet r a =
      (let told := tellRejected r c.job (returnReserved a.left (leaveRing r c a.state))
       if c.state = .draining ∧ c.inFlight - 1 = 0 then
         notifyJob r.slot (some c.job) (some .draining) (some .parked) (parkContext r.slot told)
       else told) := by
  unfold removeSet
  extract_lets state st s1 s2 job s3 told
  have h2 : s2 = returnReserved a.left (leaveRing r c a.state) :=
    congrArg (returnReserved a.left) (modifyContext_of_some (s := s1) hc _)
  have hleft : s2.slots[(r.slot : Nat)] = some { c with inFlight := c.inFlight - 1 } := by
    rw [h2, returnReserved_slots]; simp [leaveRing]
  have hjob : job.getD 0 = c.job := by
    simp only [job, Fin.getElem_fin, hleft, Option.map_some, Option.getD_some]
  have h3 : s3 = told := by
    simp only [s3, hjob, told, ← h2]
    rfl
  have htold : told.slots[(r.slot : Nat)] = some { c with inFlight := c.inFlight - 1 } := by
    simp only [told, tellRejected_slots, ← h2, hleft]
  simp only [h3, Fin.getElem_fin, htold]

/-- Settles O29: a context record by its space; changeover, suspension and removal by the contexts they find. -/
theorem jobsChangeAtBoundary : Obligations.JobsChangeAtBoundary := by
  refine ⟨fun d s => ?_, fun s a c ha hc => ⟨changeover_not_due ha, fun hx => ?_⟩, fun s hnone => ?_,
    fun s => ⟨suspension_of_none, fun k c hk hc => ⟨fun hflag => ?_, fun hflag => ?_⟩⟩, fun r a c hc => ?_⟩
  · intro appended
    refine ⟨fun hnone hd hfree => ?_, fun hnone hd => ?_, contextRecord_waits⟩
    · obtain ⟨resumed, hd⟩ := Option.isSome_iff_exists.mp hd
      rw [contextRecord_appended hnone (.inr hfree)]
      simp only [appendContextRecord, Deferred.body, journalUnreserved, appended, hd]
    · rw [contextRecord_appended hnone (.inl hd)]
      simp only [appendContextRecord, Deferred.body, appended, hd]
      rfl
  · intro begun told
    refine ⟨changeover_alone ha hx hc, fun k d hk hd hne => ?_⟩
    have hother : (started a c s).slots[(k : Nat)] = some d := by
      have hne' : (a.slot : Nat) ≠ k := fun e => hne (Fin.ext e.symm)
      simpa [hne'] using hd
    refine ⟨fun hsets => ?_, fun hzero => ?_⟩
    · rw [changeover_beside ha hx hc hk hne, demote_drains hother hsets, notifyDemoted_of_some (d := d.enter .draining)]
      · rfl
      · simp
    · rw [changeover_beside ha hx hc hk hne, demote_parks hother hzero, parkContext_of_some hother,
        notifyDemoted_of_some (d := d.enter .parked)]
      · have hcycle : (started a c s).wpu.cycle = s.wpu.cycle := congrArg Wpu.cycle (started_wpu ..)
        rw [hcycle]
        rfl
      · simp
  · simp only [changeover, hnone]
  · rw [suspension_of_active hk hc, if_neg (by rw [hflag]; decide)]
  · rw [suspension_of_active hk hc, if_pos hflag]
    rfl
  · intro gone returned told
    have htold : tellRejected r c.job (returnReserved a.left (leaveRing r c a.state)) = told := tellRejected_eq ..
    have hremove := removeSet_of_some hc
    simp only [htold] at hremove
    refine ⟨fun hstay => hremove.trans (if_neg ?_), fun hdrain hlast => hremove.trans ((if_pos ?_).trans ?_)⟩
    · rintro ⟨hdrain, hzero⟩
      rcases hstay with hstate | hmore
      · exact hstate hdrain
      · omega
    · exact ⟨hdrain, by omega⟩
    · have hslot : told.slots[(r.slot : Nat)] = some { c with inFlight := 0 } := by
        rw [← htold, tellRejected_slots, returnReserved_slots]; simp [leaveRing, hlast]
      have hcycle : told.wpu.cycle = a.state.wpu.cycle := by
        rw [← htold, tellRejected_wpu, returnReserved_wpu]; rfl
      rw [parkContext_of_some hslot, hcycle]
      rfl

end Sys2Proof.Machine
end

section
/-! PROOFS. The close of an inspection window: over a whole boundary a lane gains reasons, and only the window's close moves
its inspection state. -/

namespace Sys2Proof.Machine

/-! ## The close of the window (R116) -/

theorem closeWindow_eq (s : State) :
    closeWindow s = { s with st := { s.st with
      ring := s.st.ring.map fun r =>
        if r.tag = s.wpu.cycle - BitVec.ofNat 32 (s.st.inspect + 1) then
          { r with lanes := r.lanes.map fun x =>
              if x.inspection = .awaiting then
                { x with inspection := .unread, reasons := x.reasons ||| 32,
                         primary := if x.reasons = 0 then some .unread else x.primary }
              else x }
        else r } } := rfl

/-! ## Lanes and sets that gain reasons (R110) -/

/-- The lane keeps its inspection state and its reasons. -/
def LanePart.Gained (x y : LanePart) : Prop := y.inspection = x.inspection ∧ ∀ why, x.has why = true → y.has why = true

theorem LanePart.Gained.refl (x : LanePart) : x.Gained x := ⟨rfl, fun _ h => h⟩

theorem LanePart.has_add {x : LanePart} {why : Reason} (w : Reason) (h : x.has why = true) : (x.add w).has why = true := by
  have hbit : x.reasons.getLsbD why.index = true := h
  simp [LanePart.has, LanePart.add, hbit]

theorem LanePart.add_gained (w : Reason) (x : LanePart) : x.Gained (x.add w) := ⟨rfl, fun _ => LanePart.has_add w⟩

theorem LanePart.Gained.trans {x y z : LanePart} (h : x.Gained y) (g : y.Gained z) : x.Gained z :=
  ⟨g.1.trans h.1, fun why hw => g.2 why (h.2 why hw)⟩

/-- The same set, each of its lanes related to what it was. -/
structure SetRecord.Follows (R : LanePart → LanePart → Prop) (r u : SetRecord) : Prop where
  tag : u.tag = r.tag
  length : u.lanes.length = r.lanes.length
  lanes : ∀ (i : Nat) (x : LanePart), r.lanes[i]? = some x → ∃ y, u.lanes[i]? = some y ∧ R x y

theorem SetRecord.Follows.trans {R S T : LanePart → LanePart → Prop} {r u v : SetRecord} (h : r.Follows R u)
    (g : u.Follows S v) (hRS : ∀ x y z, R x y → S y z → T x z) : r.Follows T v where
  tag := g.tag.trans h.tag
  length := g.length.trans h.length
  lanes i x hx := by
    obtain ⟨y, hy, hxy⟩ := h.lanes i x hx
    obtain ⟨z, hz, hyz⟩ := g.lanes i y hy
    exact ⟨z, hz, hRS x y z hxy hyz⟩

theorem SetRecord.Follows.of_lanes {R : LanePart → LanePart → Prop} {r u : SetRecord} (hR : ∀ x, R x x)
    (htag : u.tag = r.tag) (hlanes : u.lanes = r.lanes) : r.Follows R u :=
  ⟨htag, by rw [hlanes], fun i x hx => ⟨x, by rw [hlanes, hx], hR x⟩⟩

theorem SetRecord.Follows.refl (r : SetRecord) : r.Follows LanePart.Gained r := .of_lanes LanePart.Gained.refl rfl rfl

theorem SetRecord.Follows.of_map {R : LanePart → LanePart → Prop} {r u : SetRecord} {f : LanePart → LanePart}
    (hR : ∀ x, R x (f x)) (htag : u.tag = r.tag) (hlanes : u.lanes = r.lanes.map f) : r.Follows R u :=
  ⟨htag, by rw [hlanes, List.length_map],
    fun i x hx => ⟨f x, by rw [hlanes, List.getElem?_map, hx, Option.map_some], hR x⟩⟩

theorem SetRecord.addReason_gained (l : LaneId) (w : Reason) (r : SetRecord) :
    r.Follows LanePart.Gained (r.addReason l w) where
  tag := rfl
  length := List.length_modify ..
  lanes i x hx := by
    simp only [SetRecord.addReason, SetRecord.modifyLane, List.getElem?_modify, hx]
    split
    · exact ⟨_, rfl, x.add_gained w⟩
    · exact ⟨_, rfl, .refl x⟩

theorem writeOutcome_gained (h : HeadId) (o : HeadOutcome) (why : Option Reason) (lane : Option LaneId) (r : SetRecord) :
    r.Follows LanePart.Gained (writeOutcome h o why lane r) := by
  have hhead : r.Follows LanePart.Gained { r with heads := r.heads.set h o } := .of_lanes LanePart.Gained.refl rfl rfl
  cases why with
  | none => exact hhead
  | some w =>
    cases lane with
    | none => exact hhead
    | some l => exact hhead.trans (SetRecord.addReason_gained l w _) fun _ _ _ => LanePart.Gained.trans

theorem verdict_gained (faulty : Bool) (r : SetRecord) : r.Follows LanePart.Gained (r.verdict faulty) := by
  cases faulty with
  | false => exact .of_lanes LanePart.Gained.refl rfl rfl
  | true => exact .of_map (LanePart.add_gained .registration) rfl rfl

/-! ## What a part of a boundary leaves of the sets that do not retire -/

/-- Web and lags stay, and each set that does not retire stays in the ring, its lanes gaining reasons at most. -/
structure Gains (s t : State) : Prop where
  wpu : t.wpu = s.wpu
  inspect : t.st.inspect = s.st.inspect
  gateLag : t.st.gateLag = s.st.gateLag
  sets : ∀ r ∈ s.st.ring, r.tag ≠ dueTag s → ∃ u ∈ t.st.ring, r.Follows LanePart.Gained u

theorem Gains.of_eq {s t : State} (hwpu : t.wpu = s.wpu) (hst : t.st = s.st) : Gains s t :=
  ⟨hwpu, by rw [hst], by rw [hst], fun r hr _ => ⟨r, by rwa [hst], .refl r⟩⟩

theorem Gains.refl (s : State) : Gains s s := .of_eq rfl rfl

theorem Gains.trans {s t u : State} (h : Gains s t) (g : Gains t u) : Gains s u where
  wpu := g.wpu.trans h.wpu
  inspect := g.inspect.trans h.inspect
  gateLag := g.gateLag.trans h.gateLag
  sets r hr hdue := by
    obtain ⟨v, hv, hrv⟩ := h.sets r hr hdue
    obtain ⟨w, hw, hvw⟩ := g.sets v hv (by rw [hrv.tag, dueTag_congr h.wpu h.gateLag]; exact hdue)
    exact ⟨w, hw, hrv.trans hvw fun _ _ _ => LanePart.Gained.trans⟩

theorem Gains.foldl {α : Type} {f : State → α → State} {l : List α} (h : ∀ s, ∀ x ∈ l, Gains s (f s x)) (s : State) :
    Gains s (l.foldl f s) := by
  induction l generalizing s with
  | nil => exact .refl s
  | cons x l ih =>
    exact (h s x (List.mem_cons_self ..)).trans (ih (fun s y hy => h s y (List.mem_cons_of_mem x hy)) (f s x))

theorem Gains.of_map {s t : State} {f : SetRecord → SetRecord} (hwpu : t.wpu = s.wpu)
    (hst : t.st = { s.st with ring := s.st.ring.map f }) (h : ∀ r : SetRecord, r.Follows LanePart.Gained (f r)) :
    Gains s t :=
  ⟨hwpu, by rw [hst], by rw [hst], fun r hr _ => ⟨f r, by rw [hst]; exact List.mem_map.mpr ⟨r, hr, rfl⟩, h r⟩⟩

theorem measureBoundary_gains (s : State) : Gains s (measureBoundary s) := by
  have hclose : Gains s (closeMeasurement .boundary s) := by
    cases h : s.mtu.armed with
    | none => rw [closeMeasurement_unarmed h]; exact .refl s
    | some a =>
      refine .of_map (closeMeasurement_wpu ..) (closeMeasurement_st h rfl) fun r => ?_
      split
      · exact verdict_gained _ r
      · exact .refl r
  unfold measureBoundary
  split
  · exact hclose.trans (.of_eq rfl rfl)
  · exact .of_eq rfl rfl

theorem markOutcome_gains (h : HeadId) (t : Cycle) (o : HeadOutcome) (why : Option Reason) (s : State) :
    Gains s (markOutcome h t o why s) := by
  refine .of_map rfl rfl fun r => ?_
  split
  · exact writeOutcome_gained h o why (headLaneIn s h r) r
  · exact .refl r

theorem expireHead_gains (h : HeadId) (s : State) : Gains s (expireHead h s) := by
  unfold expireHead
  split
  · exact .refl s
  · simp only []
    split
    · have hdrop : ∀ t, Gains s (dropOrder h t s) := fun _ => .of_eq rfl rfl
      exact ((hdrop _).trans (markOutcome_gains h _ .late (some .headLate) _)).trans (.of_eq rfl rfl)
    · exact .refl s

theorem issueHead_gains (h : HeadId) (s : State) : Gains s (issueHead h s) := by
  rcases issueHead_cases h s with e | ⟨p, r, -, -, -, -, ⟨o, why, e⟩ | ⟨text, e⟩⟩ <;> rw [e]
  · exact .refl s
  · exact markOutcome_gains ..
  · exact (markOutcome_gains ..).trans (.of_eq rfl rfl)

theorem headBoundary_gains (s : State) (h : HeadId) : Gains s (headBoundary s h) := by
  unfold headBoundary
  simp only []
  split
  · exact expireHead_gains h s
  · exact (expireHead_gains h s).trans (issueHead_gains h _)

theorem headStep_gains (s : State) (x : HouStep) : Gains s (headStep s x) := by
  cases x with
  | head h => exact headBoundary_gains s h
  | link l =>
    cases l with
    | chooses => exact .of_eq (sendOlder_wpu s) (sendOlder_st s)
    | ends => exact .of_eq rfl rfl

theorem handStep_gains (s : State) (x : HouStep) : Gains s (handStep s x) := by
  cases x with
  | head h =>
    unfold handStep
    simp only []
    split
    · exact issueHead_gains h s
    · exact .refl s
  | link l =>
    cases l with
    | chooses => exact .of_eq (sendOrder_wpu s) (sendOrder_st s)
    | ends => exact .of_eq rfl rfl

theorem retire_gains (s : State) : Gains s (retire s) where
  wpu := retire_wpu s
  inspect := by rw [retire_st]
  gateLag := by rw [retire_st]
  sets r hr hdue := ⟨r, by rw [retire_ring]; exact List.mem_filter.mpr ⟨hr, bne_iff_ne.mpr hdue⟩, .refl r⟩

theorem allocate_gains (s : State) : Gains s (allocate s) := by
  rcases allocate_cases s with e | ⟨k, c, r, -, -, -, hst, -⟩
  · rw [e]; exact .refl s
  · exact ⟨allocate_wpu s, by rw [hst], by rw [hst],
      fun x hx _ => ⟨x, by rw [hst]; exact List.mem_append_left _ hx, .refl x⟩⟩

theorem trackBoundary_gains (o : BoundaryOrder) (s : State) : Gains s (trackBoundary o s) := by
  have hturn : Gains s (suspension (changeover s)) := .of_eq (by simp) (turn_st s)
  have hrequests : ∀ u : State, Gains u (o.requests.foldl takeWithin u) := fun u =>
    .of_eq (takeAll_wpu ..) (takeAll_st ..)
  unfold trackBoundary
  simp only []
  split
  · exact ((hturn.trans (retire_gains _)).trans (hrequests _)).trans (allocate_gains _)
  · exact ((hturn.trans (allocate_gains _)).trans (hrequests _)).trans (retire_gains _)

theorem runPhase_gains (o : BoundaryOrder) (n : Option WebNotice) (s : State) {p : Phase} (h : p ≠ .window) :
    Gains s (runPhase o n s p) := by
  cases p with
  | measure => exact measureBoundary_gains s
  | window => exact absurd rfl h
  | track => exact trackBoundary_gains o s
  | heads => exact .foldl (fun s x _ => headStep_gains s x) s
  | webNotice =>
    cases n with
    | none => exact .refl s
    | some w => exact .of_eq rfl rfl

/-! ## The window's lanes over a whole boundary -/

/-- The tag of the set whose window a boundary closes: its age has become Q + 1 (R51, R116). -/
def windowTag (s : State) : Cycle := s.wpu.cycle - BitVec.ofNat 32 (s.st.inspect + 1)

/-- A lane over a boundary that closes its window, or does not. -/
def LanePart.Inspected (closes : Prop) (x y : LanePart) : Prop :=
  (closes ∧ x.inspection = .awaiting → y.inspection = .unread ∧ y.has .unread = true) ∧
  (¬(closes ∧ x.inspection = .awaiting) → y.inspection = x.inspection)

theorem LanePart.Inspected.after {closes : Prop} {x y z : LanePart} (h : x.Gained y) (g : y.Inspected closes z) :
    x.Inspected closes z := by
  obtain ⟨hsame, -⟩ := h
  unfold LanePart.Inspected at g ⊢
  rwa [hsame] at g

theorem LanePart.Inspected.then {closes : Prop} {x y z : LanePart} (h : x.Inspected closes y) (g : y.Gained z) :
    x.Inspected closes z :=
  ⟨fun hx => (h.1 hx).imp g.1.trans (g.2 .unread), fun hx => g.1.trans (h.2 hx)⟩

theorem LanePart.closeWindow_inspected {closes : Prop} (h : closes) (x : LanePart) : x.Inspected closes x.closeWindow := by
  unfold LanePart.Inspected LanePart.closeWindow
  by_cases hx : x.inspection = .awaiting
  · have hbit : (({ x with inspection := .unread } : LanePart).add .unread).has .unread = true := by
      simp [LanePart.has, LanePart.add, Reason.index]
    rw [if_pos hx]
    exact ⟨fun _ => ⟨rfl, hbit⟩, fun hn => absurd ⟨h, hx⟩ hn⟩
  · rw [if_neg hx]
    exact ⟨fun hx' => absurd hx'.2 hx, fun _ => rfl⟩

/-- The window's close meets each set by its tag. -/
theorem closeWindow_sets {s : State} {r : SetRecord} (hr : r ∈ s.st.ring) :
    ∃ u ∈ (closeWindow s).st.ring, r.Follows (LanePart.Inspected (r.tag = windowTag s)) u := by
  refine ⟨_, List.mem_map.mpr ⟨r, hr, rfl⟩, ?_⟩
  unfold windowTag
  by_cases hw : r.tag = s.wpu.cycle - BitVec.ofNat 32 (s.st.inspect + 1)
  · rw [if_pos hw]
    exact .of_map (LanePart.closeWindow_inspected hw) rfl rfl
  · rw [if_neg hw]
    exact .of_lanes (fun x => ⟨fun h => absurd h.1 hw, fun _ => rfl⟩) rfl rfl

/-- In whatever order the blocks take the boundary, the window closes once, and the others let lanes gain reasons alone. -/
theorem boundaryWork_sets (o : BoundaryOrder) (n : Option WebNotice) {s : State} {r : SetRecord} (hr : r ∈ s.st.ring)
    (hdue : r.tag ≠ dueTag s) :
    ∃ u ∈ (boundaryWork o n s).st.ring, r.Follows (LanePart.Inspected (r.tag = windowTag s)) u := by
  unfold boundaryWork
  have hperm := permute_perm o.blocks [Phase.measure, .window, .track, .heads, .webNotice]
  have hnodup := hperm.nodup_iff.mpr (by decide)
  obtain ⟨before, after, hsplit⟩ := List.append_of_mem (hperm.mem_iff.mpr (show Phase.window ∈ _ by decide))
  rw [hsplit] at hnodup ⊢
  obtain ⟨-, hlater, hapart⟩ := List.nodup_append.mp hnodup
  rw [List.foldl_append, List.foldl_cons]
  have hbefore : Gains s (before.foldl (runPhase o n) s) :=
    .foldl (fun s p hp => runPhase_gains o n s (hapart p hp _ (List.mem_cons_self ..))) s
  generalize before.foldl (runPhase o n) s = v at hbefore ⊢
  have hafter : Gains (closeWindow v) (handOver o (after.foldl (runPhase o n) (closeWindow v))) :=
    (Gains.foldl (fun s p hp => runPhase_gains o n s fun e => (List.nodup_cons.mp hlater).1 (e ▸ hp)) _).trans
      (.foldl (fun s x _ => handStep_gains s x) _)
  obtain ⟨x, hx, hrx⟩ := hbefore.sets r hr hdue
  obtain ⟨y, hy, hxy⟩ := closeWindow_sets hx
  have hwindow : windowTag v = windowTag s := by rw [windowTag, hbefore.wpu, hbefore.inspect]; rfl
  have hkept : y.tag ≠ dueTag (closeWindow v) := by
    rw [hxy.tag, hrx.tag, show dueTag (closeWindow v) = dueTag v from rfl, dueTag_congr hbefore.wpu hbefore.gateLag]
    exact hdue
  obtain ⟨z, hz, hyz⟩ := hafter.sets y hy hkept
  rw [hrx.tag, hwindow] at hxy
  exact ⟨z, hz, (hrx.trans hxy fun _ _ _ => LanePart.Inspected.after).trans hyz fun _ _ _ => LanePart.Inspected.then⟩

/-- Settles O31: the close of the window by its own equation; over a whole boundary, which closes it once. -/
theorem windowClosed : Obligations.WindowClosed := by
  refine ⟨closeWindow_eq, fun o pos n s r _ hr hdue => ?_⟩
  let v : State := { s with choices := s.choices + 1, wpu := s.wpu.openCycle o pos }
  have hwindow : windowTag v = s.wpu.cycle - BitVec.ofNat 32 s.st.inspect := by
    have hnext : s.wpu.cycle + 1 - BitVec.ofNat 32 (s.st.inspect + 1) = s.wpu.cycle - BitVec.ofNat 32 s.st.inspect := by
      rw [BitVec.ofNat_add]; bv_omega
    exact hnext
  obtain ⟨u, hu, htag, hlength, hlanes⟩ := boundaryWork_sets (chosenOrder s) n (s := v) hr hdue
  refine ⟨u, hu, htag, hlength, fun i x hx => ?_⟩
  obtain ⟨y, hy, hcloses, hkeeps⟩ := hlanes i x hx
  rw [hwindow] at hcloses hkeeps
  refine ⟨y, hy, ?_⟩
  split
  · next h => exact hcloses h
  · next h => exact hkeeps h

end Sys2Proof.Machine
end

section
/-! PROOFS. Spoilage: the disposition of a number in a rejected lane, its record and its move between the counters; and the
withdrawal of a queued number. -/

namespace Sys2Proof.Machine

/-! ## WITHDRAW_REPRINT (R135, R138) -/

/-- The queue that an entry leaves is empty exactly when it held that entry alone. -/
theorem Sequence.withdraw_queue_isEmpty {x : Sequence} {v : Nat} {e : QueueEntry}
    (he : x.queue.find? (fun e => e.value == v) = some e) :
    (x.withdraw v).queue.isEmpty = decide (x.queue.length = 1) := by
  have hmem : e ∈ x.queue := List.mem_of_find?_eq_some he
  have hvalue : e.value = v := by simpa using List.find?_some he
  have hlength : (x.withdraw v).queue.length = x.queue.length - 1 :=
    List.length_eraseP_of_mem hmem (beq_iff_eq.mpr hvalue)
  have hpos : 0 < x.queue.length := List.length_pos_of_mem hmem
  rw [Bool.eq_iff_iff, List.isEmpty_iff_length_eq_zero, hlength, decide_eq_true_iff]
  omega

section
variable {s : State} {k : SlotId} {q : SeqId} {v : Nat} {c : Context} {x : Sequence}
variable (hc : s.slots[(k : Nat)] = some c) (hx : c.sequences[(q : Nat)] = some x)
include hc hx

theorem withdrawEntry_eq (e : QueueEntry) :
    withdrawEntry k c q e s =
      journalUnreserved k c.job s.wpu.cycle (.voidedQueued q e.value .withdrawn e.reason e.spoil)
        { s with slots := s.slots.set k (some { c with
          sequences := c.sequences.set q (some (x.withdraw e.value)) }) } := by
  rw [withdrawEntry, modifySequence_of_some hc hx]

variable (hv : v ≤ 9999999999)
include hv

theorem replyWithdrawReprint_queued {e : QueueEntry} (he : x.queue.find? (fun e => e.value == v) = some e)
    (hroom : 1 ≤ s.ij.unreserved) :
    replyWithdrawReprint k q v s =
      .accept (withdrawEntry k c q e s) (withdrawnBytes e (decide (x.queue.length = 1))) := by
  simp [replyWithdrawReprint, hv, maxValue, inState_some hc, defined_some hx, he, journalRoom, hroom,
    Sequence.withdraw_queue_isEmpty he]

theorem replyWithdrawReprint_absent (hnone : ∀ e ∈ x.queue, e.value ≠ v) :
    replyWithdrawReprint k q v s = .accept s [Config.withdrawOutcomeCode false] := by
  have hfind : x.queue.find? (fun e => e.value == v) = none :=
    List.find?_eq_none.mpr fun e he => by simpa using hnone e he
  simp [replyWithdrawReprint, hv, maxValue, inState_some hc, defined_some hx, hfind]

end

/-- Settles O18: the entry that the queue is searched for is the one that leaves it; without one the request answers alone. -/
theorem reprintWithdrawn : Obligations.ReprintWithdrawn := by
  intro p s k q v c x hc hx hv
  refine ⟨fun e he hroom => ?_, fun hnone => ?_⟩
  · obtain rfl : e.value = v := by simpa using List.find?_some he
    exact acceptedAs_of_reply rfl ((replyWithdrawReprint_queued (s := takenOn p s) hc hx hv he hroom).trans
      (congrArg (Reply.accept · _) (withdrawEntry_eq (s := takenOn p s) hc hx e)))
  · exact acceptedAs_of_reply rfl (replyWithdrawReprint_absent (s := takenOn p s) hc hx hv hnone)

/-! ## The disposition (R128) -/

/-- The first row of the table that matches. -/
theorem dispose_eq (policy : SpoilPolicy) (limit spoil : Nat) (queue : List QueueEntry) (v : Nat) :
    dispose policy limit spoil queue v =
      if policy = .void then .voided
      else if limit < spoil then .voidedLimit
      else if queue.length ≥ 32 ∨ ∃ e ∈ queue, e.value = v then .voidedQueueFull
      else .requeued := by
  cases policy with
  | void => rfl
  | reprint => simp [dispose]

/-! ## The move and the record of a spoiled number (R129, R130) -/

/-- The sequence of a spoiled number after its disposition: the number joins the queue as the entry, or is voided. -/
def Sequence.disposed (d : Disposition) (e : QueueEntry) (x : Sequence) : Sequence :=
  if d = .requeued then x.requeue e else x.heldToVoided

/-- A SPOILED record merges with no tail (R145). -/
theorem merge_spoiled (j : Journal) (k : SlotId) (job : Nat) (q : SeqId) (l : LaneId) (v : Nat) (d : Disposition)
    (why : Reason) (spoil : Nat) : j.merge k job (.spoiled q l v d why spoil) = none :=
  Journal.merge_eq_none fun _ r _ _ _ _ _ => by cases r.body <;> rfl

section
variable {k : SlotId} {q : SeqId} {a : Settling} {c : Context} {x : Sequence}
variable (hc : a.state.slots[(k : Nat)] = some c) (hx : c.sequences[(q : Nat)] = some x)
include hc hx

/-- A record that merges with no tail takes one record of the reservation, and a number of its sequence moves. -/
theorem Settling.write_appends_and_moves {b : RecordBody} (hnone : a.state.ij.merge k c.job b = none)
    (f : Sequence → Sequence) :
    { a.write k c.job b with state := modifySequence k q f (a.write k c.job b).state } =
      { state := { a.state with
          ij := { a.state.ij.append k c.job a.state.wpu.cycle b with reserved := a.state.ij.reserved - 1 },
          slots := a.state.slots.set k (some { c with sequences := c.sequences.set q (some (f x)) }) },
        left := a.left - 1 } := by
  have hw : (a.write k c.job b).state.slots[(k : Nat)] = some c := by rw [Settling.write_state_slots, hc]
  rw [modifySequence_of_some hw hx, Settling.write_appends hnone]

/-- The record and the move of a spoiled number, by the disposition under its context and queue as they stand. -/
theorem spoilNumber_eq {n : Number} {d : Disposition}
    (hd : dispose c.policy c.limit (n.spoil + 1) x.queue n.value = d) (l : LaneId) (why : Reason) (tag : Cycle) :
    spoilNumber k q l why tag n a =
      { state := { a.state with
          ij := { a.state.ij.append k c.job a.state.wpu.cycle (.spoiled q l n.value d why (n.spoil + 1)) with
            reserved := a.state.ij.reserved - 1 },
          slots := a.state.slots.set k (some { c with sequences := c.sequences.set q (some (x.disposed d
            { value := n.value, spoil := n.spoil + 1, reason := why, tag := tag })) }) },
        left := a.left - 1 } := by
  simp only [spoilNumber, Fin.getElem_fin, hc, hx, hd]
  rw [Settling.write_appends_and_moves hc hx (merge_spoiled ..)]
  cases d <;> rfl

end

/-! ## The entries of a rejected lane (R120, R128) -/

theorem settleEntry_spoiled {r : SetRecord} {l : LaneId} {part : LanePart} {a : Settling} {e : EntryPart} {n : Number}
    {q : SeqId} {why : Reason} (hl : e.lane = l) (hn : e.state = .numbered n) (hq : e.sequence = some q)
    (ho : n.origin = .fresh ∨ n.origin = .reprint) (hbad : part.reasons ≠ 0) (hwhy : part.primary = some why) :
    settleEntry r l part a e = spoilNumber r.slot q l why r.tag n a := by
  have hrej : part.rejected = true := bne_iff_ne.mpr hbad
  rcases ho with ho | ho <;> simp [settleEntry, hl, hn, hq, ho, hrej, hwhy]

/-- Settles O34: the entry is spoiled for the lane's primary reason, and takes the first row of the table that matches. -/
theorem spoiledNumberDisposed : Obligations.SpoiledNumberDisposed :=
  ⟨fun _ _ _ _ _ _ _ _ hl hn hq ho hbad hwhy => settleEntry_spoiled hl hn hq ho hbad hwhy,
    fun _ _ l why tag _ _ _ _ hc hx => spoilNumber_eq hc hx (dispose_eq ..) l why tag⟩

end Sys2Proof.Machine
end

section
/-! PROOFS. The requests on the journal: READ_JOURNAL delivers and marks records, RELEASE_JOURNAL frees the READ ones at the
front. -/

namespace Sys2Proof.Machine

/-! ## The place of an index (R141, R151) -/

section
variable {j : Journal}

/-- Held indices count back from the next one, so the oldest lies as far behind it as records are held. -/
theorem Journal.indexed.oldest_eq (h : j.indexed) {o : Cycle} (ho : j.oldest = some o) :
    o = j.next - BitVec.ofNat 32 j.records.length := by
  obtain ⟨r, hr, rfl⟩ := Option.map_eq_some_iff.mp ho
  exact h 0 r (by rw [← List.head?_eq_getElem?, hr])

theorem Journal.indexed.record_sub_oldest (h : j.indexed) {o : Cycle} (ho : j.oldest = some o) {i : Nat} {r : Record}
    (hr : j.records[i]? = some r) : r.index - o = BitVec.ofNat 32 i := by
  obtain ⟨hi, -⟩ := List.getElem?_eq_some_iff.mp hr
  have hsum : BitVec.ofNat 32 j.records.length = BitVec.ofNat 32 (j.records.length - i) + BitVec.ofNat 32 i := by
    rw [← BitVec.ofNat_add, Nat.sub_add_cancel hi.le]
  rw [h.oldest_eq ho, h i r hr, hsum]
  bv_omega

variable (hindex : j.indexed)
include hindex

/-- An index within the held count beyond the oldest is that of the record there. -/
theorem Journal.startAt_absent {x : Cycle} (hnone : ∀ r ∈ j.records, r.index ≠ x) (hnext : j.next ≠ x) :
    j.startAt x = none := by
  cases ho : j.oldest with
  | none => simp [Journal.startAt, ho, hnext.symm]
  | some o =>
    have hbeyond : ¬(x - o).toNat < j.records.length := fun hlt => by
      have hr := List.getElem?_eq_getElem hlt
      have hplace := hindex.record_sub_oldest ho hr
      rw [BitVec.ofNat_toNat, BitVec.setWidth_eq] at hplace
      exact hnone _ (List.mem_of_getElem? hr) (by bv_omega)
    simp only [Journal.startAt, ho, if_neg hbeyond, if_neg hnext.symm]

variable (hlen : j.records.length ≤ 1024)
include hlen

theorem Journal.startAt_record {i : Nat} {r : Record} (hr : j.records[i]? = some r) : j.startAt r.index = some i := by
  obtain ⟨hi, -⟩ := List.getElem?_eq_some_iff.mp hr
  obtain ⟨o, ho⟩ : ∃ o, j.oldest = some o := by
    rw [Journal.oldest, List.head?_eq_getElem?, List.getElem?_eq_getElem (i.zero_le.trans_lt hi)]; exact ⟨_, rfl⟩
  have hplace : (r.index - o).toNat = i := by
    rw [hindex.record_sub_oldest ho hr, BitVec.toNat_ofNat, Nat.mod_eq_of_lt (by omega)]
  simp [Journal.startAt, ho, hplace, hi]

theorem Journal.startAt_next : j.startAt j.next = some j.records.length := by
  cases ho : j.oldest with
  | none =>
    have hempty : j.records = [] := by simpa [Journal.oldest] using ho
    simp [Journal.startAt, ho, hempty]
  | some o =>
    have hplace : (j.next - o).toNat = j.records.length := by
      have hsub : j.next - o = BitVec.ofNat 32 j.records.length := by rw [hindex.oldest_eq ho]; bv_omega
      rw [hsub, BitVec.toNat_ofNat, Nat.mod_eq_of_lt (by omega)]
    simp [Journal.startAt, ho, hplace]

end

/-! ## READ_JOURNAL (R151, R152, R198) -/

/-- From the next index there is nothing to deliver. -/
theorem Journal.delivered_length_records (j : Journal) (n : Nat) : j.delivered j.records.length n = [] := by
  simp [Journal.delivered, fitting]

/-- A read that delivers nothing marks nothing and leaves the tail. -/
theorem Journal.markRead_zero (j : Journal) (start : Nat) : j.markRead start 0 = j := by
  have hnever : ∀ i, ¬(start ≤ i ∧ i < start + 0) := fun i => by omega
  have hsame : j.records.mapIdx (fun _ r => r) = j.records := List.ext_getElem? fun i => by simp
  simp only [Journal.markRead, hnever, lt_irrefl, false_and, if_false, hsame]

theorem replyReadJournal_found {s : State} {i n start : Nat} (hn : 1 ≤ n)
    (h : s.ij.startAt (BitVec.ofNat 32 i) = some start) :
    replyReadJournal i n s =
      .accept { s with ij := s.ij.markRead start (s.ij.delivered start n).length }
        (journalFields s.ij (s.ij.delivered start n).length ++ (s.ij.delivered start n).flatMap recordBytes) := by
  simp [replyReadJournal, require, h, Nat.one_le_iff_ne_zero.mp hn]

theorem replyReadJournal_absent {s : State} {i n : Nat} (hn : 1 ≤ n) (h : s.ij.startAt (BitVec.ofNat 32 i) = none) :
    replyReadJournal i n s = .refuse .notFound (journalFields s.ij 0) := by
  simp [replyReadJournal, require, h, Nat.one_le_iff_ne_zero.mp hn]

/-! ## RELEASE_JOURNAL (R153, R154) -/

/-- Without records no through index sets a limit (R153). -/
theorem Journal.withinLimit_nil {j : Journal} (h : j.records = []) (through : Cycle) : j.withinLimit through = 0 := by
  simp [Journal.withinLimit, Journal.oldest, h]

theorem Journal.withinLimit_cons {j : Journal} {o : Record} {rs : List Record} (h : j.records = o :: rs) (through : Cycle) :
    j.withinLimit through =
      if (through - o.index).toNat < j.records.length then (through - o.index).toNat + 1
      else if (through - o.index).toNat < 2 ^ 31 then j.records.length else 0 := by
  simp only [Journal.withinLimit, Journal.oldest, h, List.head?_cons, Option.map_some]

/-- A release within a limit frees the READ records at the front of those within it (R153). -/
theorem replyReleaseJournal_within {s : State} {through limit : Nat}
    (h : s.ij.withinLimit (BitVec.ofNat 32 through) = limit) :
    let n := ((s.ij.records.take limit).takeWhile Record.read).length
    replyReleaseJournal through s =
      .accept (releaseRecords n s)
        (be 2 n ++ optBytes wordBytes (releaseRecords n s).ij.oldest ++ wordBytes (releaseRecords n s).ij.next ++
          be 2 (releaseRecords n s).ij.unreserved) := by
  subst h; rfl

/-- Settles O35: a from index starts at its record, at the next place, or nowhere; a release frees the READ records at the
front of those within its limit. -/
theorem journalReadAndReleased : Obligations.JournalReadAndReleased := by
  refine ⟨fun p s n hn hindex hlen => ⟨fun i r hr => ?held, ?next, fun i hi hnone hnext => ?absent⟩,
    fun p s through => ?release⟩
  case held =>
    have hstart : s.ij.startAt (BitVec.ofNat 32 r.index.toNat) = some i := by
      simpa using Journal.startAt_record hindex hlen hr
    exact acceptedAs_of_reply rfl (replyReadJournal_found (s := takenOn p s) hn hstart)
  case next =>
    have hstart : s.ij.startAt (BitVec.ofNat 32 s.ij.next.toNat) = some s.ij.records.length := by
      simpa using Journal.startAt_next hindex hlen
    refine acceptedAs_of_reply rfl ((replyReadJournal_found (s := takenOn p s) hn hstart).trans ?_)
    simp only [takenOn_ij, Journal.delivered_length_records, List.length_nil, Journal.markRead_zero, List.flatMap_nil,
      List.append_nil]
    rfl
  case absent =>
    have hstart : s.ij.startAt (BitVec.ofNat 32 i) = none := by
      have hval : (BitVec.ofNat 32 i).toNat = i := by rw [BitVec.toNat_ofNat, Nat.mod_eq_of_lt hi]
      exact Journal.startAt_absent hindex
        (fun r hr e => hnone r hr (by rw [e, hval])) (fun e => hnext (by rw [e, hval]))
    exact refusedAs_of_reply rfl (replyReadJournal_absent (s := takenOn p s) hn hstart)
  case release =>
    refine acceptedAs_of_reply rfl (replyReleaseJournal_within (s := takenOn p s) ?_)
    change s.ij.withinLimit _ = _
    cases hrecords : s.ij.records with
    | nil => exact Journal.withinLimit_nil hrecords _
    | cons o rs => simpa only [hrecords] using Journal.withinLimit_cons hrecords _

end Sys2Proof.Machine
end

section
/-! PROOFS. The requests on a job context: it is opened, discarded, closed and reopened, activated and withdrawn. -/

namespace Sys2Proof.Machine

/-! ## OPEN_CONTEXT, DISCARD, CLOSE_BUILD and REOPEN (R161 to R165) -/

theorem spoilPolicy_ofCode {n : Nat} {pol : SpoilPolicy} (h : n = 0 ∧ pol = .reprint ∨ n = 1 ∧ pol = .void) :
    SpoilPolicy.ofCode n = some pol := by
  rcases h with ⟨rfl, rfl⟩ | ⟨rfl, rfl⟩ <;> rfl

theorem jobElsewhere_eq_false {s : State} {k : SlotId} {job : Nat} :
    jobElsewhere s k job = false ↔
      ∀ (j : SlotId) (c : Context), j ≠ k → s.slots[(j : Nat)] = some c → c.job ≠ job := by
  simp only [jobElsewhere, List.any_eq_false, List.mem_finRange, Bool.and_eq_true, bne_iff_ne, Option.any_eq_true, beq_iff_eq,
    Fin.getElem_fin, forall_const]
  exact ⟨fun h j c hj hc he => h j ⟨hj, c, hc, he⟩, fun h j ⟨hj, c, hc, he⟩ => h j c hj hc he⟩

theorem replyOpenContext_accept {s : State} {k : SlotId} {job lanes po lim : Nat} {pol : SpoilPolicy} (hjob : job ≤ 99999)
    (hlanes : 1 ≤ lanes ∧ lanes ≤ 4) (hlim : 1 ≤ lim ∧ lim ≤ 7) (hpol : SpoilPolicy.ofCode po = some pol)
    (hempty : s.slots[(k : Nat)] = none)
    (hother : ∀ (j : SlotId) (c : Context), j ≠ k → s.slots[(j : Nat)] = some c → c.job ≠ job) :
    replyOpenContext k job lanes po lim s =
      .accept (notifyJob k (some job) none (some .building) (setSlot k (some (openedContext job lanes pol lim)) s)) [] := by
  simp [replyOpenContext, hjob, hlanes, hlim, hpol, coded, jobElsewhere_eq_false.mpr hother, hempty]

theorem notBusy_free {s : State} {k : SlotId} (h : busySlotOf s.background ≠ some k) (r : Reply) : notBusy s k r = r := by
  rw [notBusy, bne_iff_ne.mpr h, require_true]

section
variable {s : State} {k : SlotId} {c : Context} (hc : s.slots[(k : Nat)] = some c)
include hc

theorem replyDiscard_accept (hb : c.state = .building) (hfree : busySlotOf s.background ≠ some k) :
    replyDiscard k s = .accept (notifyJob k none (some .building) none (setSlot k none s)) [] := by
  rw [replyDiscard, named_fin, inState_some hc, if_pos (beq_iff_eq.mpr hb), notBusy_free hfree]

theorem replyCloseBuild_building (hb : c.state = .building) :
    replyCloseBuild k s = consistent c.buildFailure
      (.accept (notifyJob k (some c.job) (some .building) (some .ready)
        { s with slots := s.slots.set k (some (c.enter .ready)) }) []) := by
  rw [replyCloseBuild, named_fin, inState_some hc, if_pos (beq_iff_eq.mpr hb), modifyContext_of_some hc]

theorem replyReopen_accept (hr : c.state = .ready) (hpending : NotPending k s) (hfree : busySlotOf s.background ≠ some k) :
    replyReopen k s = .accept (notifyJob k (some c.job) (some .ready) (some .building)
      { s with slots := s.slots.set k (some (c.enter .building)) }) [] := by
  rw [replyReopen, named_fin, inState_some hc, if_pos (beq_iff_eq.mpr hr), isPendingSlot_eq_false.mpr hpending, Bool.not_false,
    require_true, notBusy_free hfree, modifyContext_of_some hc]

end

/-- Settles O36: each of the four requests meets its checks; CLOSE_BUILD by what its consistency checks come to. -/
theorem contextBuilt : Obligations.ContextBuilt := by
  intro p s k
  refine ⟨fun job lanes po lim pol hjob hl hl' hlim hlim' hpol hempty hother => ?_, fun c hc hb hfree => ?_,
    fun c hc hb => ⟨fun hpass => ?_, fun number item hfail => ?_⟩, fun c hc hr hpending hfree => ?_⟩
  · exact acceptedAs_of_reply rfl (replyOpenContext_accept (s := takenOn p s) hjob ⟨hl, hl'⟩ ⟨hlim, hlim'⟩
      (spoilPolicy_ofCode hpol) hempty hother)
  · exact acceptedAs_of_reply rfl (replyDiscard_accept (s := takenOn p s) hc hb hfree)
  · refine acceptedAs_of_reply rfl ((replyCloseBuild_building (s := takenOn p s) hc hb).trans ?_)
    rw [hpass]; rfl
  · refine refusedAs_of_reply rfl ((replyCloseBuild_building (s := takenOn p s) hc hb).trans ?_)
    rw [hfail]; rfl
  · exact acceptedAs_of_reply rfl (replyReopen_accept (s := takenOn p s) hc hr hpending hfree)

/-! ## ACTIVATE and CANCEL_ACTIVATION (R166, R168) -/

/-- NEXT is the cycle after the present one; a named cycle is itself while it lies ahead. -/
theorem effectiveCycle_of_ahead {now x : Cycle} {w : Option Nat}
    (h : w = none ∧ x = now + 1 ∨ w = some x.toNat ∧ 1 ≤ (x - now).toNat ∧ (x - now).toNat < 2 ^ 31)
    (f : Cycle → Reply) : effectiveCycle now w f = f x := by
  rcases h with ⟨rfl, rfl⟩ | ⟨rfl, hlow, hhigh⟩
  · rfl
  · have hahead : (decide (x.toNat < 2 ^ 32) && (x - now).toNat != 0 && decide ((x - now).toNat < 2 ^ 31)) = true := by
      simp only [x.isLt, bne_iff_ne.mpr (Nat.one_le_iff_ne_zero.mp hlow), hhigh, decide_true, Bool.and_true]
    simp only [effectiveCycle, BitVec.ofNat_toNat, BitVec.setWidth_eq, hahead, require_true]

theorem isIdle_origin {j : JobState} (h : j = .ready ∨ j = .parked) :
    j.origin = if j = .parked then .parked else .ready := by
  rcases h with rfl | rfl <;> rfl

theorem slotIn_isNone {s : State} {j : JobState} (h : ∀ k : SlotId, slotState s k ≠ some j) :
    (slotIn s j).isNone = true := by
  rw [← Option.not_isSome, Bool.not_eq_true', ← Bool.not_eq_true, slotIn_isSome]
  exact fun ⟨k, hk⟩ => h k hk

theorem replyActivate_accept {s : State} {k : SlotId} {c : Context} {w : Option Nat} {x : Cycle}
    (hc : s.slots[(k : Nat)] = some c) (hidle : c.state = .ready ∨ c.state = .parked)
    (hfree : busySlotOf s.background ≠ some k) (hdrain : ∀ j : SlotId, slotState s j ≠ some .draining)
    (hnone : s.activation = none) (hpress : pressFailure s c = none) (hroom : 1 ≤ s.ij.unreserved)
    (hx : ∀ f : Cycle → Reply, effectiveCycle s.wpu.cycle w f = f x) :
    replyActivate k w s = .accept (makePending k c x s) (wordBytes x) := by
  have hquiet : ((slotIn s .draining).isNone && s.activation.isNone) = true := by rw [slotIn_isNone hdrain, hnone]; rfl
  rw [replyActivate, named_fin, hx, inState_some hc, if_pos (isIdle_iff.mpr hidle), notBusy_free hfree, hquiet, require_true,
    hpress, consistent, journalRoom, decide_eq_true hroom, require_true]

/-- Settles O38: an activation that meets its checks becomes pending; a withdrawal by whether one is pending. -/
theorem activationPendingAndWithdrawn : Obligations.ActivationPendingAndWithdrawn := by
  refine ⟨fun p s k c w x hc hidle hfree hdrain hnone hpress hroom hx => ?_, fun p s a ha => ?_, fun p s hnone => ?_⟩
  · refine acceptedAs_of_reply rfl ((replyActivate_accept (s := takenOn p s) hc hidle hfree hdrain hnone hpress hroom
      (effectiveCycle_of_ahead hx)).trans ?_)
    rw [makePending, isIdle_origin hidle]
    rfl
  · refine acceptedAs_of_reply rfl ?_
    simp only [replyCancelActivation, takenOn_activation, ha, withdrawActivation, returnContext, slotState,
      returnReserved_slots]
    rfl
  · refine refusedAs_of_reply rfl ?_
    simp only [replyCancelActivation, takenOn_activation, hnone]

end Sys2Proof.Machine
end

section
/-! PROOFS. END_JOB: the records that a run of writes appends to the journal, the voiding of a slot's queues, and what the
end of a job comes to. -/

namespace Sys2Proof.Machine

/-! ## A run of records from one slot (R143) -/

/-- The journal after records of one slot and job, of one stamp, were appended in order. -/
def Journal.appendAll (slot : SlotId) (job : Nat) (stamp : Cycle) (bs : List RecordBody) (j : Journal) : Journal :=
  bs.foldl (fun j b => j.append slot job stamp b) j

section
variable (slot : SlotId) (job : Nat) (stamp : Cycle)

theorem Journal.appendAll_append (bs cs : List RecordBody) (j : Journal) :
    j.appendAll slot job stamp (bs ++ cs) = (j.appendAll slot job stamp bs).appendAll slot job stamp cs :=
  List.foldl_append

/-- The held records stay in front, and the bodies follow in order. -/
theorem Journal.appendAll_records (bs : List RecordBody) (j : Journal) :
    ∃ rs : List Record, (j.appendAll slot job stamp bs).records = j.records ++ rs ∧ rs.map Record.body = bs := by
  induction bs generalizing j with
  | nil => exact ⟨[], (List.append_nil _).symm, rfl⟩
  | cons b bs ih =>
    obtain ⟨rs, hrecords, hbodies⟩ := ih (j.append slot job stamp b)
    refine ⟨{ index := j.next, job := job, stamp := stamp, body := b, read := false } :: rs, ?_,
      congrArg (b :: ·) hbodies⟩
    rw [Journal.appendAll, List.foldl_cons, ← Journal.appendAll, hrecords, Journal.append, List.append_assoc,
      List.singleton_append]

theorem Journal.appendAll_bodies (bs : List RecordBody) (j : Journal) :
    (j.appendAll slot job stamp bs).records.map Record.body = j.records.map Record.body ++ bs := by
  obtain ⟨rs, hrecords, hbodies⟩ := Journal.appendAll_records slot job stamp bs j
  rw [hrecords, List.map_append, hbodies]

theorem Journal.appendAll_take (bs : List RecordBody) (j : Journal) :
    (j.appendAll slot job stamp bs).records.take j.records.length = j.records := by
  obtain ⟨rs, hrecords, -⟩ := Journal.appendAll_records slot job stamp bs j
  rw [hrecords, List.take_left]

theorem Journal.appendAll_next (bs : List RecordBody) (j : Journal) :
    (j.appendAll slot job stamp bs).next = j.next + BitVec.ofNat 32 bs.length := by
  induction bs generalizing j with
  | nil => exact (BitVec.add_zero _).symm
  | cons b bs ih =>
    calc ((j.append slot job stamp b).appendAll slot job stamp bs).next
        = j.next + 1 + BitVec.ofNat 32 bs.length := ih _
      _ = j.next + BitVec.ofNat 32 (bs.length + 1) := by
          rw [BitVec.ofNat_add]; bv_omega

/-- The reservations and the records that wait. -/
def Journal.claims (j : Journal) : Nat × Vector Nat 4 × List Deferred := (j.reserved, j.contextReserved, j.deferred)

theorem Journal.appendAll_claims (bs : List RecordBody) (j : Journal) :
    (j.appendAll slot job stamp bs).claims = j.claims :=
  foldl_keeps Journal.claims (g := fun j b => j.append slot job stamp b) (fun _ _ => rfl) bs j

end

/-! ## The voiding of one queue (R138, R174) -/

theorem voidOldest_iterate (n : Nat) (x : Sequence) :
    Sequence.voidOldest^[n] x =
      { x with voided := x.voided + BitVec.ofNat 48 n, queued := x.queued - BitVec.ofNat 48 n, queue := x.queue.drop n } := by
  induction n with
  | zero => simp
  | succ n ih =>
    rw [Function.iterate_succ_apply', ih, Sequence.voidOldest, List.tail_drop, BitVec.ofNat_add, BitVec.add_assoc,
      BitVec.sub_sub]
    rfl

/-- The sequence once its whole queue is voided. -/
def Sequence.drained (x : Sequence) : Sequence :=
  { x with voided := x.voided + BitVec.ofNat 48 x.queue.length, queued := x.queued - BitVec.ofNat 48 x.queue.length,
           queue := [] }

theorem voidOldest_queue (x : Sequence) : Sequence.voidOldest^[x.queue.length] x = x.drained := by
  rw [voidOldest_iterate, List.drop_length]; rfl

/-- The record of a queued number that ends with its job. -/
def endedBody (q : SeqId) (e : QueueEntry) : RecordBody := .voidedQueued q e.value .ended e.reason e.spoil

theorem sequenceOf_modifySequence (k : SlotId) (q p : SeqId) (f : Sequence → Sequence) (s : State) :
    sequenceOf (modifySequence k q f s) k p = (sequenceOf s k p).map (if p = q then f else id) := by
  simp only [sequenceOf, modifySequence, modifyContext_slots, Fin.getElem_fin, updateAt_getElem_same]
  cases s.slots[(k : Nat)] with
  | none => rfl
  | some c =>
    simp only [Option.map_some, Option.bind_some, Context.modifySequence]
    by_cases h : p = q
    · subst h; simp
    · simp [h, updateAt_get_ne _ _ _ _ (Ne.symm h)]

section
variable (k : SlotId) (job : Nat)

theorem endEntry_sequenceOf (q p : SeqId) (s : State) (e : QueueEntry) :
    sequenceOf (endEntry k job q s e) k p = (sequenceOf s k p).map (if p = q then Sequence.voidOldest else id) := by
  rw [← sequenceOf_modifySequence]
  simp only [sequenceOf, endEntry, journalUnreserved_slots]

theorem endEntries_sequenceOf (q p : SeqId) (l : List QueueEntry) (s : State) :
    sequenceOf (l.foldl (endEntry k job q) s) k p =
      (sequenceOf s k p).map (if p = q then Sequence.voidOldest^[l.length] else id) := by
  induction l generalizing s with
  | nil => simp
  | cons e l ih =>
    rw [List.foldl_cons, ih, endEntry_sequenceOf, Option.map_map]
    split <;> rfl

theorem endEntries_wpu (q : SeqId) (l : List QueueEntry) (s : State) :
    (l.foldl (endEntry k job q) s).wpu = s.wpu :=
  foldl_keeps State.wpu (fun s e => by simp [endEntry]) l s

theorem endEntries_ij (q : SeqId) (l : List QueueEntry) (s : State) :
    (l.foldl (endEntry k job q) s).ij = s.ij.appendAll k job s.wpu.cycle (l.map (endedBody q)) := by
  induction l generalizing s with
  | nil => rfl
  | cons e l ih =>
    have hwpu : (endEntry k job q s e).wpu = s.wpu := endEntries_wpu k job q [e] s
    have hij : (endEntry k job q s e).ij = s.ij.append k job s.wpu.cycle (endedBody q e) := journalUnreserved_ij ..
    rw [List.foldl_cons, ih, hwpu, hij]
    rfl

/-! ## The voiding of all queues -/

/-- The queues of some sequences of a slot are voided, in that order. -/
def endQueuesOf (l : List SeqId) (s : State) : State :=
  l.foldl (fun s q => (queueOf s k q).foldl (endEntry k job q) s) s

theorem endQueues_eq (s : State) : endQueues k job s = endQueuesOf k job (List.finRange 8) s := rfl

theorem endQueuesOf_cons (q : SeqId) (l : List SeqId) (s : State) :
    endQueuesOf k job (q :: l) s = endQueuesOf k job l ((queueOf s k q).foldl (endEntry k job q) s) := rfl

/-- The voiding of a sequence's whole queue. -/
theorem endQueue_sequenceOf (q p : SeqId) (s : State) :
    sequenceOf ((queueOf s k q).foldl (endEntry k job q) s) k p =
      (sequenceOf s k p).map (if p = q then Sequence.drained else id) := by
  rw [endEntries_sequenceOf]
  split
  · rename_i h; subst h
    cases hx : sequenceOf s k p with
    | none => rfl
    | some x => simp only [queueOf, hx, Option.map_some, Option.getD_some, voidOldest_queue]
  · rfl

theorem endQueuesOf_sequenceOf {l : List SeqId} (hl : l.Nodup) (p : SeqId) (s : State) :
    sequenceOf (endQueuesOf k job l s) k p = (sequenceOf s k p).map (if p ∈ l then Sequence.drained else id) := by
  induction l generalizing s with
  | nil => simp [endQueuesOf]
  | cons q l ih =>
    obtain ⟨hq, hl⟩ := List.nodup_cons.mp hl
    rw [endQueuesOf_cons, ih hl, endQueue_sequenceOf, Option.map_map]
    by_cases hp : p = q
    · subst hp; simp [hq]
    · simp [hp]

theorem endQueuesOf_ij {l : List SeqId} (hl : l.Nodup) (s : State) :
    (endQueuesOf k job l s).ij =
      s.ij.appendAll k job s.wpu.cycle (l.flatMap fun q => (queueOf s k q).map (endedBody q)) := by
  induction l generalizing s with
  | nil => rfl
  | cons q l ih =>
    obtain ⟨hq, hl⟩ := List.nodup_cons.mp hl
    have hothers : (l.flatMap fun p => (queueOf ((queueOf s k q).foldl (endEntry k job q) s) k p).map (endedBody p)) =
        l.flatMap fun p => (queueOf s k p).map (endedBody p) :=
      List.flatMap_congr fun p hp => by rw [endEntries_queueOf k job (by rintro rfl; exact hq hp)]
    rw [endQueuesOf_cons, ih hl, hothers, endEntries_ij, endEntries_wpu, List.flatMap_cons, Journal.appendAll_append]

/-! ## What END_JOB leaves (R174) -/

/-- The fields that the end of a job does not reach. -/
def State.besideJobs (s : State) : Wpu × Mtu × Tracker × Hou × Background × Option Activation × List Instr :=
  (s.wpu, s.mtu, s.st, s.hou, s.background, s.activation, s.pending)

theorem endQueues_besideJobs (s : State) : (endQueues k job s).besideJobs = s.besideJobs :=
  foldl_keeps State.besideJobs (fun s q => foldl_keeps State.besideJobs (fun s e => by
    simp [State.besideJobs, endEntry]) (queueOf s k q) s) _ s

theorem endQueues_wpu (s : State) : (endQueues k job s).wpu = s.wpu :=
  foldl_keeps State.wpu (fun s q => endEntries_wpu k job q _ s) _ s

end

/-- The records of the queued values of a context, sequence by sequence and oldest first (R174). -/
def Context.endedBodies (c : Context) : List RecordBody :=
  (List.finRange 8).flatMap fun q => ((c.sequences[q].map Sequence.queue).getD []).map (endedBody q)

/-- The counters of a context's sequences with the queues voided (R142, R174). -/
def Context.endedCounters (c : Context) : Vector (Option FinalCounters) 8 :=
  tabulate fun q => c.sequences[q].map fun x => x.drained.final

theorem endJob_besideJobs (k : SlotId) (c : Context) (s : State) : (endJob k c s).besideJobs = s.besideJobs := by
  rw [← endQueues_besideJobs k c.job s]
  simp [State.besideJobs, endJob]

theorem endJob_slots (k : SlotId) (c : Context) (s : State) : (endJob k c s).slots = s.slots.set k none := by
  simp only [endJob, notifyJob_slots, setSlot, journalUnreserved_slots]
  exact endQueues_slots_set k c.job s none

section
variable {s : State} {k : SlotId} {c : Context} (hc : s.slots[(k : Nat)] = some c)
include hc

theorem sequenceOf_of_some (q : SeqId) : sequenceOf s k q = c.sequences[q] := by
  simp only [sequenceOf, Fin.getElem_fin, hc, Option.bind_some]

theorem endedBodies_eq : ((List.finRange 8).flatMap fun q => (queueOf s k q).map (endedBody q)) = c.endedBodies := by
  simp only [queueOf, sequenceOf_of_some hc, Context.endedBodies]

theorem endedBodies_length : c.endedBodies.length = c.queuedCount := by
  rw [← endedBodies_eq hc, ← queuedCount_eq hc, List.length_flatMap]
  simp only [List.length_map]

theorem endQueues_finalCounters (job : Nat) : finalCounters k (endQueues k job s) = c.endedCounters := by
  have hdrained : ∀ q, sequenceOf (endQueues k job s) k q = c.sequences[q].map Sequence.drained := fun q => by
    rw [endQueues_eq, endQueuesOf_sequenceOf k job (List.nodup_finRange 8), if_pos (List.mem_finRange q),
      sequenceOf_of_some hc]
  simp only [finalCounters, Context.endedCounters, hdrained, Option.map_map]
  rfl

/-- The queued values' records and JOB_ENDED, one after another. -/
theorem endJob_ij :
    (endJob k c s).ij =
      s.ij.appendAll k c.job s.wpu.cycle (c.endedBodies ++ [.jobEnded c.endedCounters]) := by
  simp only [endJob, notifyJob_ij, setSlot_ij, journalUnreserved_ij, endQueues_finalCounters hc, endQueues_wpu]
  rw [endQueues_eq, endQueuesOf_ij k c.job (List.nodup_finRange 8), endedBodies_eq hc, Journal.appendAll_append]
  rfl

theorem replyEndJob_accept (hidle : c.state = .ready ∨ c.state = .parked) (hpending : NotPending k s)
    (hfree : busySlotOf s.background ≠ some k) (hroom : c.queuedCount + 1 ≤ s.ij.unreserved) :
    replyEndJob k s = .accept (endJob k c s) [] := by
  rw [replyEndJob, named_fin, inState_some hc, if_pos (isIdle_iff.mpr hidle), isPendingSlot_eq_false.mpr hpending,
    Bool.not_false, require_true, notBusy_free hfree, journalRoom, decide_eq_true hroom, require_true]

end

/-- Settles O40: the journal grows by the run of records that the voided queues and the end make; the slot is emptied, and
the end reaches no other field that is named. -/
theorem jobEnded : Obligations.JobEnded := by
  intro p s k c hc hidle hpending hfree hroom hf ha queue voids finals
  have hc : (takenOn p s).slots[(k : Nat)] = some c := hc
  have hij := endJob_ij hc
  have hcount : (c.endedBodies ++ [RecordBody.jobEnded c.endedCounters]).length = c.queuedCount + 1 := by
    rw [List.length_append, endedBodies_length hc, List.length_singleton]
  have hclaims : (endJob k c (takenOn p s)).ij.claims = s.ij.claims := by
    rw [hij]; exact Journal.appendAll_claims ..
  have hbeside : (endJob k c (takenOn p s)).besideJobs = s.besideJobs := (endJob_besideJobs k c _).trans rfl
  simp only [Journal.claims, Prod.mk.injEq] at hclaims
  simp only [State.besideJobs, Prod.mk.injEq] at hbeside
  obtain ⟨hreserved, hcontext, hdeferred⟩ := hclaims
  refine ⟨_, request_accept hf ha (replyEndJob_accept hc hidle hpending hfree hroom), ?_⟩
  simp only [answerAt_slots, answerAt_ij, answerAt_wpu, answerAt_mtu, answerAt_st, answerAt_hou, answerAt_background,
    answerAt_activation, answerAt_pending]
  refine ⟨endJob_slots k c _, ?bodies, ?held, ?next, ?tail, hreserved, hcontext, hdeferred, hbeside⟩
  case bodies =>
    rw [hij, Journal.appendAll_bodies, ← List.append_assoc]
    rfl
  case held => rw [hij]; exact Journal.appendAll_take ..
  case next => rw [hij, Journal.appendAll_next, hcount]; rfl
  case tail => rw [hij, Journal.appendAll_append]; rfl

end Sys2Proof.Machine
end

section
/-! PROOFS. A change of level on a field line as its block's event, the clock's tick, and the stop causes that requests set
and clear. -/

namespace Sys2Proof.Machine

/-! ## A change of level on a line (R176) -/

/-- The state with one line at another level. -/
def levelSet (i : LineId) (v : Bool) (s : State) : State :=
  { s with lm := { s.lm with lines := s.lm.lines.set i { s.lm.lines[i] with level := v } } }

/-- A new level is set, and the block of the line's function hears it. -/
theorem exec_fieldLineLevelChange {s : State} {i : LineId} {v : Bool} (h : s.lm.lines[i].level ≠ v) :
    exec (.fieldLineLevelChange i v) s = .next (hearLine s.lm.lines[i].function v (levelSet i v s)) := by
  show Host.Outcome.next _ = _
  rw [if_neg h]
  rfl

section
variable {s : State} {i j : LineId} {f : LineFunction}

/-- Where one line alone holds a function, the lines that hold it are that line. -/
theorem showDriven_alone (hu : LinesUnique s) (hi : s.lm.lines[i].function = f) (hf : f.isGeneral = false) (v : Bool) :
    showDriven f v s = levelSet i v s := by
  have hline : ∀ k : LineId, s.lm.lines[(k : Nat)].function = f ↔ (i : Nat) = k := fun k =>
    ⟨fun hk => congrArg Fin.val (hu i k (hi.trans hk.symm) (by rw [hi]; exact hf)), fun e => by
      obtain rfl := Fin.ext e; exact hi⟩
  have hlines : (showDriven f v s).lm.lines = (levelSet i v s).lm.lines := by
    refine Vector.ext fun k hk => ?_
    refine (showDriven_line f v s ⟨k, hk⟩).trans ?_
    simp only [hline ⟨k, hk⟩, levelSet, Vector.getElem_set]
    split
    · next e => subst e; rfl
    · rfl
  calc showDriven f v s = { s with lm := { s.lm with lines := (showDriven f v s).lm.lines } } := rfl
    _ = levelSet i v s := by rw [hlines]; rfl

theorem levelSet_level (s : State) (i : LineId) : levelSet i s.lm.lines[i].level s = s := by
  have hsame : s.lm.lines.set (i : Nat) s.lm.lines[i] = s.lm.lines := by simp
  calc levelSet i s.lm.lines[i].level s = { s with lm := { s.lm with lines := s.lm.lines.set i s.lm.lines[i] } } := rfl
    _ = s := by rw [hsame]

theorem LinesUnique.levelSet (hu : LinesUnique s) (i : LineId) (v : Bool) : LinesUnique (levelSet i v s) :=
  (KeepsPress.of_lines fun j => by
    simp only [Fin.getElem_fin, Vector.getElem_set]
    split
    · next e => obtain rfl := Fin.ext e; rfl
    · rfl).lines hu

theorem levelSet_line_other (h : i ≠ j) (v : Bool) (s : State) :
    (levelSet i v s).lm.lines[(j : Nat)] = s.lm.lines[(j : Nat)] := by
  have hne : (i : Nat) ≠ j := fun e => h (Fin.ext e)
  simp [levelSet, hne]

/-- The level that the only line of a function shows already changes nothing. -/
theorem showDriven_shown (hu : LinesUnique s) (hj : s.lm.lines[j].function = f) (hf : f.isGeneral = false) :
    showDriven f s.lm.lines[j].level s = s := by
  rw [showDriven_alone hu hj hf, levelSet_level]

/-- One encoder line changes its level beside the other, which stays (R33). -/
theorem showDriven_beside {g : LineFunction} (hu : LinesUnique s) (hi : s.lm.lines[i].function = f)
    (hj : s.lm.lines[j].function = g) (hne : f ≠ g) (hg : g.isGeneral = false) (v : Bool) :
    showDriven g s.lm.lines[j].level (levelSet i v s) = levelSet i v s := by
  have hij : i ≠ j := by rintro rfl; exact hne (hi.symm.trans hj)
  have hline : (levelSet i v s).lm.lines[(j : Nat)] = s.lm.lines[j] := levelSet_line_other hij v s
  have hshown := showDriven_shown (s := levelSet i v s) (j := j) (f := g) (hu.levelSet i v)
    ((congrArg Line.function hline).trans hj) hg
  rwa [Fin.getElem_fin, hline] at hshown

end

/-- A line that no block hears. -/
theorem hearLine_deaf {f : LineFunction} (h : f = .genIn ∨ f.isOutput = true) (v : Bool) (s : State) :
    hearLine f v s = s := by
  cases f with
  | genIn | genOut | gate | stopReq => rfl
  | encA | encB | index | mark => simp [LineFunction.isOutput] at h

/-- The line that holds MARK rises, and the edge is the registration's (R43). -/
theorem exec_markEdge_held {s : State} {k : ChannelId} (h : holdsFunction s (.mark k) = true) :
    exec (.markEdge k) s = .next (markEdge k (showDriven (.mark k) true s)) := by
  show Host.Outcome.next _ = _
  rw [if_pos h]; rfl

/-- Settles O10: the new level is set on one line, which alone holds its function; what the line's block then hears is what
its own command sets and hears. -/
theorem levelsAndTicks : Obligations.LevelsAndTicks := by
  refine ⟨fun s => rfl, fun s i v hu hv => ?_⟩
  have htransition : ∀ a b, exec (.encoderTransition a b) s =
      .next (watchEncoder (showDriven .encB b (showDriven .encA a s))) := fun _ _ => rfl
  refine ⟨fun hf => ?deaf, fun hf hrise => ?index, fun k hf hrise => ?mark,
    fun j hf hj => ?encA, fun j hf hj => ?encB⟩
  all_goals rw [exec_fieldLineLevelChange hv]
  case deaf => rw [hearLine_deaf hf]; rfl
  case index =>
    subst hrise
    rw [exec_indexEdge (holdsFunction_iff.mpr ⟨i, hf⟩), showDriven_alone hu hf rfl, hf]
    rfl
  case mark =>
    subst hrise
    rw [exec_markEdge_held (holdsFunction_iff.mpr ⟨i, hf⟩), showDriven_alone hu hf rfl, hf]
    rfl
  case encA =>
    rw [htransition, showDriven_alone hu hf rfl, showDriven_beside hu hf hj nofun rfl, hf]
    rfl
  case encB =>
    rw [htransition, showDriven_shown hu hj rfl, showDriven_alone hu hf rfl, hf]
    rfl

/-! ## SET_STOP and CLEAR_STOP (R183, R184) -/

theorem StopCause.bit_of_ofCode {n : Nat} {c : StopCause} (h : StopCause.ofCode n = some c) : c.bit = n := by
  unfold StopCause.ofCode at h
  split at h <;> cases h <;> rfl

theorem activeHeadFaulted_eq_false {s : State} :
    activeHeadFaulted s = false ↔
      ∀ (k : SlotId) (x : Context) (h : HeadId), activeSlot s = some k → s.slots[k] = some x →
        x.assignments[h].isSome = true → s.hou.heads[h].device ≠ .faulted := by
  simp only [activeHeadFaulted, assignedInActive, List.any_eq_false, List.mem_finRange, Bool.and_eq_true, Option.any_eq_true,
    beq_iff_eq, forall_const]
  exact ⟨fun g k x h hk hx ha hd => g h ⟨⟨k, hk, x, hx, ha⟩, hd⟩, fun g h ⟨⟨k, hk, x, hx, ha⟩, hd⟩ => g k x h hk hx ha hd⟩

theorem SeqState.ne_exhausted_iff {x : SeqState} : x ≠ .exhausted ↔ x = .live := by
  cases x <;> simp

theorem activeExhausted_eq_false {s : State} :
    activeExhausted s = false ↔
      ∀ (k : SlotId) (x : Context) (q : SeqId) (y : Sequence), activeSlot s = some k → s.slots[k] = some x →
        x.sequences[q] = some y → y.state = .live := by
  have hsome : activeExhausted s = true ↔ ∃ (k : SlotId) (x : Context) (q : SeqId) (y : Sequence),
      activeSlot s = some k ∧ s.slots[k] = some x ∧ x.sequences[q] = some y ∧ y.state = .exhausted := by
    simp only [activeExhausted, Option.any_eq_true, List.any_eq_true, beq_iff_eq, Vector.mem_toList_iff, Vector.mem_iff_getElem]
    constructor
    · rintro ⟨k, hk, x, hx, o, ⟨q, hq, rfl⟩, y, hy, he⟩
      exact ⟨k, x, ⟨q, hq⟩, y, hk, hx, hy, he⟩
    · rintro ⟨k, x, q, y, hk, hx, hy, he⟩
      exact ⟨k, hk, x, hx, _, ⟨q, q.isLt, rfl⟩, y, hy, he⟩
  rw [← Bool.not_eq_true, hsome]
  simp only [← SeqState.ne_exhausted_iff, not_exists, not_and, ne_eq]

theorem replyClearStop_eq {n : Nat} {c : StopCause} (h : StopCause.ofCode n = some c) (s : State) :
    replyClearStop n s =
      if latched s c then require (mayClear c s) .wrongState (.accept (clearStop c s) []) else .accept s [] := by
  simp only [replyClearStop, coded, h]

/-- The clearing of a cause is one change of the set; REG_RUN's comes after its counter's (R109). -/
theorem clearStop_eq (c : StopCause) (s : State) :
    clearStop c s = changeStops c (withoutCause s.lm.stops c) 1
      (if c = .regRun then { s with mtu := { s.mtu with faults := 0 } } else s) := by
  cases c <;> rfl

/-- Settles O42: SET_STOP by whether its cause is latched; CLEAR_STOP by that and by the condition of its cause. -/
theorem stopCausesSetAndCleared : Obligations.StopCausesSetAndCleared := by
  intro p s change
  refine ⟨fun hset => ?_, fun hclear => ?_, fun n c hc => ?_⟩
  · exact acceptedAs_of_reply (act := fun s => .accept (latchStop .operatorStop s) []) rfl
      (congrArg (Reply.accept · []) (if_pos hset))
  · exact acceptedAs_of_reply (act := fun s => .accept (latchStop .operatorStop s) []) rfl
      (congrArg (Reply.accept · []) (if_neg (Bool.eq_false_iff.mp hclear)))
  · intro may
    have hbit := StopCause.bit_of_ofCode hc
    have hmay : mayClear c (takenOn p s) = true ↔ may := by
      cases c with
      | journalHigh => exact decide_eq_true_iff
      | headFault => exact (Bool.not_eq_true' _).to_iff.trans activeHeadFaulted_eq_false
      | seqExhausted => exact (Bool.not_eq_true' _).to_iff.trans activeExhausted_eq_false
      | regRun | operatorStop => exact iff_of_true rfl trivial
    have hlatched : latched (takenOn p s) c = s.lm.stops.getLsbD n := by rw [latched, hbit]; rfl
    have hreply := replyClearStop_eq hc (takenOn p s)
    rw [hlatched] at hreply
    refine ⟨fun hclear => ?_, fun hset hno => ?_, fun hset hyes => ?_⟩
    · rw [hclear] at hreply
      exact acceptedAs_of_reply rfl hreply
    · rw [hset, if_pos rfl, Bool.eq_false_iff.mpr (mt hmay.mp hno)] at hreply
      exact refusedAs_of_reply rfl hreply
    · rw [hset, if_pos rfl, hmay.mpr hyes, require_true, clearStop_eq] at hreply
      refine acceptedAs_of_reply rfl (hreply.trans ?_)
      subst hbit
      cases c <;> rfl

end Sys2Proof.Machine
end

section
/-! PROOFS. The output lines show what they drive: the lines, stop causes and gates move with their drives, and a
boundary keeps it. -/

namespace Sys2Proof.Machine

/-! ## The relation -/

/-- Every output line shows the level it drives (R176, R177). -/
def ShowsDrive (s : State) : Prop := ∀ (i : LineId) (v : Bool), lineDrive s i = some v → s.lm.lines[i].level = v

/-- What the drives and the levels of the lines are read from. -/
def State.outputs (s : State) : LineMatrix × Vector Gate 4 := (s.lm, s.st.gates)

theorem outputs_eq {s t : State} (hlm : t.lm = s.lm) (hgates : t.st.gates = s.st.gates) : t.outputs = s.outputs :=
  congrArg₂ Prod.mk hlm hgates

/-- Where every output line shows its drive before a change, so it does after it. -/
structure KeepsShown (s t : State) : Prop where
  shown : ShowsDrive s → ShowsDrive t

namespace KeepsShown

theorem refl (s : State) : KeepsShown s s := ⟨id⟩

theorem trans {s t u : State} (h : KeepsShown s t) (g : KeepsShown t u) : KeepsShown s u := ⟨g.shown ∘ h.shown⟩

/-- A change beside lines, stop causes and gates. -/
theorem of_eq {s t : State} (h : t.outputs = s.outputs) : KeepsShown s t := by
  obtain ⟨hlm, hgates⟩ := Prod.mk.inj h
  have hsame : ShowsDrive t ↔ ShowsDrive s := by simp only [ShowsDrive, lineDrive, driveOf, hlm, hgates]
  exact ⟨hsame.mpr⟩

/-- A change beside lines, stop causes and gates, before another change. -/
theorem after_eq {s t u : State} (g : KeepsShown t u) (h : t.outputs = s.outputs) : KeepsShown s u := (of_eq h).trans g

/-- A change beside lines, stop causes and gates, after another change. -/
theorem then_eq {s t u : State} (g : KeepsShown s t) (h : u.outputs = t.outputs) : KeepsShown s u := g.trans (of_eq h)

/-- Each line shows what it drives now, or has the drive and the level it had. -/
theorem of_lines {s t : State} (h : ∀ (i : LineId) (v : Bool), lineDrive t i = some v →
    t.lm.lines[i].level = v ∨ lineDrive s i = some v ∧ t.lm.lines[i].level = s.lm.lines[i].level) : KeepsShown s t :=
  ⟨fun hs i v hv => (h i v hv).elim id fun ⟨hd, hl⟩ => hl.trans (hs i v hd)⟩

theorem ite {s t u : State} {b : Prop} [Decidable b] (h : b → KeepsShown s t) (g : ¬b → KeepsShown s u) :
    KeepsShown s (if b then t else u) := by
  split
  · exact h ‹_›
  · exact g ‹_›

theorem foldl {σ α : Type} (f : σ → State) {g : σ → α → σ} (h : ∀ s x, KeepsShown (f s) (f (g s x))) (l : List α)
    (s : σ) : KeepsShown (f s) (f (l.foldl g s)) := by
  induction l generalizing s with
  | nil => exact refl _
  | cons x xs ih => exact (h s x).trans (ih _)

end KeepsShown

/-! ## The operations that move a drive -/

@[simp] theorem lineDrive_showDriven (f : LineFunction) (v : Bool) (s : State) (i : LineId) :
    lineDrive (showDriven f v s) i = lineDrive s i := by
  rw [lineDrive, Fin.getElem_fin, showDriven_line]
  split <;> rfl

theorem driveOf_input {s : State} {l : Line} (h : l.function.isOutput = false) : driveOf s l = none := by
  unfold driveOf
  cases hf : l.function <;> simp [hf, LineFunction.isOutput] at h ⊢

/-- An input line drives nothing, whatever level it takes. -/
theorem showDriven_input {f : LineFunction} (hf : f.isOutput = false) (v : Bool) (s : State) :
    KeepsShown s (showDriven f v s) := by
  refine .of_lines fun i w hw => .inr ?_
  rw [lineDrive_showDriven] at hw
  have hother : s.lm.lines[(i : Nat)].function ≠ f := fun hi => by
    rw [lineDrive, driveOf_input (by rw [Fin.getElem_fin, hi]; exact hf)] at hw; cases hw
  exact ⟨hw, congrArg Line.level ((showDriven_line f v s i).trans (if_neg hother))⟩

/-- The drive of one function goes from one level to another, and its lines follow where the two differ (R177). -/
theorem follow_shown {s t : State} {f : LineFunction} {before after : Bool} (hlines : t.lm.lines = s.lm.lines)
    (hf : ∀ l : Line, l.function = f → driveOf s l = some before ∧ driveOf t l = some after)
    (hother : ∀ l : Line, l.function ≠ f → driveOf t l = driveOf s l) :
    KeepsShown s (if before = after then t else showDriven f after t) := by
  have hdrive : ∀ i : LineId, lineDrive t i = driveOf t s.lm.lines[i] := fun i => by rw [lineDrive, hlines]
  refine .ite (fun hsame => .of_lines fun i v hv => .inr ⟨?_, by rw [hlines]⟩) fun _ => .of_lines fun i v hv => ?_
  · rw [hdrive] at hv
    by_cases hi : s.lm.lines[i].function = f
    · obtain ⟨hold, hnew⟩ := hf _ hi
      exact hold.trans ((congrArg some hsame).trans (hnew.symm.trans hv))
    · exact (hother _ hi).symm.trans hv
  · rw [lineDrive_showDriven, hdrive] at hv
    have hline := showDriven_line f after t i
    simp only [hlines] at hline
    by_cases hi : s.lm.lines[i].function = f
    · refine .inl ((congrArg Line.level (hline.trans (if_pos hi))).trans ?_)
      exact Option.some.inj ((hf _ hi).2.symm.trans hv)
    · exact .inr ⟨(hother _ hi).symm.trans hv, congrArg Line.level (hline.trans (if_neg hi))⟩

/-- The STOP_REQ line follows the set when it becomes empty or ceases to be (R185). -/
theorem changeStops_shown (c : StopCause) (now : StopSet) (b : Byte) (s : State) :
    KeepsShown s (changeStops c now b s) := by
  refine .then_eq (follow_shown (t := { s with lm := { s.lm with stops := now } }) (f := .stopReq)
    (before := s.lm.stops != 0) (after := now != 0) rfl (fun l hl => ?_) fun l hl => ?_) rfl
  · simp only [driveOf, hl, and_self]
  · cases h : l.function with
    | stopReq => exact absurd h hl
    | genIn | genOut | encA | encB | index | mark | gate => simp only [driveOf, h]

theorem latchStop_shown (c : StopCause) (s : State) : KeepsShown s (latchStop c s) :=
  .ite (fun _ => .refl s) fun _ => changeStops_shown ..

/-- The line of a gate follows the gate's record (R121, R177). -/
theorem setGateRecord_shown (k : LaneId) (g : Gate) (s : State) : KeepsShown s (setGateRecord k g s) := by
  refine follow_shown (t := { s with st := { s.st with gates := s.st.gates.set k g } }) (f := .gate k) rfl
    (fun l hl => ?_) fun l hl => ?_
  · simp [driveOf, hl]
  · cases h : l.function with
    | gate j =>
      have hne : (k : Nat) ≠ j := fun e => hl (by rw [h, Fin.ext e])
      simp [driveOf, h, hne]
    | genIn | genOut | encA | encB | index | mark | stopReq => simp [driveOf, h]

/-- A line shows the drive of its new function, or keeps its level where the drive is as it was (R177; log 10). -/
theorem assignLine_shown (i : LineId) (f : LineFunction) (u : Bool) (s : State) : KeepsShown s (assignLine i f u s) := by
  refine .of_lines fun j v hv => ?_
  by_cases hj : j = i
  · subst hj
    have hlevel := assignLine_level j f u s hv
    split at hlevel
    · next hd => exact .inr ⟨hd, hlevel⟩
    · exact .inl hlevel
  · have hline := assignLine_line_other i f u s hj
    rw [lineDrive, Fin.getElem_fin, hline] at hv
    exact .inr ⟨hv, congrArg Line.level hline⟩

/-- A written latch shows, and one that has its bit already leaves its line alone (R180; log 10). -/
theorem writeLatches_shown (mask levels : Nat) (s : State) : KeepsShown s (writeLatches mask levels s) := by
  refine .of_lines fun i v hv => ?_
  have hline : (writeLatches mask levels s).lm.lines[(i : Nat)] =
      if isWritten s mask i then s.lm.lines[i].write (levels.testBit i) else s.lm.lines[i] := by
    simp [writeLatches]
  rw [lineDrive, Fin.getElem_fin, hline] at hv
  rw [Fin.getElem_fin, hline]
  split at hv
  · next hw =>
    have hout : s.lm.lines[(i : Nat)].function = .genOut := by simpa using (Bool.and_eq_true_iff.mp hw).2
    have hbit : levels.testBit i = v := by simpa [driveOf, hout] using hv
    rw [if_pos hw, Line.write, hbit]
    by_cases hlatch : s.lm.lines[i].latch = v
    · exact .inr ⟨by simpa [lineDrive, driveOf, hout] using hlatch, if_pos hlatch⟩
    · exact .inl (if_neg hlatch)
  · next hw => exact .inr ⟨hv, by rw [if_neg hw]⟩

/-! ## Stop causes, gates and the journal -/

theorem gateStep_shown (due : Option SetRecord) (s : State) : KeepsShown s (gateStep due s) :=
  .foldl id (fun _ _ => setGateRecord_shown ..) _ s

theorem releaseGate_shown (s : State) (k : LaneId) : KeepsShown s (releaseGate s k) := by
  unfold releaseGate
  split
  · exact .ite (fun _ => setGateRecord_shown ..) fun _ => .refl s
  · exact .refl s
  · exact .refl s

theorem releaseGates_shown (s : State) : KeepsShown s (releaseGates s) := .foldl id releaseGate_shown _ s

theorem testThreshold_shown (s : State) : KeepsShown s (testThreshold s) :=
  .ite (fun _ => latchStop_shown ..) fun _ => .refl s

theorem journalUnreserved_shown (k : SlotId) (job : Nat) (t : Cycle) (b : RecordBody) (s : State) :
    KeepsShown s (journalUnreserved k job t b s) :=
  .after_eq (testThreshold_shown { s with ij := s.ij.append k job t b }) rfl

theorem appendContextRecord_shown (d : Deferred) (s : State) : KeepsShown s (appendContextRecord d s) := by
  unfold appendContextRecord
  split
  · exact journalUnreserved_shown ..
  · exact .of_eq rfl

theorem contextRecord_shown (d : Deferred) (s : State) : KeepsShown s (contextRecord d s) :=
  .ite (fun _ => appendContextRecord_shown ..) fun _ => .of_eq rfl

theorem appendDeferred_shown (l : List Deferred) (s : State) : KeepsShown s (appendDeferred l s) := by
  induction l generalizing s with
  | nil => exact .of_eq rfl
  | cons d ds ih => exact .ite (fun _ => (appendContextRecord_shown d s).trans (ih _)) fun _ => .of_eq rfl

theorem resumeSkip_shown (s : State) : KeepsShown s (resumeSkip s) := .of_eq (by simp [State.outputs])

theorem afterRaise_shown (s : State) : KeepsShown s (afterRaise s) :=
  (appendDeferred_shown s.ij.deferred s).trans (resumeSkip_shown _)

theorem returnReserved_shown (n : Nat) (s : State) : KeepsShown s (returnReserved n s) :=
  .ite (fun _ => .refl s) fun _ => .after_eq (afterRaise_shown { s with ij := _ }) rfl

theorem reserveRecords_shown (n : Nat) (s : State) : KeepsShown s (reserveRecords n s) :=
  .ite (fun _ => .refl s) fun _ => .after_eq (testThreshold_shown { s with ij := _ }) rfl

theorem parkContext_shown (k : SlotId) (s : State) : KeepsShown s (parkContext k s) := by
  unfold parkContext
  split
  · exact .refl s
  · exact .after_eq (contextRecord_shown ..) rfl

theorem releaseRecords_shown (n : Nat) (s : State) : KeepsShown s (releaseRecords n s) :=
  .ite (fun _ => .refl s) fun _ => .after_eq (afterRaise_shown { s with ij := _ }) rfl

/-! ## The measurement -/

theorem reportFault_shown (record : RegRecord) (n : Nat) (s : State) : KeepsShown s (reportFault record n s) := by
  unfold reportFault
  exact .ite (fun _ => .ite (fun _ => .after_eq (latchStop_shown ..) rfl) fun _ => .of_eq rfl) fun _ => .refl s

theorem closeMeasurement_shown (c : CloseCause) (s : State) : KeepsShown s (closeMeasurement c s) := by
  cases h : s.mtu.armed with
  | none => rw [closeMeasurement_unarmed h]; exact .refl s
  | some a =>
    rw [closeMeasurement_armed h]
    refine .after_eq (reportFault_shown ..) (outputs_eq ?_ (passVerdict_sameSets ..).gates)
    unfold passVerdict
    split <;> rfl

theorem followMeasurement_shown (s : State) : KeepsShown s (followMeasurement s) := by
  unfold followMeasurement
  split
  · exact .ite (fun _ => .after_eq (closeMeasurement_shown _ { s with mtu := _ }) rfl) fun _ => .of_eq rfl
  · exact .refl s

theorem countPosition_shown (f : Wpu → Wpu) (s : State) : KeepsShown s (followMeasurement (modifyWpu f s)) :=
  .after_eq (followMeasurement_shown (modifyWpu f s)) rfl

theorem measureBoundary_shown (s : State) : KeepsShown s (measureBoundary s) :=
  (KeepsShown.ite (fun _ => closeMeasurement_shown .boundary s) fun _ => .refl s).then_eq rfl

theorem markEdge_shown (k : ChannelId) (s : State) : KeepsShown s (markEdge k s) := by
  unfold markEdge takeMark
  refine .ite (fun _ => .refl s) fun _ => ?_
  split
  · exact .ite (fun _ => .ite (fun _ => .ite (fun _ => .after_eq (closeMeasurement_shown _ { s with mtu := _ }) rfl)
      fun _ => .of_eq rfl) fun _ => .of_eq rfl) fun _ => .refl s
  · exact .refl s

/-! ## The Set Tracker at a boundary -/

theorem removeSet_shown (r : SetRecord) (a : Settling) : KeepsShown a.state (removeSet r a) := by
  unfold removeSet
  extract_lets state st s1 s2 job s3
  have h2 : KeepsShown a.state s2 := .after_eq (t := modifyContext r.slot _ s1) (returnReserved_shown ..) rfl
  have h3 : KeepsShown a.state s3 := .ite (fun _ => h2.then_eq rfl) fun _ => h2
  split
  · exact .ite (fun _ => h3.trans ((parkContext_shown r.slot s3).then_eq rfl)) fun _ => h3
  · exact h3

theorem retire_shown (s : State) : KeepsShown s (retire s) := by
  unfold retire
  split
  · exact gateStep_shown ..
  · next r _ =>
    refine (gateStep_shown (some r) s).trans (.trans ?_ (removeSet_shown r _))
    exact .foldl Settling.state (g := settleLane r) (fun a l => .of_eq (by simp [State.outputs])) (List.finRange 4)
      { state := gateStep (some r) s, left := r.reservation }

theorem fillFresh_shown (k : SlotId) (l : LaneId) (q : SeqId) (x : Sequence) (ranges : List Exclusion) (a : Filling) :
    KeepsShown a.state (fillFresh k l q x ranges a).state := by
  unfold fillFresh
  split
  · exact .of_eq (by simp [State.outputs])
  · refine .trans ?_ (latchStop_shown ..)
    exact .after_eq (returnReserved_shown ..) (by simp [State.outputs])

theorem fillEntry_shown (k : SlotId) (a : Filling) (e : AllocEntry) : KeepsShown a.state (fillEntry k a e).state := by
  unfold fillEntry
  split
  · exact .of_eq rfl
  · exact .of_eq rfl
  · split
    · exact .of_eq rfl
    · split
      · exact .of_eq rfl
      · split
        · exact .of_eq rfl
        · exact fillFresh_shown ..

theorem numberSet_shown (k : SlotId) (l : List AllocEntry) (s : State) : KeepsShown s (numberSet k l s).state := by
  unfold numberSet
  split
  · exact (reserveRecords_shown (freshCount l) s).trans (.foldl Filling.state (fillEntry_shown k) l
      { state := reserveRecords (freshCount l) s, parts := [], left := freshCount l })
  · exact .refl s

theorem allocate_shown (s : State) : KeepsShown s (allocate s) := by
  unfold allocate
  split
  · split
    · exact .refl s
    · exact (numberSet_shown ..).then_eq rfl
  · exact .refl s

theorem demote_shown (k : SlotId) (s : State) : KeepsShown s (demote k s) := by
  unfold demote
  split
  · exact .refl s
  · exact .ite (fun _ => .of_eq rfl) fun _ => parkContext_shown ..

theorem changeover_shown (s : State) : KeepsShown s (changeover s) := by
  unfold changeover
  split
  · exact .refl s
  · refine .ite (fun _ => ?_) fun _ => .refl s
    split
    · exact .of_eq rfl
    · extract_lets old s1 s2 s3 s4
      have h2 : KeepsShown s s2 := .after_eq (contextRecord_shown ..) rfl
      clear_value old
      cases old with
      | none => exact h2.then_eq rfl
      | some k => exact h2.trans ((demote_shown k s2).then_eq rfl)

theorem suspension_shown (s : State) : KeepsShown s (suspension s) := .of_eq (by simp [State.outputs])

theorem replyWithin_shown {c : Instr} {act : State → Reply} (hc : replyWithin c = some act) (s : State) :
    (act s).Ensures (KeepsShown s) := by
  cases h : act s with
  | refuse => trivial
  | accept t r =>
    rcases replyWithin_accept hc h with rfl | ⟨start, n, rfl⟩ | ⟨k, x, q, e, rfl⟩
    · exact .refl t
    · exact .of_eq rfl
    · exact .after_eq (journalUnreserved_shown ..) rfl

theorem modifyPort_shown {s u : State} (p : PortId) (f : Port → Port) (h : KeepsShown s u) :
    KeepsShown s (modifyPort p f u) :=
  h.then_eq rfl

theorem takeWithin_shown (s : State) (p : PortId) : KeepsShown s (takeWithin s p) := by
  rcases takeWithin_cases s p with h | ⟨body, c, act, -, -, ha, h⟩
  · rw [h]; exact .refl s
  · rw [h]
    exact onFrame_ensures (P := KeepsShown s) (fun p f _ => modifyPort_shown p f)
      (fun u hu => serve_ensures (fun p f _ => modifyPort_shown p f)
        ((replyWithin_shown ha u).mono fun _ ht => hu.trans ht) hu) (.refl s)

theorem trackBoundary_shown (o : BoundaryOrder) (s : State) : KeepsShown s (trackBoundary o s) := by
  have hs := (changeover_shown s).trans (suspension_shown _)
  have hrequests : ∀ u : State, KeepsShown u (o.requests.foldl takeWithin u) := .foldl id takeWithin_shown _
  unfold trackBoundary
  exact .ite (fun _ => hs.trans ((retire_shown _).trans ((hrequests _).trans (allocate_shown _))))
    fun _ => hs.trans ((allocate_shown _).trans ((hrequests _).trans (retire_shown _)))

/-! ## The whole boundary -/

theorem headStep_shown (s : State) (x : HouStep) : KeepsShown s (headStep s x) := by
  refine .of_eq (outputs_eq ?_ (headStep_beside s x).sets.gates)
  cases x with
  | head h => simp [headStep]
  | link l => cases l <;> simp [headStep]

theorem handStep_shown (s : State) (x : HouStep) : KeepsShown s (handStep s x) := by
  refine .of_eq (outputs_eq ?_ (handStep_beside s x).sets.gates)
  cases x with
  | head h => simp only [handStep]; split <;> simp
  | link l => cases l <;> simp [handStep]

theorem runPhase_shown (o : BoundaryOrder) (n : Option WebNotice) (s : State) (p : Phase) :
    KeepsShown s (runPhase o n s p) := by
  cases p with
  | measure => exact measureBoundary_shown s
  | window => exact .of_eq rfl
  | track => exact trackBoundary_shown o s
  | heads => exact .foldl id headStep_shown _ s
  | webNotice => cases n <;> exact .of_eq rfl

theorem boundary_shown (k : Opening) (pos : Nat) (n : Option WebNotice) (s : State) :
    KeepsShown s (boundary k pos n s) := by
  have hwork : ∀ (o : BoundaryOrder) (u : State), KeepsShown u (boundaryWork o n u) := fun o u =>
    (KeepsShown.foldl id (runPhase_shown o n) _ u).trans (.foldl id handStep_shown _ _)
  exact .after_eq (hwork (chosenOrder s) { s with wpu := s.wpu.openCycle k pos, choices := s.choices + 1 }) rfl

end Sys2Proof.Machine
end

section
/-! PROOFS. Every command but a level forced from outside keeps the output lines showing what they drive. -/

namespace Sys2Proof.Machine

/-! ## The events of press and lines -/

theorem forwardEdge_shown (s : State) : KeepsShown s (forwardEdge s) := by
  have hcount : KeepsShown s (releaseGates (followMeasurement
      (modifyWpu (fun w => { w with position := s.wpu.position + 1 }) s))) :=
    (countPosition_shown ..).trans (releaseGates_shown _)
  unfold forwardEdge
  exact .ite (fun _ => .ite (fun _ => boundary_shown ..) fun _ => hcount)
    fun _ => .ite (fun _ => boundary_shown ..) fun _ => hcount

theorem countedEdge_shown (d : Direction) (s : State) : KeepsShown s (countedEdge d s) := by
  unfold countedEdge
  split
  · exact forwardEdge_shown s
  · exact .ite (fun _ => .of_eq rfl) fun _ => .of_eq rfl
  · exact .ite (fun _ => countPosition_shown ..) fun _ => .of_eq rfl
  · exact .ite (fun _ => .of_eq rfl) fun _ => .of_eq rfl

theorem judgeTransition_shown (r now : Levels) (s : State) : KeepsShown s (judgeTransition r now s) := by
  have hedge : ∀ d u, KeepsShown u (countedEdge d (modifyWpu (Wpu.edge d) u)) := fun d u =>
    .after_eq (countedEdge_shown d _) rfl
  unfold judgeTransition
  split
  · exact .refl s
  · exact .after_eq (hedge ..) rfl
  · exact .after_eq (hedge ..) rfl
  · exact .of_eq rfl

theorem watchEncoder_shown (s : State) : KeepsShown s (watchEncoder s) := by
  unfold watchEncoder
  split
  · exact judgeTransition_shown ..
  · exact .refl s

theorem indexSetsBack_shown (s : State) : KeepsShown s (indexSetsBack s) := countPosition_shown ..

theorem takeIndex_shown (s : State) : KeepsShown s (takeIndex s) :=
  .ite (fun _ => .ite (fun _ => boundary_shown ..) fun _ =>
    .ite (fun _ => (indexSetsBack_shown s).then_eq rfl) fun _ =>
    .ite (fun _ => indexSetsBack_shown s) fun _ =>
    .ite (fun _ => boundary_shown ..) fun _ => .refl s) fun _ => .refl s

/-- After a device reset every line is GEN_IN (R176). -/
theorem deviceReset_shown {levels : BitVec 24} {s t : State} (h : exec (.deviceReset levels) s = .next t) :
    KeepsShown s t := by
  cases h
  refine .of_lines fun i v hv => ?_
  simp [lineDrive, driveOf, Line.reset] at hv

/-! ## The head link -/

theorem takeCompletion_shown (h : HeadId) (t : Cycle) (res : PrintResult) (s : State) :
    KeepsShown s (takeCompletion h t res s) := by
  refine .ite (fun _ => ?_) fun _ => .of_eq rfl
  cases res <;> exact .of_eq rfl

theorem setDevice_shown (h : HeadId) (d : Device) (s : State) : KeepsShown s (setDevice h d s) :=
  .ite (fun _ => .refl s) fun _ => .of_eq rfl

theorem failOrders_shown (h : HeadId) (s : State) : KeepsShown s (failOrders h s) :=
  .foldl id (g := fun u t => settleFailed h t u) (fun _ _ => .of_eq rfl) _ s

theorem takeStateMessage_shown (h : HeadId) (rep : HeadReport) (s : State) :
    KeepsShown s (takeStateMessage h rep s) := by
  cases rep with
  | ready => exact setDevice_shown ..
  | fault =>
    rw [takeStateMessage_fault]
    refine .trans (.ite (fun _ => ?_) fun _ => failOrders_shown h s) (setDevice_shown ..)
    exact (failOrders_shown h s).trans (latchStop_shown ..)

theorem takeHeadFrame_shown (f : RxFrame) (s : State) : KeepsShown s (takeHeadFrame f s) := by
  unfold takeHeadFrame
  split
  · exact .refl s
  · split
    · split
      · exact .ite (fun _ => takeCompletion_shown ..) fun _ => .ite (fun _ => takeCompletion_shown ..) fun _ => .refl s
      · exact .refl s
    · split
      · exact .ite (fun _ => takeStateMessage_shown ..) fun _ => .ite (fun _ => takeStateMessage_shown ..) fun _ => .refl s
      · exact .refl s
    · exact .refl s

/-! ## The background operations -/

theorem stepProbe_shown (p : Probe) (s : State) : KeepsShown s (stepProbe p s) := by
  unfold stepProbe
  split
  · exact .of_eq rfl
  · exact .ite (fun _ => .of_eq rfl) fun _ => .of_eq rfl

theorem journalSkip_shown {k : Skip} {job : Nat} {x : Sequence} {v : Nat} {s t : State}
    (h : journalSkip k job x v s = some t) : KeepsShown s t := by
  simp only [journalSkip] at h
  split at h
  · cases h; exact .of_eq rfl
  · split at h
    · cases h; exact journalUnreserved_shown ..
    · cases h

theorem stepSkip_shown (k : Skip) (c : Context) (x : Sequence) (s : State) : KeepsShown s (stepSkip k c x s) := by
  unfold stepSkip
  split
  · exact .of_eq rfl
  · split
    · exact .of_eq rfl
    · next hs => exact (journalSkip_shown hs).trans (.ite (fun _ => .of_eq rfl) fun _ => .of_eq rfl)

theorem execSkipDraw_shown {s t : State} (h : execSkipDraw s = .next t) : KeepsShown s t := by
  cases h
  split
  · refine .ite (fun _ => ?_) fun _ => .refl s
    split
    · exact .refl s
    · split
      · exact .refl s
      · exact stepSkip_shown ..
  · exact .refl s
  · exact .refl s

/-! ## The requests -/

/-- A request keeps what its acceptance keeps. -/
theorem request_shown {p : PortId} {c : Instr} {act : State → Reply} {s t : State} (h : request p c act s = .next t)
    (ha : ∀ u, (act u).Ensures (KeepsShown u)) : KeepsShown s t :=
  request_ensures (P := KeepsShown s) (fun p f _ => modifyPort_shown p f)
    (fun u hu => (ha u).mono fun _ ht => hu.trans ht) h (.refl s)

theorem replyLoadValue_shown (sl sq : Nat) (v : Int) (s : State) : (replyLoadValue sl sq v s).Ensures (KeepsShown s) :=
  ensures_named fun _ => ensures_named fun _ => ensures_require fun _ => ensures_inState fun _ _ => ensures_require fun _ =>
  ensures_require fun _ => ensures_defined fun _ _ => ensures_require fun _ => ensures_require fun _ =>
  ensures_require fun _ => .after_eq (journalUnreserved_shown ..) rfl

theorem replyAddExclusion_shown (sl sq a b : Nat) (s : State) : (replyAddExclusion sl sq a b s).Ensures (KeepsShown s) :=
  ensures_named fun k => ensures_named fun q => ensures_require fun _ => ensures_inState fun c _ =>
  ensures_defined fun _ _ => ensures_require fun _ => ensures_require fun _ => by
    have hjournal : KeepsShown s (journalExclusion k c q a b s) :=
      .ite (fun _ => .refl s) fun _ => journalUnreserved_shown ..
    exact hjournal.then_eq (by simp [State.outputs])

theorem reserveContext_shown (k : SlotId) (s : State) : KeepsShown s (reserveContext k s) :=
  .after_eq (t := { s with ij := _ }) (reserveRecords_shown ..) rfl

theorem returnContext_shown (k : SlotId) (s : State) : KeepsShown s (returnContext k s) :=
  .after_eq (t := { s with ij := _ }) (returnReserved_shown ..) rfl

theorem replyActivate_shown (sl : Nat) (e : Option Nat) (s : State) : (replyActivate sl e s).Ensures (KeepsShown s) :=
  ensures_named fun _ => ensures_effectiveCycle fun _ => ensures_inState fun _ _ => ensures_require fun _ =>
  ensures_require fun _ => ensures_consistent <| ensures_require fun _ =>
  (reserveContext_shown ..).then_eq (by rfl)

theorem withdrawActivation_shown (a : Activation) (s : State) : KeepsShown s (withdrawActivation a s) := by
  have hreturned : KeepsShown s (returnContext a.slot { s with activation := none }) :=
    .after_eq (returnContext_shown ..) rfl
  exact hreturned.then_eq rfl

theorem replyCancelActivation_shown (s : State) : (replyCancelActivation s).Ensures (KeepsShown s) := by
  unfold replyCancelActivation
  split
  · trivial
  · next a _ => exact withdrawActivation_shown a s

theorem replySuspend_shown (sl : Nat) (s : State) : (replySuspend sl s).Ensures (KeepsShown s) :=
  ensures_named fun k => ensures_inState fun _ _ => ensures_require fun _ =>
  .ite (fun _ => (parkContext_shown k s).then_eq rfl) fun _ => .of_eq rfl

theorem endEntry_shown (k : SlotId) (job : Nat) (q : SeqId) (s : State) (e : QueueEntry) :
    KeepsShown s (endEntry k job q s e) :=
  .after_eq (t := modifySequence k q Sequence.voidOldest s) (journalUnreserved_shown ..) rfl

theorem endQueues_shown (k : SlotId) (job : Nat) (s : State) : KeepsShown s (endQueues k job s) :=
  .foldl id (fun u q => .foldl id (endEntry_shown k job q) (queueOf u k q) u) _ s

theorem endJob_shown (k : SlotId) (c : Context) (s : State) : KeepsShown s (endJob k c s) := by
  unfold endJob
  extract_lets s1
  have hended : KeepsShown s1 _ := journalUnreserved_shown k c.job s1.wpu.cycle (.jobEnded (finalCounters k s1)) s1
  exact ((endQueues_shown k c.job s).trans hended).then_eq (by simp [State.outputs])

theorem replyEndJob_shown (sl : Nat) (s : State) : (replyEndJob sl s).Ensures (KeepsShown s) :=
  ensures_named fun k => ensures_inState fun c _ => ensures_require fun _ => ensures_require fun _ =>
  ensures_require fun _ => endJob_shown k c s

theorem replyCancelBackground_shown (s : State) : (replyCancelBackground s).Ensures (KeepsShown s) := by
  unfold replyCancelBackground
  split
  · trivial
  · exact ensures_require fun _ => .of_eq rfl
  · exact ensures_require fun _ => .of_eq rfl

theorem replyClearStop_shown (n : Nat) (s : State) : (replyClearStop n s).Ensures (KeepsShown s) :=
  ensures_coded fun c => by
    split
    · refine ensures_require fun _ => ?_
      rw [clearStop_eq]
      exact .after_eq (changeStops_shown ..) (by split <;> rfl)
    · exact .refl s

theorem replyReadSet_shown (tag page : Nat) (s : State) : (replyReadSet tag page s).Ensures (KeepsShown s) := by
  unfold replyReadSet
  split
  · trivial
  · exact .refl s

/-- A change of a context in BUILDING reaches no line. -/
theorem building_shown {k : SlotId} {s : State} {f : Context → Context} {r : Context → List Byte} :
    (building s k fun c => .accept (modifyContext k f s) (r c)).Ensures (KeepsShown s) :=
  ensures_inState fun _ _ => .of_eq rfl

/-! ## Every command -/

theorem execGarbledFrame_shown {p : PortId} {s t : State} (h : execGarbledFrame p s = .next t) : KeepsShown s t := by
  obtain ⟨hwaits, htaken⟩ := takeFrame_ensures (P := KeepsShown s) (fun p f _ => modifyPort_shown p f) (p := p)
    (f := .garbled) (.refl s)
  cases h
  split
  · next u hu => exact hwaits u hu
  · next u hu => exact (htaken u hu).then_eq rfl

theorem execUnknownRequestCode_shown {p : PortId} {body : List Byte} {s t : State}
    (h : execUnknownRequestCode p body s = .next t) : KeepsShown s t := by
  cases h
  exact .ite (fun _ => .refl s) fun _ =>
    onFrame_ensures (P := KeepsShown s) (fun p f _ => modifyPort_shown p f) (fun _ hu => hu.then_eq rfl) (.refl s)

/-- Every command but a level forced from outside keeps the outputs showing their drives. -/
theorem exec_shown {c : Instr} {s t : State} (hc : ∀ (i : LineId) (v : Bool), c ≠ .fieldLineLevelChange i v)
    (h : exec c s = .next t) : KeepsShown s t := by
  cases c with
  | fieldLineLevelChange line level => exact absurd rfl (hc line level)
  | deviceReset levels => exact deviceReset_shown h
  | encoderTransition a b =>
    cases h
    exact (showDriven_input rfl a s).trans ((showDriven_input rfl b _).trans (watchEncoder_shown _))
  | indexEdge => cases h; exact .ite (fun _ => (showDriven_input rfl true s).trans (takeIndex_shown _)) fun _ => .refl s
  | markEdge channel =>
    cases h; exact .ite (fun _ => (showDriven_input rfl true s).trans (markEdge_shown channel _)) fun _ => .refl s
  | orderDeadline head => cases h; exact .of_eq (outputs_eq (expireHead_lm head s) (expireHead_sameSets head s).gates)
  | orderSend => cases h; exact .of_eq (by simp [State.outputs, sendOrder_st])
  | orderFrameEnd => cases h; exact .of_eq rfl
  | completion head tag result => cases h; exact takeCompletion_shown ..
  | stateMessage head report => cases h; exact takeStateMessage_shown ..
  | headFrameDiscard => cases h; exact .of_eq rfl
  | headLinkGapTimeout | headLinkBadStopBit => cases h; exact .ite (fun _ => .of_eq rfl) fun _ => .refl s
  | headLinkByteReceived byte =>
    cases h
    split
    · exact .of_eq rfl
    · exact .after_eq (t := headLinkHunting s) (takeHeadFrame_shown ..) rfl
  | probeDraw =>
    cases h
    split
    · exact .ite (fun _ => stepProbe_shown ..) fun _ => .refl s
    · exact .refl s
    · exact .refl s
  | skipDraw => exact execSkipDraw_shown h
  | skipResume => cases h; exact resumeSkip_shown s
  | portFrameReceived port frame => cases h; exact modifyPort_shown _ _ (.refl s)
  | portByteReceived port byte => cases h; split <;> exact modifyPort_shown _ _ (.refl s)
  | frameGapTimeout port | badStopBit port =>
    cases h; exact .ite (fun _ => modifyPort_shown _ _ (.refl s)) fun _ => .refl s
  | portReset port => cases h; exact modifyPort_shown _ _ (.refl s)
  | garbledFrame port => exact execGarbledFrame_shown h
  | unknownRequestCode port body => exact execUnknownRequestCode_shown h
  | frameSendStart port => cases h; exact modifyPort_shown _ _ (.refl s)
  | frameSendEnd port => cases h; exact modifyPort_shown _ _ (.refl s)
  | edgeAgeTick => cases h; exact .of_eq rfl
  | defineSequence p sl sq d f l st po sc =>
    exact request_shown h fun _ => ensures_named fun _ => ensures_named fun _ => ensures_require fun _ =>
      ensures_require fun _ => ensures_coded fun _ => ensures_coded fun _ => ensures_inState fun _ _ =>
      ensures_require fun _ => .of_eq rfl
  | loadValue p sl sq v => exact request_shown h (replyLoadValue_shown sl sq v)
  | addExclusion p sl sq a b => exact request_shown h (replyAddExclusion_shown sl sq a b)
  | removeExclusion p sl sq a =>
    exact request_shown h fun _ => ensures_named fun _ => ensures_named fun _ => ensures_require fun _ =>
      ensures_inState fun _ _ => ensures_defined fun _ _ => ensures_require fun _ => .of_eq (by simp [State.outputs])
  | withdrawReprint p sl sq v => exact request_shown h (replyWithin_shown (c := .withdrawReprint p sl sq v) rfl)
  | defineEntry p sl e la mo so rf =>
    exact request_shown h fun _ => ensures_named fun _ => ensures_named fun _ => ensures_namedLane fun _ =>
      ensures_entryMode fun _ => ensures_inState fun _ _ => ensures_require fun _ => .of_eq rfl
  | trimList p sl n => exact request_shown h fun _ => ensures_named fun _ => ensures_require fun _ => building_shown
  | assignHead p sl hd a =>
    exact request_shown h fun _ => ensures_named fun _ => ensures_named fun _ => ensures_assigned fun _ => building_shown
  | defineFormat p sl f items =>
    exact request_shown h fun _ => ensures_named fun _ => ensures_named fun _ => ensures_require fun _ =>
      ensures_coded fun _ => building_shown
  | defineMarks p sl ch en ps tol =>
    exact request_shown h fun _ => ensures_named fun _ => ensures_namedChannel fun _ => ensures_flag fun _ =>
      ensures_channelMarks fun _ => building_shown
  | setMarkWindow p sl m c => exact request_shown h fun _ => ensures_named fun _ => ensures_require fun _ => building_shown
  | setInspection p sl la e =>
    exact request_shown h fun _ => ensures_named fun _ => ensures_namedLane fun _ => ensures_entryOrNone fun _ =>
      building_shown
  | openContext p sl job lanes po li =>
    exact request_shown h fun _ => ensures_named fun _ => ensures_require fun _ => ensures_coded fun _ =>
      ensures_require fun _ => ensures_require fun _ => .of_eq rfl
  | discard p sl =>
    exact request_shown h fun _ => ensures_named fun _ => ensures_inState fun _ _ => ensures_require fun _ => .of_eq rfl
  | closeBuild p sl =>
    exact request_shown h fun _ => ensures_named fun _ => ensures_inState fun _ _ => ensures_consistent (.of_eq rfl)
  | reopen p sl =>
    exact request_shown h fun _ => ensures_named fun _ => ensures_inState fun _ _ => ensures_require fun _ =>
      ensures_require fun _ => .of_eq rfl
  | activate p sl e => exact request_shown h (replyActivate_shown sl e)
  | cancelActivation p => exact request_shown h replyCancelActivation_shown
  | suspend p sl => exact request_shown h (replySuspend_shown sl)
  | flush p sl =>
    exact request_shown h fun u => ensures_named fun k => ensures_inState fun _ _ => ensures_require fun _ =>
      .after_eq (t := flushSets k u) (journalUnreserved_shown ..) rfl
  | endJob p sl => exact request_shown h (replyEndJob_shown sl)
  | probeSequence p sl sq n =>
    exact request_shown h fun _ => ensures_named fun _ => ensures_named fun _ => ensures_require fun _ =>
      ensures_inState fun _ _ => ensures_require fun _ => ensures_defined fun _ _ => .of_eq rfl
  | skipAhead p sl sq n =>
    exact request_shown h fun _ => ensures_named fun _ => ensures_named fun _ => ensures_require fun _ =>
      ensures_inState fun _ _ => ensures_require fun _ => ensures_require fun _ => ensures_defined fun _ _ => .of_eq rfl
  | cancelBackground p => exact request_shown h replyCancelBackground_shown
  | setWeb p r tol =>
    exact request_shown h fun _ => ensures_require fun _ => ensures_require fun _ => countPosition_shown ..
  | setLags p m q g =>
    exact request_shown h fun _ => ensures_require fun _ => ensures_require fun _ => ensures_require fun _ =>
      ensures_require fun _ => .of_eq rfl
  | openRun p | closeRun p => exact request_shown h fun _ => KeepsShown.of_eq rfl
  | placeHead p hd pl =>
    exact request_shown h fun _ => ensures_named fun _ => ensures_placed fun _ => ensures_require fun _ => .of_eq rfl
  | setRegStop p n | setGate p n =>
    exact request_shown h fun _ => ensures_require fun _ => ensures_require fun _ => .of_eq rfl
  | reportRead p la ds c =>
    exact request_shown h fun _ => ensures_namedLane fun _ => ensures_require fun _ => ensures_reportedCheck fun _ =>
      ensures_inWindow fun _ _ => .of_eq rfl
  | reportDefect p la d =>
    exact request_shown h fun _ => ensures_namedLane fun _ => ensures_require fun _ => ensures_inWindow fun _ _ =>
      .of_eq rfl
  | rejectSets p t c m =>
    exact request_shown h fun _ => ensures_require fun _ => ensures_require fun _ => .of_eq rfl
  | releaseJournal p i => exact request_shown h fun _ => releaseRecords_shown ..
  | assignLine p li f u =>
    exact request_shown h fun _ => ensures_named fun _ => ensures_coded fun _ => ensures_flag fun _ =>
      ensures_require fun _ => ensures_require fun _ => assignLine_shown ..
  | writeLines p m l => exact request_shown h (writeLatches_shown m l)
  | setStop p => exact request_shown h (latchStop_shown .operatorStop)
  | clearStop p c => exact request_shown h (replyClearStop_shown c)
  | setRole p n r =>
    exact request_shown h fun u => ensures_named fun _ => ensures_grantable fun _ => ensures_require fun _ =>
      ensures_require fun _ => modifyPort_shown _ _ (.refl u)
  | setNotices p c => exact request_shown h fun u => ensures_require fun _ => modifyPort_shown _ _ (.refl u)
  | readStatus p | readLines p | readBackground p => exact request_shown h .refl
  | readRegistration p pg => exact request_shown h .refl
  | readHead p hd => exact request_shown h fun u => ensures_named fun _ => .refl u
  | readSet p tag pg => exact request_shown h (replyReadSet_shown tag (pg.getD 0))
  | readSequence p sl sq pg => exact request_shown h (replyWithin_shown (c := .readSequence p sl sq pg) rfl)
  | readQueue p sl sq pg => exact request_shown h (replyWithin_shown (c := .readQueue p sl sq pg) rfl)
  | readContext p sl part f => exact request_shown h (replyWithin_shown (c := .readContext p sl part f) rfl)
  | readJournal p i n => exact request_shown h (replyWithin_shown (c := .readJournal p i n) rfl)

/-- Settles O59: every other command keeps what the outputs show. -/
theorem outputsShowTheirDrive : Obligations.OutputsShowTheirDrive :=
  fun _ _ _ hc hs h => (exec_shown hc h).shown hs

end Sys2Proof.Machine
end

section
/-! PROOFS. Every well-formed request reads back from its body (R190, R197). -/

namespace Sys2Proof

/-! ## Numbers of fixed widths -/

@[simp] theorem fields_be {w v : Nat} (h : fitsBytes w v = true) (ws : List Nat) (bs : List Byte) :
    fields (w :: ws) (be w v ++ bs) = (fields ws bs).map (v :: ·) := by
  simp [fields, takeNumber_be (fitsBytes_iff.mp h)]

@[simp] theorem fields_be_last {w v : Nat} (h : fitsBytes w v = true) : fields [w] (be w v) = some [v] := by
  simpa [fields] using fields_be h [] []

@[simp] theorem fitsBytes_zero (w : Nat) : fitsBytes w 0 = true := by simp [fitsBytes]

@[simp] theorem fitsBytes_one_one : fitsBytes 1 1 = true := by decide

theorem byte_toNat {v : Nat} (h : fitsBytes 1 v = true) : (BitVec.ofNat 8 v).toNat = v := by
  simpa using fitsBytes_iff.mp h

theorem be_one (v : Nat) : be 1 v = [BitVec.ofNat 8 v] := by simp [be]

/-- A signed number is read back from its two's complement (R197). -/
theorem signedOf_emod {n : Nat} {v : Int} (h : fitsSigned n v = true) :
    signedOf n (v % (256 ^ n : Int)).toNat = v ∧ fitsBytes n (v % (256 ^ n : Int)).toNat = true := by
  simp only [fitsSigned, Bool.and_eq_true, decide_eq_true_eq] at h
  obtain ⟨hlow, hhigh⟩ := h
  have hcast : ((256 ^ n : Nat) : Int) = 256 ^ n := by push_cast; rfl
  rw [fitsBytes_iff, signedOf, ← hcast]
  rw [← hcast] at hlow hhigh
  generalize 256 ^ n = m at *
  rcases lt_or_ge v 0 with hneg | hpos
  · have hmod : v % (m : Int) = v + m := by
      rw [← Int.add_emod_right, Int.emod_eq_of_lt] <;> omega
    rw [hmod]
    split <;> omega
  · rw [Int.emod_eq_of_lt hpos (by omega)]
    split <;> omega

theorem parse_defineSequence {p : PortId} {sl sq d f l po sc : Nat} {st : Int}
    (h : Instr.wf (.defineSequence p sl sq d f l st po sc) = true) :
    parseRequest p (encodeRequest (.defineSequence p sl sq d f l st po sc)) =
      some (.defineSequence p sl sq d f l st po sc) := by
  simp only [Instr.wf, Bool.and_eq_true] at h
  obtain ⟨⟨⟨hnumbers, hst⟩, hpo⟩, hsc⟩ := h
  obtain ⟨hsigned, hfits⟩ := signedOf_emod hst
  simp only [encodeRequest, requestCode, encodeParameters]
  generalize (st % (256 ^ 2 : Int)).toNat = u at *
  simp [parseRequest, parseParameters, writeFields, hnumbers, hfits, hpo, hsc, hsigned]

theorem parse_loadValue {p : PortId} {sl sq : Nat} {v : Int} (h : Instr.wf (.loadValue p sl sq v) = true) :
    parseRequest p (encodeRequest (.loadValue p sl sq v)) = some (.loadValue p sl sq v) := by
  simp only [Instr.wf, Bool.and_eq_true] at h
  obtain ⟨hnames, hv⟩ := h
  obtain ⟨hsigned, hfits⟩ := signedOf_emod hv
  simp only [encodeRequest, requestCode, encodeParameters]
  generalize (v % (256 ^ 5 : Int)).toNat = u at *
  simp [parseRequest, parseParameters, writeFields, hnames, hfits, hsigned]

/-! ## Optional parameters: the shorter layout does not fit the longer body -/

theorem parse_placeHead {p : PortId} {h : Nat} {q : Option RawPlacement} (hwf : Instr.wf (.placeHead p h q) = true) :
    parseRequest p (encodeRequest (.placeHead p h q)) = some (.placeHead p h q) := by
  simp only [Instr.wf, Bool.and_eq_true] at hwf
  obtain ⟨hh, hq⟩ := hwf
  cases q with
  | none => simp [encodeRequest, requestCode, encodeParameters, parseRequest, parseParameters, writeFields, hh]
  | some q =>
    simp only [Option.all_some, Bool.and_eq_true] at hq
    have hshort : fields [1, 1] (encodeParameters (.placeHead p h (some q))) = none :=
      fields_eq_none (by simp [encodeParameters, writeFields, be])
    have hlong : fields [1, 1, 1, 1, 1] (encodeParameters (.placeHead p h (some q))) =
        some [h, 1, q.ply, q.lane, q.lag] := by
      simp [encodeParameters, writeFields, hh, hq]
    simp [encodeRequest, requestCode, parseRequest, parseParameters, hshort, hlong]

theorem parse_assignHead {p : PortId} {sl h : Nat} {a : Option RawAssignment}
    (hwf : Instr.wf (.assignHead p sl h a) = true) :
    parseRequest p (encodeRequest (.assignHead p sl h a)) = some (.assignHead p sl h a) := by
  simp only [Instr.wf, Bool.and_eq_true] at hwf
  obtain ⟨hnames, ha⟩ := hwf
  cases a with
  | none => simp [encodeRequest, requestCode, encodeParameters, parseRequest, parseParameters, writeFields, hnames]
  | some a =>
    simp only [Option.all_some, Bool.and_eq_true] at ha
    have hshort : fields [1, 1, 1] (encodeParameters (.assignHead p sl h (some a))) = none :=
      fields_eq_none (by simp [encodeParameters, writeFields, be])
    have hlong : fields [1, 1, 1, 1, 1] (encodeParameters (.assignHead p sl h (some a))) =
        some [sl, h, 1, a.entry, a.format] := by
      simp [encodeParameters, writeFields, hnames, ha]
    simp [encodeRequest, requestCode, parseRequest, parseParameters, hshort, hlong]

theorem parse_activate {p : PortId} {sl : Nat} {x : Option Nat} (h : Instr.wf (.activate p sl x) = true) :
    parseRequest p (encodeRequest (.activate p sl x)) = some (.activate p sl x) := by
  simp only [Instr.wf, Bool.and_eq_true] at h
  obtain ⟨hsl, hx⟩ := h
  cases x with
  | none => simp [encodeRequest, requestCode, encodeParameters, parseRequest, parseParameters, writeFields, hsl]
  | some x =>
    have hshort : fields [1, 1] (encodeParameters (.activate p sl (some x))) = none :=
      fields_eq_none (by simp [encodeParameters, writeFields, be])
    have hlong : fields [1, 1, 4] (encodeParameters (.activate p sl (some x))) = some [sl, 1, x] := by
      simp_all [encodeParameters, writeFields]
    simp [encodeRequest, requestCode, parseRequest, parseParameters, hshort, hlong]

theorem parse_readSet {p : PortId} {t : Nat} {pg : Option Nat} (h : Instr.wf (.readSet p t pg) = true) :
    parseRequest p (encodeRequest (.readSet p t pg)) = some (.readSet p t pg) := by
  simp only [Instr.wf, Bool.and_eq_true] at h
  obtain ⟨ht, hpg⟩ := h
  cases pg with
  | none => simp [encodeRequest, requestCode, encodeParameters, parseRequest, parseParameters, writeFields, writePage, ht]
  | some x =>
    have hshort : fields [4] (encodeParameters (.readSet p t (some x))) = none :=
      fields_eq_none (by simp [encodeParameters, writeFields, writePage, be])
    have hlong : fields [4, 1] (encodeParameters (.readSet p t (some x))) = some [t, x] := by
      simp_all [encodeParameters, writeFields, writePage, pageFits]
    simp [encodeRequest, requestCode, parseRequest, parseParameters, hshort, hlong]

theorem parse_readRegistration {p : PortId} {pg : Option Nat} (h : Instr.wf (.readRegistration p pg) = true) :
    parseRequest p (encodeRequest (.readRegistration p pg)) = some (.readRegistration p pg) := by
  cases pg with
  | none => rfl
  | some x =>
    have hx : (BitVec.ofNat 8 x).toNat = x := byte_toNat h
    have hfields : fields [1] [BitVec.ofNat 8 x] = some [x] := by rw [← be_one]; exact fields_be_last h
    simp [encodeRequest, requestCode, encodeParameters, parseRequest, parseParameters, writePage, be_one, hfields]

/-! ## Counted parameters: items, positions and digits after their count byte -/

theorem takeItem_writeItem {i : RawItem} (h : i.wf = true) (rest : List Byte) :
    takeItem (writeItem i ++ rest) = some (i, rest) := by
  cases i with
  | literal t =>
    have hlen : (BitVec.ofNat 8 t.length).toNat = t.length := by
      simpa [RawItem.wf, fitsCount] using h
    simp [takeItem, writeItem, hlen]
  | number r f =>
    simp only [RawItem.wf, Bool.and_eq_true] at h
    simp [takeItem, writeItem, be_one, byte_toNat h.1, byte_toNat h.2]
  | check r => simp [takeItem, writeItem, be_one, byte_toNat h]
  | lane | ply | job => rfl

theorem takeItems_writeItems {l : List RawItem} (h : ∀ i ∈ l, i.wf = true) :
    takeItems l.length (l.flatMap writeItem) = some l := by
  induction l with
  | nil => rfl
  | cons i l ih =>
    obtain ⟨hi, hl⟩ := List.forall_mem_cons.mp h
    simp [takeItems, takeItem_writeItem hi, ih hl]

theorem parse_defineFormat {p : PortId} {sl f : Nat} {l : List RawItem} (h : Instr.wf (.defineFormat p sl f l) = true) :
    parseRequest p (encodeRequest (.defineFormat p sl f l)) = some (.defineFormat p sl f l) := by
  simp only [Instr.wf, Bool.and_eq_true, List.all_eq_true] at h
  obtain ⟨⟨⟨⟨hsl, hf⟩, hcount⟩, hitems⟩, -⟩ := h
  have hlen : (BitVec.ofNat 8 l.length).toNat = l.length := byte_toNat hcount
  simp [encodeRequest, requestCode, encodeParameters, parseRequest, parseParameters, writeFields, be_one, byte_toNat hsl,
    byte_toNat hf, hlen, takeItems_writeItems hitems]

/-- The positions and the tolerance of DEFINE_MARKS are read back by their count (R197). -/
theorem takeMarks_written {ps : List Nat} {t : Nat} (hps : ∀ x ∈ ps, fitsBytes 3 x = true) (ht : fitsBytes 2 t = true) :
    takeMarks ps.length (writeFields (ps.map (3, ·) ++ [(2, t)])) = some (ps, t) := by
  have hfields := fields_writeFields (l := ps.map (3, ·) ++ [(2, t)]) fun f hf => by
    rcases List.mem_append.mp hf with hf | hf
    · obtain ⟨x, hx, rfl⟩ := List.mem_map.mp hf
      exact fitsBytes_iff.mp (hps x hx)
    · obtain rfl := List.mem_singleton.mp hf
      exact fitsBytes_iff.mp ht
  have hwidths : (ps.map (3, ·) ++ [(2, t)]).map Prod.fst = List.replicate ps.length 3 ++ [2] := by
    simp [Function.comp_def, List.map_const']
  have hvalues : (ps.map (3, ·) ++ [(2, t)]).map Prod.snd = ps ++ [t] := by simp [Function.comp_def]
  rw [hwidths, hvalues] at hfields
  simp [takeMarks, hfields]

theorem parse_defineMarks {p : PortId} {sl c en t : Nat} {ps : List Nat}
    (h : Instr.wf (.defineMarks p sl c en ps t) = true) :
    parseRequest p (encodeRequest (.defineMarks p sl c en ps t)) = some (.defineMarks p sl c en ps t) := by
  simp only [Instr.wf, Bool.and_eq_true, List.all_eq_true] at h
  obtain ⟨⟨⟨⟨⟨⟨hsl, hc⟩, hen⟩, hcount⟩, hps⟩, ht⟩, -⟩ := h
  have hlen : (BitVec.ofNat 8 ps.length).toNat = ps.length := byte_toNat hcount
  have hmarks := takeMarks_written hps ht
  simp only [encodeRequest, requestCode, encodeParameters]
  generalize writeFields (ps.map (3, ·) ++ [(2, t)]) = bs at *
  simp [parseRequest, parseParameters, writeFields, be_one, byte_toNat hsl, byte_toNat hc, byte_toNat hen, hlen, hmarks]

theorem parse_reportRead {p : PortId} {la c : Nat} {ds : List Byte} (h : Instr.wf (.reportRead p la ds c) = true) :
    parseRequest p (encodeRequest (.reportRead p la ds c)) = some (.reportRead p la ds c) := by
  simp only [Instr.wf, Bool.and_eq_true] at h
  obtain ⟨⟨⟨hla, hcount⟩, hc⟩, -⟩ := h
  have hlen : (BitVec.ofNat 8 ds.length).toNat = ds.length := byte_toNat hcount
  simp [encodeRequest, requestCode, encodeParameters, parseRequest, parseParameters, writeFields, be_one, byte_toNat hla,
    byte_toNat hc, hlen]

/-- Settles O52: most requests are numbers of fixed widths or no bytes at all; those with signed numbers, optional parameters
and counted lists read back by their own lemmas. -/
theorem requestRoundTrip : Obligations.RequestRoundTrip := by
  intro c p hp hwf
  cases c with
  | defineSequence => cases hp; exact parse_defineSequence hwf
  | loadValue => cases hp; exact parse_loadValue hwf
  | placeHead => cases hp; exact parse_placeHead hwf
  | assignHead => cases hp; exact parse_assignHead hwf
  | activate => cases hp; exact parse_activate hwf
  | readSet => cases hp; exact parse_readSet hwf
  | readRegistration => cases hp; exact parse_readRegistration hwf
  | readContext => cases hp; exact parse_readContext hwf
  | readSequence =>
    cases hp
    simp only [Instr.wf, Bool.and_eq_true, fitsBytes_iff] at hwf
    obtain ⟨⟨hsl, hsq⟩, hpg⟩ := hwf
    exact (parse_pagedReads hsl hsq hpg).1
  | readQueue =>
    cases hp
    simp only [Instr.wf, Bool.and_eq_true, fitsBytes_iff] at hwf
    obtain ⟨⟨hsl, hsq⟩, hpg⟩ := hwf
    exact (parse_pagedReads hsl hsq hpg).2
  | defineFormat => cases hp; exact parse_defineFormat hwf
  | defineMarks => cases hp; exact parse_defineMarks hwf
  | reportRead => cases hp; exact parse_reportRead hwf
  | _ =>
    cases hp
    all_goals
      simp only [Instr.wf, Bool.and_eq_true] at hwf
      simp [encodeRequest, requestCode, encodeParameters, parseRequest, parseParameters, writeFields, hwf]

end Sys2Proof
end

section
/-! PROOFS. A port's receiver and its buffer: what ends a frame, the bytes of a whole frame one by one, and a port reset. -/

namespace Sys2Proof.Machine

/-! ## What ends a frame, and what does not (R188, R189, R192) -/

/-- A port's receiver stands in another state. -/
def withReceiver (p : PortId) (r : Receiver) (s : State) : State := modifyPort p (fun q => { q with receiver := r }) s

@[simp] theorem withReceiver_receiver (p : PortId) (r : Receiver) (s : State) :
    (withReceiver p r s).ports[(p : Nat)].receiver = r := by
  simp [withReceiver]

@[simp] theorem withReceiver_withReceiver (p : PortId) (r r' : Receiver) (s : State) :
    withReceiver p r' (withReceiver p r s) = withReceiver p r' s := by
  simp [withReceiver, modifyPort, updateAt]

/-- A frame that ends puts the receiver in HUNTING wherever it stood. -/
@[simp] theorem endFrame_withReceiver (p : PortId) (r : Receiver) (f : RxFrame) (s : State) :
    endFrame p f (withReceiver p r s) = endFrame p f s := by
  simp [endFrame, withReceiver, modifyPort, updateAt]

theorem portByteReceived_within {p : PortId} {b : Byte} {r : Receiver} {s : State}
    (h : s.ports[(p : Nat)].receiver.step b = .within r) : exec (.portByteReceived p b) s = .next (withReceiver p r s) := by
  change execPortByteReceived p b s = _
  simp only [execPortByteReceived, Fin.getElem_fin, h, withReceiver]

theorem portByteReceived_ended {p : PortId} {b : Byte} {f : RxFrame} {s : State}
    (h : s.ports[(p : Nat)].receiver.step b = .ended f) : exec (.portByteReceived p b) s = .next (endFrame p f s) := by
  change execPortByteReceived p b s = _
  simp only [execPortByteReceived, Fin.getElem_fin, h]

theorem portFrameReceived_sound (p : PortId) {body : List Byte} (hpos : 1 ≤ body.length) (hlen : body.length ≤ 128)
    (s : State) : exec (.portFrameReceived p (.sound body)) s = .next (endFrame p (.sound body) s) := by
  change execPortFrameReceived p _ s = _
  simp [execPortFrameReceived, RxFrame.checked, fitsFrame, hpos, hlen]

theorem Receiver.inFrame_eq_true {r : Receiver} : r.inFrame = true ↔ r ≠ .hunting := by
  cases r <;> simp [Receiver.inFrame]

theorem endGarbled_hunting {p : PortId} {s : State} (h : s.ports[p].receiver = .hunting) : endGarbled p s = s := by
  simp only [endGarbled, h]; rfl

theorem endGarbled_inFrame {p : PortId} {s : State} (h : s.ports[p].receiver ≠ .hunting) :
    endGarbled p s = endFrame p .garbled s := if_pos (Receiver.inFrame_eq_true.mpr h)

/-- Settles O49: every way a frame ends is endFrame; a gap or a bad stop bit is one of them within a frame only. -/
theorem portReceives : Obligations.PortReceives := by
  unfold Obligations.PortReceives
  intro s p
  refine ⟨fun body hpos hlen => portFrameReceived_sound p hpos hlen s, rfl, fun b r hr => portByteReceived_within hr,
    fun b f hf => portByteReceived_ended hf, fun h => ?_, fun h => ?_, rfl⟩
  · exact ⟨congrArg Host.Outcome.next (endGarbled_hunting h), congrArg Host.Outcome.next (endGarbled_hunting h)⟩
  · exact ⟨congrArg Host.Outcome.next (endGarbled_inFrame h), congrArg Host.Outcome.next (endGarbled_inFrame h)⟩

/-! ## The bytes of a whole frame (R187, R188) -/

/-- A port takes the next byte, after a step that came to a next state. -/
def takeByte (p : PortId) (o : Host.Outcome State Fault Refusal) (b : Byte) : Host.Outcome State Fault Refusal :=
  match o with
  | .next t => exec (.portByteReceived p b) t
  | .fault f => .fault f
  | .refused r => .refused r

theorem takeByte_within {p : PortId} {b : Byte} {r r' : Receiver} (h : r.step b = .within r') (s : State) :
    takeByte p (.next (withReceiver p r s)) b = .next (withReceiver p r' s) := by
  have hbyte : exec (.portByteReceived p b) (withReceiver p r s) = .next (withReceiver p r' (withReceiver p r s)) :=
    portByteReceived_within (by simpa using h)
  rwa [withReceiver_withReceiver] at hbyte

theorem takeByte_ended {p : PortId} {b : Byte} {r : Receiver} {f : RxFrame} (h : r.step b = .ended f) (s : State) :
    takeByte p (.next (withReceiver p r s)) b = .next (endFrame p f s) := by
  have hbyte : exec (.portByteReceived p b) (withReceiver p r s) = .next (endFrame p f (withReceiver p r s)) :=
    portByteReceived_ended (by simpa using h)
  rwa [endFrame_withReceiver] at hbyte

/-- The bytes that a body still lacks bring its receiver to CHECK. -/
theorem takeBytes_body {p : PortId} {s : State} (bs : List Byte) (b : Byte) (got : List Byte) :
    (b :: bs).foldl (takeByte p) (.next (withReceiver p (.body (got.length + bs.length + 1) got) s)) =
      .next (withReceiver p (.check (got ++ b :: bs) none) s) := by
  induction bs generalizing b got with
  | nil => exact takeByte_within (by simp [Receiver.step]) s
  | cons b' bs ih =>
    have hstep : (Receiver.body (got.length + (b' :: bs).length + 1) got).step b =
        .within (.body ((got ++ [b]).length + bs.length + 1) (got ++ [b])) := by
      simp [Receiver.step]; omega
    rw [List.foldl_cons, takeByte_within hstep, ih b' (got ++ [b]), List.append_assoc, List.singleton_append]

/-- The two bytes of a frame's check end it sound. -/
theorem takeBytes_check (p : PortId) (body : List Byte) (s : State) :
    (be 2 (crc (byte body.length :: body)).toNat).foldl (takeByte p) (.next (withReceiver p (.check body none) s)) =
      .next (endFrame p (.sound body) s) := by
  obtain ⟨hi, lo, hcheck⟩ : ∃ hi lo, be 2 (crc (byte body.length :: body)).toNat = [hi, lo] := ⟨_, _, rfl⟩
  have hhigh : (Receiver.check body none).step hi = .within (.check body (some hi)) := rfl
  have hlow : (Receiver.check body (some hi)).step lo = .ended (.sound body) := if_pos hcheck.symm
  rw [hcheck, List.foldl_cons, takeByte_within hhigh, List.foldl_cons, takeByte_ended hlow, List.foldl_nil]

/-- Settles O53: SYNC and LEN bring the receiver into the body, the body into the check, and the check ends the frame. -/
theorem frameReceivedWhole : Obligations.FrameReceivedWhole := by
  intro p body s hpos hlen hhunting
  change (frameBytes body).foldl (takeByte p) (.next s) = _
  have hself : withReceiver p .hunting s = s := modifyPort_of_fixed (by rw [← hhunting])
  have hsync : Receiver.hunting.step 0xC5 = .within .length := rfl
  have hbyte : (byte body.length).toNat = body.length := by
    simp only [byte, BitVec.toNat_ofNat]; omega
  have hcount : Receiver.length.step (byte body.length) = .within (.body body.length []) := by
    simp [Receiver.step, hbyte, hpos, hlen]
  obtain ⟨b, bs, hcons⟩ := List.exists_cons_of_length_pos hpos
  have hbody : body.foldl (takeByte p) (.next (withReceiver p (.body body.length []) s)) =
      .next (withReceiver p (.check body none) s) := by
    subst hcons
    simpa using takeBytes_body (p := p) (s := s) bs b []
  calc (frameBytes body).foldl (takeByte p) (.next s)
      = (be 2 (crc (byte body.length :: body)).toNat).foldl (takeByte p)
          (body.foldl (takeByte p) (takeByte p (takeByte p (.next (withReceiver p .hunting s)) 0xC5) (byte body.length))) := by
        rw [hself, frameBytes, List.foldl_append]; rfl
    _ = .next (endFrame p (.sound body) s) := by
        rw [takeByte_within hsync, takeByte_within hcount, hbody, takeBytes_check]
    _ = exec (.portFrameReceived p (.sound body)) s := (portFrameReceived_sound p hpos hlen s).symm

end Sys2Proof.Machine
end

section
/-! PROOFS. Frames that are no request, requests outside the port's role, and the writes of roles and subscriptions. -/

namespace Sys2Proof.Machine

/-! ## Frames that a port answers without serving them (R190) -/

theorem takeFrame_next {p : PortId} {f : RxFrame} {s : State} (h : nextFrame s.ports[p].buffer = some f) :
    takeFrame p f s = .taken (takenOn p s) := by
  simp only [takeFrame, h, if_true]; rfl

/-- A response behind all that waits, when nothing but the taking of its frame has changed. -/
theorem answerAt_takenOn (p : PortId) (code : Nat) (st : Status) (s : State) :
    answerAt p (takenOn p s).ports[p].out.length code st [] (takenOn p s) = { s with ports := s.ports.set p { s.ports[p] with
      buffer := markTaken s.ports[p].buffer,
      out := s.ports[p].out ++
        [{ response := true, body := [byte (code ||| 0x80), st.code, 0] ++ be 4 s.wpu.cycle.toNat }] } } := by
  simp [answerAt, takenOn, modifyPort, updateAt, responseBody, wordBytes]

theorem garbledFrame_answered {p : PortId} {s : State} (h : nextFrame s.ports[p].buffer = some .garbled) :
    exec (.garbledFrame p) s =
      .next (answerAt p (takenOn p s).ports[p].out.length 0 .garbled [] (takenOn p s)) := by
  change execGarbledFrame p s = _
  simp only [execGarbledFrame, takeFrame_next h]

theorem unknownRequestCode_answered {p : PortId} {c : Byte} {rest : List Byte} {s : State}
    (h : nextFrame s.ports[p].buffer = some (.sound (c :: rest))) (hlen : rest.length ≤ 127)
    (hno : parseRequest p (c :: rest) = none) :
    exec (.unknownRequestCode p (c :: rest)) s =
      .next (answerAt p (takenOn p s).ports[p].out.length c.toNat (bodyStatus s.ports[p].role c.toNat) []
        (takenOn p s)) := by
  have hfit : fitsFrame (c :: rest) = true := by simp [fitsFrame]; omega
  change execUnknownRequestCode p (c :: rest) s = _
  simp [execUnknownRequestCode, hno, onFrame, hfit, takeFrame_next h]

/-! ## The roles (R193) -/

/-- The table of R193, as the requests outside each role. -/
def OutsideRole (r : Role) (code : Nat) : Prop :=
  match r with
  | .supervisor => code = 0x15 ∨ code = 0x16
  | .drive => code < 0x30 ∧ code ∉ [0x0A, 0x0B, 0x17, 0x25, 0x27, 0x29]
  | .inspect => code < 0x30 ∧ code ∉ [0x15, 0x16, 0x29]
  | .monitor => code < 0x30 ∧ code ≠ 0x29

theorem admits_eq_false {r : Role} {code : Nat} (h : OutsideRole r code) : r.admits code = false := by
  cases r with
  | supervisor => rcases h with rfl | rfl <;> rfl
  | drive | inspect | monitor =>
    obtain ⟨hlow, hlisted⟩ := h
    have hread : isRead code = false := by simp only [isRead, Bool.and_eq_false_iff, decide_eq_false_iff_not]; omega
    simp_all [Role.admits]

theorem request_outside_role {p : PortId} {c : Instr} {s : State} {code : Nat} (hp : portOf c = some p)
    (hcode : requestCode c = some code) (hfront : AtFront p c s) (hdenied : s.ports[p].role.admits code = false) :
    exec c s = .next (refused p c .roleDenied [] s) := by
  obtain ⟨act, hexec⟩ := exec_request hp
  rw [hexec, request_denied hfront (by simpa [hcode] using hdenied)]
  rfl

/-- Settles O50: the frame is taken, and its answer's status is decided by its code and the port's role alone. -/
theorem badFramesAndRolesAnswered : Obligations.BadFramesAndRolesAnswered := by
  unfold Obligations.BadFramesAndRolesAnswered
  refine ⟨fun s p => ⟨fun h => ?_, fun c rest h hlen hno => ?_⟩, fun c p s code hp hcode hfront hrole =>
    request_outside_role hp hcode hfront (admits_eq_false hrole)⟩
  · rw [garbledFrame_answered h, answerAt_takenOn]; rfl
  · have hcode : byte (c.toNat ||| 0x80) = c ||| 0x80 := by
      apply BitVec.eq_of_toNat_eq
      simp [byte]
    rw [unknownRequestCode_answered h hlen hno, answerAt_takenOn, hcode]
    refine ⟨fun hunknown => ?_, fun hknown hdenied => ?_⟩
    · have hadmits : ¬(isRequestCode c.toNat = true ∧ s.ports[p].role.admits c.toNat = false) :=
        fun ⟨hknown, hdenied⟩ => hunknown.elim (fun h => by cases h.symm.trans hknown) fun h => by cases h.symm.trans hdenied
      rw [bodyStatus, if_neg hadmits]; rfl
    · rw [bodyStatus, if_pos ⟨hknown, hdenied⟩]; rfl

/-! ## SET_ROLE and SET_NOTICES (R194, R196) -/

theorem grantable_code {r : Role} (h : r ≠ .supervisor) (k : Role → Reply) : grantable r.code.toNat k = k r := by
  cases r with
  | supervisor => exact absurd rfl h
  | drive | inspect | monitor => rfl

theorem rolesBytes_eq (s : State) : rolesBytes s = (List.finRange 4).map fun i => s.ports[i].role.code :=
  List.ext_getElem (by simp [rolesBytes]) (by simp [rolesBytes])

theorem replySetRole_accept {p n : PortId} {r : Role} {s : State} (hn : n ≠ p) (hr : r ≠ .supervisor)
    (hidle : ∀ k : SlotId, slotState s k ≠ some .active ∧ slotState s k ≠ some .draining) :
    replySetRole p n r.code.toNat s =
      .accept { s with ports := s.ports.set n { s.ports[n] with role := r } }
        ((List.finRange 4).map fun i => (if i = n then r else s.ports[i].role).code) := by
  have hroles : rolesBytes (modifyPort n (fun q => { q with role := r }) s) =
      (List.finRange 4).map fun i => (if i = n then r else s.ports[i].role).code := by
    rw [rolesBytes_eq]
    refine List.map_congr_left fun i _ => ?_
    rw [modifyPort_ports, Fin.getElem_fin, updateAt_getElem]
    rcases eq_or_ne i n with rfl | hi
    · simp
    · rw [if_neg fun e => hi (Fin.ext e.symm), if_neg hi]; rfl
  have hne : (n != p) = true := by simpa using hn
  simp only [replySetRole, named_fin, grantable_code hr, hne, slotIn_isNone fun k => (hidle k).1,
    slotIn_isNone fun k => (hidle k).2, Bool.and_self, require_true, hroles]
  rfl

/-- Settles O43: the checks of the two requests pass, and each writes the one field that it names. -/
theorem rolesAndNoticesSet : Obligations.RolesAndNoticesSet := by
  intro p s
  refine ⟨fun n r hn hr hidle => ?_, fun c hc => ?_⟩
  · have h := replySetRole_accept (s := takenOn p s) hn hr hidle
    simp only [Fin.getElem_fin, takenOn_role] at h
    exact acceptedAs_of_reply rfl h
  · refine acceptedAs_of_reply (act := replySetNotices p c) rfl ?_
    simp only [replySetNotices, hc, decide_true, require_true]
    rfl

end Sys2Proof.Machine
end

section
/-! PROOFS. The queue of commands: a step takes the command at its front, and no command touches what waits behind it. -/

namespace Sys2Proof.Machine

/-- Settles O1: on a queue with a front, `step` is `exec` by its definition. -/
theorem stepRunsFrontCommand : Obligations.StepRunsFrontCommand :=
  fun _ _ _ => rfl

/-! ## The press -/

@[simp] theorem forwardEdge_pending (s : State) : (forwardEdge s).pending = s.pending := by
  unfold forwardEdge
  extract_lets p rl
  split
  · split <;> simp
  · split <;> simp

@[simp] theorem backedForward_pending (s : State) : (backedForward s).pending = s.pending := by
  unfold backedForward; split <;> rfl

@[simp] theorem reverseEdge_pending (s : State) : (reverseEdge s).pending = s.pending := by
  unfold reverseEdge; split <;> simp

@[simp] theorem backedReverse_pending (s : State) : (backedReverse s).pending = s.pending := by
  unfold backedReverse
  extract_lets d s1
  split <;> rfl

@[simp] theorem countedEdge_pending (d : Direction) (s : State) : (countedEdge d s).pending = s.pending := by
  unfold countedEdge; split <;> simp

@[simp] theorem judgeTransition_pending (r now : Levels) (s : State) : (judgeTransition r now s).pending = s.pending := by
  unfold judgeTransition
  extract_lets s1
  split <;> simp [s1]

@[simp] theorem watchEncoder_pending (s : State) : (watchEncoder s).pending = s.pending := by
  unfold watchEncoder; split <;> simp

@[simp] theorem indexSetsBack_pending (s : State) : (indexSetsBack s).pending = s.pending := by
  simp [indexSetsBack]

@[simp] theorem judgeIndex_pending (s : State) : (judgeIndex s).pending = s.pending := by
  unfold judgeIndex
  extract_lets p rl tol
  (repeat' split) <;> simp

@[simp] theorem takeIndex_pending (s : State) : (takeIndex s).pending = s.pending := by
  unfold takeIndex; split <;> simp

@[simp] theorem hearLine_pending (f : LineFunction) (level : Bool) (s : State) :
    (hearLine f level s).pending = s.pending := by
  cases f with
  | encA | encB => exact watchEncoder_pending s
  | index | mark k => cases level <;> simp [hearLine]
  | genIn | genOut | gate k | stopReq => rfl

/-! ## The head link -/

@[simp] theorem takeCompletion_pending (h : HeadId) (t : Cycle) (res : PrintResult) (s : State) :
    (takeCompletion h t res s).pending = s.pending := by
  unfold takeCompletion
  split
  · cases res <;> simp
  · rfl

@[simp] theorem setDevice_pending (h : HeadId) (d : Device) (s : State) : (setDevice h d s).pending = s.pending := by
  unfold setDevice; split <;> rfl

@[simp] theorem takeStateMessage_pending (h : HeadId) (rep : HeadReport) (s : State) :
    (takeStateMessage h rep s).pending = s.pending := by
  cases rep with
  | ready => exact setDevice_pending ..
  | fault => unfold takeStateMessage; simp only [setDevice_pending]; split <;> simp

@[simp] theorem takeHeadFrame_pending (f : RxFrame) (s : State) : (takeHeadFrame f s).pending = s.pending := by
  unfold takeHeadFrame; (repeat' split) <;> simp

/-! ## Draws in the background -/

@[simp] theorem endProbe_pending (p : Probe) (e : ProbeEnd) (s : State) : (endProbe p e s).pending = s.pending := rfl

@[simp] theorem endSkip_pending (k : Skip) (e : SkipEnd) (s : State) : (endSkip k e s).pending = s.pending := rfl

@[simp] theorem stepProbe_pending (p : Probe) (s : State) : (stepProbe p s).pending = s.pending := by
  unfold stepProbe
  split
  · rfl
  · split <;> rfl

theorem journalSkip_pending {k : Skip} {job : Nat} {x : Sequence} {v : Nat} {s t : State}
    (h : journalSkip k job x v s = some t) : t.pending = s.pending := by
  simp only [journalSkip] at h
  split at h
  · cases h; rfl
  · split at h
    · cases h; simp
    · cases h

@[simp] theorem commitSkip_pending (k : Skip) (x : Sequence) (v : Nat) (w : Bool) (s : State) :
    (commitSkip k x v w s).pending = s.pending := by
  unfold commitSkip
  extract_lets s1 k1
  split <;> rfl

@[simp] theorem stepSkip_pending (k : Skip) (c : Context) (x : Sequence) (s : State) :
    (stepSkip k c x s).pending = s.pending := by
  unfold stepSkip
  split
  · rfl
  · split
    · rfl
    · rename_i hs1
      simp [journalSkip_pending hs1]

/-! ## Frames that are taken -/

/-- A frame that is taken and served, or that must wait, leaves the queue when its service does. -/
theorem onFrame_pending {p : PortId} {body : List Byte} {f : State → State} (hf : ∀ u, (f u).pending = u.pending)
    (s : State) : (onFrame p body f s).pending = s.pending :=
  onFrame_ensures (P := fun t => t.pending = s.pending) (fun _ _ _ hu => hu) (fun u hu => (hf u).trans hu) rfl

/-- A command that is a request, whose acceptance leaves the queue, answers a next state and leaves it. -/
theorem request_completes {p : PortId} {c d : Instr} {act : State → Reply} {s : State} (h : exec c s = request p d act s)
    (ha : ∀ u, (act u).Ensures fun t => t.pending = u.pending) : ∃ t, exec c s = .next t ∧ t.pending = s.pending :=
  ⟨_, h, request_ensures (P := fun t => t.pending = s.pending) (fun _ _ _ hu => hu)
    (fun u hu => (ha u).mono fun _ ht => ht.trans hu) rfl rfl⟩

theorem takeFrame_pending (p : PortId) (f : RxFrame) (s : State) :
    (∀ t, takeFrame p f s = .waits t → t.pending = s.pending) ∧ ∀ t, takeFrame p f s = .taken t → t.pending = s.pending :=
  takeFrame_ensures (P := fun t => t.pending = s.pending) (fun _ _ _ hu => hu) rfl

/-! ## The requests whose effect is more than one update -/

@[simp] theorem journalExclusion_pending (k : SlotId) (c : Context) (q : SeqId) (a b : Nat) (s : State) :
    (journalExclusion k c q a b s).pending = s.pending := by
  unfold journalExclusion; split <;> simp

@[simp] theorem withdrawEntry_pending (k : SlotId) (c : Context) (q : SeqId) (e : QueueEntry) (s : State) :
    (withdrawEntry k c q e s).pending = s.pending := by
  simp [withdrawEntry]

@[simp] theorem makePending_pending (k : SlotId) (c : Context) (x : Cycle) (s : State) :
    (makePending k c x s).pending = s.pending := by
  simp [makePending, reserveContext]

@[simp] theorem withdrawActivation_pending (a : Activation) (s : State) :
    (withdrawActivation a s).pending = s.pending := by
  simp [withdrawActivation, returnContext]

@[simp] theorem suspendContext_pending (k : SlotId) (c : Context) (s : State) :
    (suspendContext k c s).pending = s.pending := by
  unfold suspendContext; split <;> simp

@[simp] theorem endQueues_pending (k : SlotId) (job : Nat) (s : State) : (endQueues k job s).pending = s.pending :=
  foldl_keeps State.pending (fun _ _ => foldl_keeps State.pending (fun _ _ => by simp [endEntry]) _ _) _ s

@[simp] theorem endJob_pending (k : SlotId) (c : Context) (s : State) : (endJob k c s).pending = s.pending := by
  simp [endJob]

@[simp] theorem releaseRecords_pending (n : Nat) (s : State) : (releaseRecords n s).pending = s.pending := by
  unfold releaseRecords; split <;> simp

@[simp] theorem clearStop_pending (c : StopCause) (s : State) : (clearStop c s).pending = s.pending := by
  cases c <;> simp [clearStop]

theorem replyCancelBackground_pending (s : State) :
    (replyCancelBackground s).Ensures fun t => t.pending = s.pending := by
  unfold replyCancelBackground
  split
  · trivial
  · exact ensures_require fun _ => rfl
  · exact ensures_require fun _ => rfl

theorem replyCancelActivation_pending (s : State) :
    (replyCancelActivation s).Ensures fun t => t.pending = s.pending := by
  unfold replyCancelActivation
  split
  · trivial
  · exact withdrawActivation_pending ..

theorem replyClearStop_pending (cause : Nat) (s : State) :
    (replyClearStop cause s).Ensures fun t => t.pending = s.pending :=
  ensures_coded fun c => by
    split
    · exact ensures_require fun _ => clearStop_pending c s
    · rfl

theorem replyReadSet_pending (tag page : Nat) (s : State) :
    (replyReadSet tag page s).Ensures fun t => t.pending = s.pending := by
  unfold replyReadSet
  split
  · trivial
  · rfl

theorem replyWithin_pending {c : Instr} {act : State → Reply} (hc : replyWithin c = some act) (s : State) :
    (act s).Ensures fun t => t.pending = s.pending := by
  cases h : act s with
  | refuse => trivial
  | accept t r =>
    rcases replyWithin_accept hc h with rfl | ⟨start, n, rfl⟩ | ⟨k, x, q, e, rfl⟩
    · rfl
    · rfl
    · exact withdrawEntry_pending ..

/-- A change of a context in BUILDING leaves the queue. -/
theorem building_pending {k : SlotId} {s : State} {f : Context → Context} {r : Context → List Byte} :
    (building s k fun c => .accept (modifyContext k f s) (r c)).Ensures fun t => t.pending = s.pending :=
  ensures_inState fun _ _ => rfl

/-! ## Every command -/

/-- Every command that is no request answers a next state with the queue as it was. -/
theorem exec_event_completes {c : Instr} (h : portOf c = none) (s : State) :
    ∃ t, exec c s = .next t ∧ t.pending = s.pending := by
  cases c with
  | deviceReset | orderFrameEnd | headFrameDiscard | portFrameReceived | portReset | frameSendStart | frameSendEnd
  | edgeAgeTick => exact ⟨_, rfl, rfl⟩
  | encoderTransition a b => exact ⟨_, rfl, watchEncoder_pending _⟩
  | indexEdge => exact ⟨_, rfl, by split <;> simp [setFunctionLevel]⟩
  | markEdge channel => exact ⟨_, rfl, by split <;> simp⟩
  | orderDeadline head => exact ⟨_, rfl, expireHead_pending ..⟩
  | orderSend => exact ⟨_, rfl, sendOrder_pending s⟩
  | completion head tag result => exact ⟨_, rfl, takeCompletion_pending ..⟩
  | stateMessage head report => exact ⟨_, rfl, takeStateMessage_pending ..⟩
  | headLinkGapTimeout | headLinkBadStopBit => exact ⟨_, rfl, by split <;> rfl⟩
  | headLinkByteReceived byte => exact ⟨_, rfl, by split <;> simp⟩
  | probeDraw => exact ⟨_, rfl, by (repeat' split) <;> simp⟩
  | skipDraw => exact ⟨_, rfl, by (repeat' split) <;> simp⟩
  | skipResume => exact ⟨_, rfl, resumeSkip_pending s⟩
  | frameGapTimeout port | badStopBit port => exact ⟨_, rfl, by unfold endGarbled; split <;> rfl⟩
  | portByteReceived port byte => exact ⟨_, rfl, by split <;> rfl⟩
  | garbledFrame port =>
    obtain ⟨hwaits, htaken⟩ := takeFrame_pending port .garbled s
    refine ⟨_, rfl, ?_⟩
    split
    · rename_i u hu; exact hwaits u hu
    · rename_i u hu; exact htaken u hu
  | unknownRequestCode port body =>
    refine ⟨_, rfl, ?_⟩
    split
    · rfl
    · exact onFrame_pending (fun _ => answerAt_pending ..) s
  | fieldLineLevelChange line level => exact ⟨_, rfl, by split <;> simp⟩
  | _ => cases h

/-- Every request answers a next state with the queue as it was: its checks read, and its effect is on the blocks. -/
theorem exec_request_completes {c : Instr} {p : PortId} (h : portOf c = some p) (s : State) :
    ∃ t, exec c s = .next t ∧ t.pending = s.pending := by
  cases c with
  | defineSequence p sl sq d f l st po sc =>
    exact request_completes rfl fun _ => ensures_named fun _ => ensures_named fun _ => ensures_require fun _ =>
      ensures_require fun _ => ensures_coded fun _ => ensures_coded fun _ => ensures_inState fun _ _ =>
      ensures_require fun _ => rfl
  | loadValue p sl sq v =>
    exact request_completes rfl fun _ => ensures_named fun _ => ensures_named fun _ => ensures_require fun _ =>
      ensures_inState fun _ _ => ensures_require fun _ => ensures_require fun _ => ensures_defined fun _ _ =>
      ensures_require fun _ => ensures_require fun _ => ensures_require fun _ => journalUnreserved_pending ..
  | addExclusion p sl sq a b =>
    exact request_completes rfl fun _ => ensures_named fun _ => ensures_named fun _ => ensures_require fun _ =>
      ensures_inState fun _ _ => ensures_defined fun _ _ => ensures_require fun _ => ensures_require fun _ =>
      (makeStale_pending ..).trans (journalExclusion_pending ..)
  | removeExclusion p sl sq a =>
    exact request_completes rfl fun _ => ensures_named fun _ => ensures_named fun _ => ensures_require fun _ =>
      ensures_inState fun _ _ => ensures_defined fun _ _ => ensures_require fun _ => makeStale_pending ..
  | probeSequence p sl sq n =>
    exact request_completes rfl fun _ => ensures_named fun _ => ensures_named fun _ => ensures_require fun _ =>
      ensures_inState fun _ _ => ensures_require fun _ => ensures_defined fun _ _ => rfl
  | skipAhead p sl sq n =>
    exact request_completes rfl fun _ => ensures_named fun _ => ensures_named fun _ => ensures_require fun _ =>
      ensures_inState fun _ _ => ensures_require fun _ => ensures_require fun _ => ensures_defined fun _ _ => rfl
  | cancelBackground p => exact request_completes rfl replyCancelBackground_pending
  | setWeb p r tol =>
    exact request_completes rfl fun _ => ensures_require fun _ => ensures_require fun _ => followMeasurement_pending _
  | setLags p m q g =>
    exact request_completes rfl fun _ => ensures_require fun _ => ensures_require fun _ => ensures_require fun _ =>
      ensures_require fun _ => rfl
  | defineEntry p sl e la mo so rf =>
    exact request_completes rfl fun _ => ensures_named fun _ => ensures_named fun _ => ensures_namedLane fun _ =>
      ensures_entryMode fun _ => ensures_inState fun _ _ => ensures_require fun _ => rfl
  | trimList p sl n =>
    exact request_completes rfl fun _ => ensures_named fun _ => ensures_require fun _ => building_pending
  | placeHead p hd pl =>
    exact request_completes rfl fun _ => ensures_named fun _ => ensures_placed fun _ => ensures_require fun _ => rfl
  | assignHead p sl hd a =>
    exact request_completes rfl fun _ => ensures_named fun _ => ensures_named fun _ => ensures_assigned fun _ =>
      building_pending
  | defineFormat p sl f items =>
    exact request_completes rfl fun _ => ensures_named fun _ => ensures_named fun _ => ensures_require fun _ =>
      ensures_coded fun _ => building_pending
  | defineMarks p sl ch en ps tol =>
    exact request_completes rfl fun _ => ensures_named fun _ => ensures_namedChannel fun _ => ensures_flag fun _ =>
      ensures_channelMarks fun _ => building_pending
  | setMarkWindow p sl m c =>
    exact request_completes rfl fun _ => ensures_named fun _ => ensures_require fun _ => building_pending
  | setInspection p sl la e =>
    exact request_completes rfl fun _ => ensures_named fun _ => ensures_namedLane fun _ => ensures_entryOrNone fun _ =>
      building_pending
  | setRegStop p n | setGate p n | rejectSets p t n m =>
    exact request_completes rfl fun _ => ensures_require fun _ => ensures_require fun _ => rfl
  | reportRead p la ds c =>
    exact request_completes rfl fun _ => ensures_namedLane fun _ => ensures_require fun _ => ensures_reportedCheck fun _ =>
      ensures_inWindow fun _ _ => rfl
  | reportDefect p la d =>
    exact request_completes rfl fun _ => ensures_namedLane fun _ => ensures_require fun _ => ensures_inWindow fun _ _ => rfl
  | releaseJournal p i => exact request_completes rfl fun _ => releaseRecords_pending ..
  | openContext p sl job lanes po li =>
    exact request_completes rfl fun _ => ensures_named fun _ => ensures_require fun _ => ensures_coded fun _ =>
      ensures_require fun _ => ensures_require fun _ => rfl
  | discard p sl =>
    exact request_completes rfl fun _ => ensures_named fun _ => ensures_inState fun _ _ => ensures_require fun _ => rfl
  | closeBuild p sl =>
    exact request_completes rfl fun _ => ensures_named fun _ => ensures_inState fun _ _ => ensures_consistent rfl
  | reopen p sl =>
    exact request_completes rfl fun _ => ensures_named fun _ => ensures_inState fun _ _ => ensures_require fun _ =>
      ensures_require fun _ => rfl
  | activate p sl e =>
    exact request_completes rfl fun _ => ensures_named fun _ => ensures_effectiveCycle fun _ => ensures_inState fun _ _ =>
      ensures_require fun _ => ensures_require fun _ => ensures_consistent <| ensures_require fun _ =>
      makePending_pending ..
  | cancelActivation p => exact request_completes rfl replyCancelActivation_pending
  | suspend p sl =>
    exact request_completes rfl fun _ => ensures_named fun _ => ensures_inState fun _ _ => ensures_require fun _ =>
      suspendContext_pending ..
  | flush p sl =>
    exact request_completes rfl fun _ => ensures_named fun _ => ensures_inState fun _ _ => ensures_require fun _ =>
      journalUnreserved_pending ..
  | endJob p sl =>
    exact request_completes rfl fun _ => ensures_named fun _ => ensures_inState fun _ _ => ensures_require fun _ =>
      ensures_require fun _ => ensures_require fun _ => endJob_pending ..
  | assignLine p li f u =>
    exact request_completes rfl fun _ => ensures_named fun _ => ensures_coded fun _ => ensures_flag fun _ =>
      ensures_require fun _ => ensures_require fun _ => rfl
  | setStop p => exact request_completes rfl fun u => latchStop_pending .operatorStop u
  | clearStop p c => exact request_completes rfl (replyClearStop_pending c)
  | setRole p n r =>
    exact request_completes rfl fun _ => ensures_named fun _ => ensures_grantable fun _ => ensures_require fun _ =>
      ensures_require fun _ => rfl
  | setNotices p c => exact request_completes rfl fun _ => ensures_require fun _ => rfl
  | openRun | closeRun | writeLines | readStatus | readRegistration | readLines | readBackground =>
    exact request_completes rfl fun _ => rfl
  | readHead p hd => exact request_completes rfl fun _ => ensures_named fun _ => rfl
  | readSet p tag pg => exact request_completes rfl (replyReadSet_pending tag (pg.getD 0))
  | withdrawReprint p sl sq v => exact request_completes rfl (replyWithin_pending (c := .withdrawReprint p sl sq v) rfl)
  | readSequence p sl sq pg => exact request_completes rfl (replyWithin_pending (c := .readSequence p sl sq pg) rfl)
  | readQueue p sl sq pg => exact request_completes rfl (replyWithin_pending (c := .readQueue p sl sq pg) rfl)
  | readContext p sl part f => exact request_completes rfl (replyWithin_pending (c := .readContext p sl part f) rfl)
  | readJournal p i n => exact request_completes rfl (replyWithin_pending (c := .readJournal p i n) rfl)
  | _ => cases h

/-- Settles O2: a command is a request on a port or it is none, and each kind completes. -/
theorem everyCommandCompletes : Obligations.EveryCommandCompletes := by
  intro c s
  cases h : portOf c with
  | none => exact exec_event_completes h s
  | some p => exact exec_request_completes h s

end Sys2Proof.Machine
end
